-- ==== Sys2Proof/Word.lean ====
section
/-! DEFINITION. The words of the machine: bytes, 16-bit words, 32-bit dwords, and the three operand widths
(00_scope.md R9, R10). -/

namespace Sys2Proof

/-- A byte is 8 bits (R9). -/
abbrev Byte := BitVec 8

/-- A word is 16 bits (R9). -/
abbrev W16 := BitVec 16

/-- A dword is 32 bits (R9); every operand value is carried in one, zero-extended. -/
abbrev W32 := BitVec 32

/-- The operand widths of the core: 8, 16 and 32 bits (R11). -/
inductive Width where
  | w8
  | w16
  | w32
deriving DecidableEq, Repr

/-- The width in bits. -/
def Width.bits : Width → Nat
  | .w8 => 8
  | .w16 => 16
  | .w32 => 32

/-- The width in bytes. -/
def Width.bytes : Width → Nat
  | .w8 => 1
  | .w16 => 2
  | .w32 => 4

end Sys2Proof
end

