-- ==== Sys2Proof/Config.lean ====
section
/-! DEFINITION. What a configuration fixes: the numbers of 00_scope.md R6, and the platform's own functions, which the
spec leaves to the platform (R7, 60_exceptions.md R716, R718) and which therefore have no body here. -/

namespace Sys2Proof

/-- One call the core has made on the platform, as the platform saw it (R718, R716). The list of them, oldest last, is
all that the platform's answers may depend on in this model (log entry 5). -/
inductive PlatEvent where
  /-- A registered read handler was called with this port at this width. -/
  | portRead (port : W16) (w : Width)
  /-- A registered write handler was called with this port and value at this width. -/
  | portWrite (port : W16) (w : Width) (v : W32)
  /-- The interrupt acknowledge was called. -/
  | ack
deriving DecidableEq, Repr

namespace Config

/-- TLB_LIST_MAX: the capacity of the eviction list (R6, R81). -/
def tlbListMax : Nat := 2048

/-- MAX_INSN_LEN: the longest encoding in bytes (R6, R221). -/
def maxInsnLen : Nat := 15

/-- The system-flag bits of EFLAGS: TF, IF, IOPL, NT, AC, ID (R48). -/
def sysFlagMask : W32 := 0x00247300#32

/-- The six arithmetic flags of the EFLAGS image: CF, PF, AF, ZF, SF, OF (R49). -/
def arithFlagMask : W32 := 0x000008D5#32

/-- RM_RIGHTS: the rights of a register loaded in real-address mode (R73). -/
def realModeRights : W32 := 0x00009300#32

/-- The largest physical memory: 2^32 bytes (R7). -/
def memSizeMax : Nat := 4294967296

/-- FREE VALUE (R7, R718, U7): what a registered read handler answers, given the calls made so far, the port and the
width; the core truncates it to the width. Log entry 5. -/
opaque portAnswer : List PlatEvent → W16 → Width → W32

/-- FREE VALUE (R7, R716, U7): the vector the acknowledge callback returns, given the calls made before it.
Log entry 5. -/
opaque ackVector : List PlatEvent → Byte

/-- FREE VALUE (R716, R718, U7): whether the interrupt line is asserted after a call on the platform, given the calls
made so far, that one included. Log entry 5. -/
opaque irqAfter : List PlatEvent → Bool

end Config

end Sys2Proof
end

