-- ==== Sys2Proof/Syntax.lean ====
section
/-! DEFINITION. The instructions, whole: the rows of the opcode table (30_encoding.md R250 to R257, R262), with their
operands as the decoder reads them. -/

namespace Sys2Proof

/-- The eight general registers by number (R41). The same number as an 8-bit operand names AL, CL, DL, BL, AH, CH, DH,
BH in this order. -/
inductive Reg where
  | eax | ecx | edx | ebx | esp | ebp | esi | edi
deriving DecidableEq, Repr

/-- The eight segment registers by number (R67). -/
inductive Sreg where
  | es | cs | ss | ds | fs | gs | ldtr | tr
deriving DecidableEq, Repr

/-- The sixteen conditions by number (R59). -/
inductive Cond where
  | o | no | b | nb | z | nz | be | nbe | s | ns | p | np | l | nl | le | nle
deriving DecidableEq, Repr

/-- The eight base forms of 16-bit addressing by number (R233). -/
inductive Base16 where
  | bxsi | bxdi | bpsi | bpdi | si | di | bp | bx
deriving DecidableEq, Repr

/-- The displacement after a memory form: none (mod 0), one byte (mod 1), or n bits (mod 2) (R231, R233). -/
inductive Disp (n : Nat) where
  | none
  | d8 (d : Byte)
  | dn (d : BitVec n)
deriving DecidableEq, Repr

/-- The r/m operand as decoded: a register or one of the addressing forms of R231 to R233. -/
inductive Rm where
  /-- mod 3: a register. -/
  | reg (r : Reg)
  /-- 16-bit addressing, mod 0 and rm 6: a 16-bit displacement alone. -/
  | abs16 (d : W16)
  /-- 16-bit addressing from one or two registers. -/
  | ind16 (b : Base16) (d : Disp 16)
  /-- 32-bit addressing, mod 0 and rm 5: a 32-bit displacement alone. -/
  | abs32 (d : W32)
  /-- 32-bit addressing from one register (not ESP, whose number announces a SIB byte). -/
  | ind32 (b : Reg) (d : Disp 32)
  /-- 32-bit addressing with a SIB byte; index ESP means no index (R232). -/
  | sib (scale : BitVec 2) (index base : Reg) (d : Disp 32)
  /-- A SIB byte with base 5 and mod 0: a 32-bit displacement in place of the base (R232). -/
  | sibAbs (scale : BitVec 2) (index : Reg) (d : W32)
  /-- Decoding ended at the ModRM byte, because the instruction raises the invalid-opcode exception there (R262). -/
  | cut (mod : BitVec 2) (rm : BitVec 3)
  /-- Decoding ended at the opcode byte, because the instruction raises the invalid-opcode exception there (R262). -/
  | absent
deriving DecidableEq, Repr

/-- An immediate of the operand size or a direct offset of the address size: 16 or 32 bits (R237). -/
inductive ImmV where
  | i16 (v : W16)
  | i32 (v : W32)
deriving DecidableEq, Repr

/-- The instructions and the eleven prefixes: one constructor for each row of the opcode table, but for three rows of
the same words. Opcodes 80 and 82 are two rows of one mnemonic ("same as 80", R252) and share a constructor, whose Bool
says that the opcode was 82. INC rv and DEC rv (40 to 4F) have one constructor for each opcode byte, as the table itself
gives XCHG eAX (91 to 97) one row for each. Argument types: `Rm` the r/m operand, `Reg` a register operand, `Cond` a
condition, `Byte`/`W16`/`ImmV` immediates and displacements, `BitVec 3` a raw reg field (a segment, control or debug
register number, or an ignored field). The `ud` constructors are the rows the core answers with the invalid-opcode
exception. Constructors with operands stand first: the Lean runtime numbers at most 244 of those. -/
inductive Instr where
  | addRm8R8 (rm : Rm) (r : Reg)
  | addRmvRv (rm : Rm) (r : Reg)
  | addR8Rm8 (r : Reg) (rm : Rm)
  | addRvRmv (r : Reg) (rm : Rm)
  | addAlImm8 (ib : Byte)
  | addEaxImmv (iv : ImmV)
  | orRm8R8 (rm : Rm) (r : Reg)
  | orRmvRv (rm : Rm) (r : Reg)
  | orR8Rm8 (r : Reg) (rm : Rm)
  | orRvRmv (r : Reg) (rm : Rm)
  | orAlImm8 (ib : Byte)
  | orEaxImmv (iv : ImmV)
  | adcRm8R8 (rm : Rm) (r : Reg)
  | adcRmvRv (rm : Rm) (r : Reg)
  | adcR8Rm8 (r : Reg) (rm : Rm)
  | adcRvRmv (r : Reg) (rm : Rm)
  | adcAlImm8 (ib : Byte)
  | adcEaxImmv (iv : ImmV)
  | sbbRm8R8 (rm : Rm) (r : Reg)
  | sbbRmvRv (rm : Rm) (r : Reg)
  | sbbR8Rm8 (r : Reg) (rm : Rm)
  | sbbRvRmv (r : Reg) (rm : Rm)
  | sbbAlImm8 (ib : Byte)
  | sbbEaxImmv (iv : ImmV)
  | andRm8R8 (rm : Rm) (r : Reg)
  | andRmvRv (rm : Rm) (r : Reg)
  | andR8Rm8 (r : Reg) (rm : Rm)
  | andRvRmv (r : Reg) (rm : Rm)
  | andAlImm8 (ib : Byte)
  | andEaxImmv (iv : ImmV)
  | subRm8R8 (rm : Rm) (r : Reg)
  | subRmvRv (rm : Rm) (r : Reg)
  | subR8Rm8 (r : Reg) (rm : Rm)
  | subRvRmv (r : Reg) (rm : Rm)
  | subAlImm8 (ib : Byte)
  | subEaxImmv (iv : ImmV)
  | xorRm8R8 (rm : Rm) (r : Reg)
  | xorRmvRv (rm : Rm) (r : Reg)
  | xorR8Rm8 (r : Reg) (rm : Rm)
  | xorRvRmv (r : Reg) (rm : Rm)
  | xorAlImm8 (ib : Byte)
  | xorEaxImmv (iv : ImmV)
  | cmpRm8R8 (rm : Rm) (r : Reg)
  | cmpRmvRv (rm : Rm) (r : Reg)
  | cmpR8Rm8 (r : Reg) (rm : Rm)
  | cmpRvRmv (r : Reg) (rm : Rm)
  | cmpAlImm8 (ib : Byte)
  | cmpEaxImmv (iv : ImmV)
  | pushRv (r : Reg)
  | popRv (r : Reg)
  | boundRvM (r : Reg) (rm : Rm)
  | arplRm16R16 (rm : Rm) (r : Reg)
  | pushImmv (iv : ImmV)
  | imulRvRmvImmv (r : Reg) (rm : Rm) (iv : ImmV)
  | pushImm8 (ib : Byte)
  | imulRvRmvImm8 (r : Reg) (rm : Rm) (ib : Byte)
  | jccRel8 (cc : Cond) (d8 : Byte)
  | addRm8Imm8 (x82 : Bool) (rm : Rm) (ib : Byte)
  | orRm8Imm8 (x82 : Bool) (rm : Rm) (ib : Byte)
  | adcRm8Imm8 (x82 : Bool) (rm : Rm) (ib : Byte)
  | sbbRm8Imm8 (x82 : Bool) (rm : Rm) (ib : Byte)
  | andRm8Imm8 (x82 : Bool) (rm : Rm) (ib : Byte)
  | subRm8Imm8 (x82 : Bool) (rm : Rm) (ib : Byte)
  | xorRm8Imm8 (x82 : Bool) (rm : Rm) (ib : Byte)
  | cmpRm8Imm8 (x82 : Bool) (rm : Rm) (ib : Byte)
  | addRmvImmv (rm : Rm) (iv : ImmV)
  | orRmvImmv (rm : Rm) (iv : ImmV)
  | adcRmvImmv (rm : Rm) (iv : ImmV)
  | sbbRmvImmv (rm : Rm) (iv : ImmV)
  | andRmvImmv (rm : Rm) (iv : ImmV)
  | subRmvImmv (rm : Rm) (iv : ImmV)
  | xorRmvImmv (rm : Rm) (iv : ImmV)
  | cmpRmvImmv (rm : Rm) (iv : ImmV)
  | addRmvImm8 (rm : Rm) (ib : Byte)
  | orRmvImm8 (rm : Rm) (ib : Byte)
  | adcRmvImm8 (rm : Rm) (ib : Byte)
  | sbbRmvImm8 (rm : Rm) (ib : Byte)
  | andRmvImm8 (rm : Rm) (ib : Byte)
  | subRmvImm8 (rm : Rm) (ib : Byte)
  | xorRmvImm8 (rm : Rm) (ib : Byte)
  | cmpRmvImm8 (rm : Rm) (ib : Byte)
  | testRm8R8 (rm : Rm) (r : Reg)
  | testRmvRv (rm : Rm) (r : Reg)
  | xchgRm8R8 (rm : Rm) (r : Reg)
  | xchgRmvRv (rm : Rm) (r : Reg)
  | movRm8R8 (rm : Rm) (r : Reg)
  | movRmvRv (rm : Rm) (r : Reg)
  | movR8Rm8 (r : Reg) (rm : Rm)
  | movRvRmv (r : Reg) (rm : Rm)
  | movRm16Sreg (rm : Rm) (n : BitVec 3)
  | leaRvM (r : Reg) (rm : Rm)
  | movSregRm16 (n : BitVec 3) (rm : Rm)
  | popRmv (rm : Rm)
  | callPtr (off : ImmV) (sel : W16)
  | movAlMoffs (ia : ImmV)
  | movEaxMoffs (ia : ImmV)
  | movMoffsAl (ia : ImmV)
  | movMoffsEax (ia : ImmV)
  | testAlImm8 (ib : Byte)
  | testEaxImmv (iv : ImmV)
  | movR8Imm8 (r : Reg) (ib : Byte)
  | movRvImmv (r : Reg) (iv : ImmV)
  | rolRm8Imm8 (rm : Rm) (ib : Byte)
  | rorRm8Imm8 (rm : Rm) (ib : Byte)
  | rclRm8Imm8 (rm : Rm) (ib : Byte)
  | rcrRm8Imm8 (rm : Rm) (ib : Byte)
  | shlRm8Imm8 (rm : Rm) (ib : Byte)
  | shrRm8Imm8 (rm : Rm) (ib : Byte)
  | salRm8Imm8 (rm : Rm) (ib : Byte)
  | sarRm8Imm8 (rm : Rm) (ib : Byte)
  | rolRmvImm8 (rm : Rm) (ib : Byte)
  | rorRmvImm8 (rm : Rm) (ib : Byte)
  | rclRmvImm8 (rm : Rm) (ib : Byte)
  | rcrRmvImm8 (rm : Rm) (ib : Byte)
  | shlRmvImm8 (rm : Rm) (ib : Byte)
  | shrRmvImm8 (rm : Rm) (ib : Byte)
  | salRmvImm8 (rm : Rm) (ib : Byte)
  | sarRmvImm8 (rm : Rm) (ib : Byte)
  | rolRm8One (rm : Rm)
  | rorRm8One (rm : Rm)
  | rclRm8One (rm : Rm)
  | rcrRm8One (rm : Rm)
  | shlRm8One (rm : Rm)
  | shrRm8One (rm : Rm)
  | salRm8One (rm : Rm)
  | sarRm8One (rm : Rm)
  | rolRmvOne (rm : Rm)
  | rorRmvOne (rm : Rm)
  | rclRmvOne (rm : Rm)
  | rcrRmvOne (rm : Rm)
  | shlRmvOne (rm : Rm)
  | shrRmvOne (rm : Rm)
  | salRmvOne (rm : Rm)
  | sarRmvOne (rm : Rm)
  | rolRm8Cl (rm : Rm)
  | rorRm8Cl (rm : Rm)
  | rclRm8Cl (rm : Rm)
  | rcrRm8Cl (rm : Rm)
  | shlRm8Cl (rm : Rm)
  | shrRm8Cl (rm : Rm)
  | salRm8Cl (rm : Rm)
  | sarRm8Cl (rm : Rm)
  | rolRmvCl (rm : Rm)
  | rorRmvCl (rm : Rm)
  | rclRmvCl (rm : Rm)
  | rcrRmvCl (rm : Rm)
  | shlRmvCl (rm : Rm)
  | shrRmvCl (rm : Rm)
  | salRmvCl (rm : Rm)
  | sarRmvCl (rm : Rm)
  | retImm16 (iw : W16)
  | lesRvM (r : Reg) (rm : Rm)
  | ldsRvM (r : Reg) (rm : Rm)
  | movRm8Imm8 (rm : Rm) (ib : Byte)
  | movRmvImmv (rm : Rm) (iv : ImmV)
  | enter (iw : W16) (lvl : Byte)
  | retfImm16 (iw : W16)
  | intImm8 (ib : Byte)
  | aam (ib : Byte)
  | aad (ib : Byte)
  | esc (esc : BitVec 3) (n : BitVec 3) (rm : Rm)
  | loopneRel8 (d8 : Byte)
  | loopeRel8 (d8 : Byte)
  | loopRel8 (d8 : Byte)
  | jcxzRel8 (d8 : Byte)
  | inAlImm8 (ib : Byte)
  | inEaxImm8 (ib : Byte)
  | outImm8Al (ib : Byte)
  | outImm8Eax (ib : Byte)
  | callRelv (dv : ImmV)
  | jmpRelv (dv : ImmV)
  | jmpPtr (off : ImmV) (sel : W16)
  | jmpRel8 (d8 : Byte)
  | testRm8Imm8 (rm : Rm) (ib : Byte)
  | notRm8 (rm : Rm)
  | negRm8 (rm : Rm)
  | mulRm8 (rm : Rm)
  | imulRm8 (rm : Rm)
  | divRm8 (rm : Rm)
  | idivRm8 (rm : Rm)
  | testRmvImmv (rm : Rm) (iv : ImmV)
  | notRmv (rm : Rm)
  | negRmv (rm : Rm)
  | mulRmv (rm : Rm)
  | imulRmv (rm : Rm)
  | divRmv (rm : Rm)
  | idivRmv (rm : Rm)
  | incRm8 (rm : Rm)
  | decRm8 (rm : Rm)
  | incRmv (rm : Rm)
  | decRmv (rm : Rm)
  | callRmv (rm : Rm)
  | callM (rm : Rm)
  | jmpRmv (rm : Rm)
  | jmpM (rm : Rm)
  | pushRmv (rm : Rm)
  | sldtRm16 (rm : Rm)
  | strRm16 (rm : Rm)
  | lldtRm16 (rm : Rm)
  | ltrRm16 (rm : Rm)
  | verrRm16 (rm : Rm)
  | verwRm16 (rm : Rm)
  | sgdtM (rm : Rm)
  | sidtM (rm : Rm)
  | lgdtM (rm : Rm)
  | lidtM (rm : Rm)
  | smswRm16 (rm : Rm)
  | lmswRm16 (rm : Rm)
  | invlpgM (rm : Rm)
  | larRvRm16 (r : Reg) (rm : Rm)
  | lslRvRm16 (r : Reg) (rm : Rm)
  | movR32Cr (rm : Rm) (n : BitVec 3)
  | movCrR32 (n : BitVec 3) (rm : Rm)
  | movDrR32 (n : BitVec 3) (rm : Rm)
  | cmovRvRmv (cc : Cond) (r : Reg) (rm : Rm)
  | jccRelv (cc : Cond) (dv : ImmV)
  | setccRm8 (cc : Cond) (n : BitVec 3) (rm : Rm)
  | btRmvRv (rm : Rm) (r : Reg)
  | shldImm8 (rm : Rm) (r : Reg) (ib : Byte)
  | shldCl (rm : Rm) (r : Reg)
  | btsRmvRv (rm : Rm) (r : Reg)
  | shrdImm8 (rm : Rm) (r : Reg) (ib : Byte)
  | shrdCl (rm : Rm) (r : Reg)
  | imulRvRmv (r : Reg) (rm : Rm)
  | cmpxchgRm8R8 (rm : Rm) (r : Reg)
  | cmpxchgRmvRv (rm : Rm) (r : Reg)
  | lssRvM (r : Reg) (rm : Rm)
  | btrRmvRv (rm : Rm) (r : Reg)
  | lfsRvM (r : Reg) (rm : Rm)
  | lgsRvM (r : Reg) (rm : Rm)
  | movzxRvRm8 (r : Reg) (rm : Rm)
  | movzxRvRm16 (r : Reg) (rm : Rm)
  | btRmvImm8 (rm : Rm) (ib : Byte)
  | btsRmvImm8 (rm : Rm) (ib : Byte)
  | btrRmvImm8 (rm : Rm) (ib : Byte)
  | btcRmvImm8 (rm : Rm) (ib : Byte)
  | btcRmvRv (rm : Rm) (r : Reg)
  | bsfRvRmv (r : Reg) (rm : Rm)
  | bsrRvRmv (r : Reg) (rm : Rm)
  | movsxRvRm8 (r : Reg) (rm : Rm)
  | movsxRvRm16 (r : Reg) (rm : Rm)
  | xaddRm8R8 (rm : Rm) (r : Reg)
  | xaddRmvRv (rm : Rm) (r : Reg)
  | bswapR32 (r : Reg)
  | pfxEs
  | pfxCs
  | pfxSs
  | pfxDs
  | pfxFs
  | pfxGs
  | pfxOpsize
  | pfxAddrsize
  | pfxRepne
  | pfxRep
  | pfxLock
  | pushEs
  | pushCs
  | pushSs
  | pushDs
  | popEs
  | popSs
  | popDs
  | daa
  | das
  | aaa
  | aas
  | incEax
  | incEcx
  | incEdx
  | incEbx
  | incEsp
  | incEbp
  | incEsi
  | incEdi
  | decEax
  | decEcx
  | decEdx
  | decEbx
  | decEsp
  | decEbp
  | decEsi
  | decEdi
  | pusha
  | popa
  | insb
  | insv
  | outsb
  | outsv
  | nop
  | xchgEaxEcx
  | xchgEaxEdx
  | xchgEaxEbx
  | xchgEaxEsp
  | xchgEaxEbp
  | xchgEaxEsi
  | xchgEaxEdi
  | cbw
  | cwd
  | fwait
  | pushf
  | popf
  | sahf
  | lahf
  | movsb
  | movsv
  | cmpsb
  | cmpsv
  | stosb
  | stosv
  | lodsb
  | lodsv
  | scasb
  | scasv
  | ret
  | leave
  | retf
  | int3
  | into
  | iret
  | xlat
  | inAlDx
  | inEaxDx
  | outDxAl
  | outDxEax
  | hlt
  | cmc
  | clc
  | stc
  | cli
  | sti
  | cld
  | std
  | clts
  | invd
  | wbinvd
  | rdtsc
  | pushFs
  | popFs
  | cpuid
  | pushGs
  | popGs
  | udD6
  | udF1
  | udF6Ext1
  | udF7Ext1
  | udFEExt2
  | udFEExt3
  | udFEExt4
  | udFEExt5
  | udFEExt6
  | udFEExt7
  | udFFExt7
  | ud8FExt1
  | ud8FExt2
  | ud8FExt3
  | ud8FExt4
  | ud8FExt5
  | ud8FExt6
  | ud8FExt7
  | udC6Ext1
  | udC6Ext2
  | udC6Ext3
  | udC6Ext4
  | udC6Ext5
  | udC6Ext6
  | udC6Ext7
  | udC7Ext1
  | udC7Ext2
  | udC7Ext3
  | udC7Ext4
  | udC7Ext5
  | udC7Ext6
  | udC7Ext7
  | ud0F00Ext6
  | ud0F00Ext7
  | ud0F01Ext5
  | ud0FBAExt0
  | ud0FBAExt1
  | ud0FBAExt2
  | ud0FBAExt3
  | ud0F04
  | ud0F05
  | ud0F07
  | ud0F0A
  | ud0F0B
  | ud0F0C
  | ud0F0D
  | ud0F0E
  | ud0F0F
  | ud0F10
  | ud0F11
  | ud0F12
  | ud0F13
  | ud0F14
  | ud0F15
  | ud0F16
  | ud0F17
  | ud0F18
  | ud0F19
  | ud0F1A
  | ud0F1B
  | ud0F1C
  | ud0F1D
  | ud0F1E
  | ud0F1F
  | ud0F21
  | ud0F24
  | ud0F25
  | ud0F26
  | ud0F27
  | ud0F28
  | ud0F29
  | ud0F2A
  | ud0F2B
  | ud0F2C
  | ud0F2D
  | ud0F2E
  | ud0F2F
  | ud0F30
  | ud0F32
  | ud0F33
  | ud0F34
  | ud0F35
  | ud0F36
  | ud0F37
  | ud0F38
  | ud0F39
  | ud0F3A
  | ud0F3B
  | ud0F3C
  | ud0F3D
  | ud0F3E
  | ud0F3F
  | ud0F50
  | ud0F51
  | ud0F52
  | ud0F53
  | ud0F54
  | ud0F55
  | ud0F56
  | ud0F57
  | ud0F58
  | ud0F59
  | ud0F5A
  | ud0F5B
  | ud0F5C
  | ud0F5D
  | ud0F5E
  | ud0F5F
  | ud0F60
  | ud0F61
  | ud0F62
  | ud0F63
  | ud0F64
  | ud0F65
  | ud0F66
  | ud0F67
  | ud0F68
  | ud0F69
  | ud0F6A
  | ud0F6B
  | ud0F6C
  | ud0F6D
  | ud0F6E
  | ud0F6F
  | ud0F70
  | ud0F71
  | ud0F72
  | ud0F73
  | ud0F74
  | ud0F75
  | ud0F76
  | ud0F77
  | ud0F78
  | ud0F79
  | ud0F7A
  | ud0F7B
  | ud0F7C
  | ud0F7D
  | ud0F7E
  | ud0F7F
  | ud0FA6
  | ud0FA7
  | ud0FAA
  | ud0FAE
  | ud0FB8
  | ud0FB9
  | ud0FC2
  | ud0FC3
  | ud0FC4
  | ud0FC5
  | ud0FC6
  | ud0FC7
  | ud0FD0
  | ud0FD1
  | ud0FD2
  | ud0FD3
  | ud0FD4
  | ud0FD5
  | ud0FD6
  | ud0FD7
  | ud0FD8
  | ud0FD9
  | ud0FDA
  | ud0FDB
  | ud0FDC
  | ud0FDD
  | ud0FDE
  | ud0FDF
  | ud0FE0
  | ud0FE1
  | ud0FE2
  | ud0FE3
  | ud0FE4
  | ud0FE5
  | ud0FE6
  | ud0FE7
  | ud0FE8
  | ud0FE9
  | ud0FEA
  | ud0FEB
  | ud0FEC
  | ud0FED
  | ud0FEE
  | ud0FEF
  | ud0FF0
  | ud0FF1
  | ud0FF2
  | ud0FF3
  | ud0FF4
  | ud0FF5
  | ud0FF6
  | ud0FF7
  | ud0FF8
  | ud0FF9
  | ud0FFA
  | ud0FFB
  | ud0FFC
  | ud0FFD
  | ud0FFE
  | ud0FFF
deriving DecidableEq, Repr

/-- The rows of the table that are prefixes: they change the decode state and the next byte is decoded (R222, R223). -/
def Instr.isPfx : Instr → Bool
  | .pfxEs | .pfxCs | .pfxSs | .pfxDs | .pfxFs | .pfxGs | .pfxOpsize | .pfxAddrsize | .pfxRepne | .pfxRep | .pfxLock => true
  | _ => false

/-- The register number (R41). -/
def Reg.num : Reg → BitVec 3
  | .eax => 0#3 | .ecx => 1#3 | .edx => 2#3 | .ebx => 3#3 | .esp => 4#3 | .ebp => 5#3 | .esi => 6#3 | .edi => 7#3

/-- The segment register number (R67). -/
def Sreg.num : Sreg → BitVec 3
  | .es => 0#3 | .cs => 1#3 | .ss => 2#3 | .ds => 3#3 | .fs => 4#3 | .gs => 5#3 | .ldtr => 6#3 | .tr => 7#3

/-- The condition number (R59). -/
def Cond.num : Cond → BitVec 4
  | .o => 0#4 | .no => 1#4 | .b => 2#4 | .nb => 3#4 | .z => 4#4 | .nz => 5#4 | .be => 6#4 | .nbe => 7#4
  | .s => 8#4 | .ns => 9#4 | .p => 10#4 | .np => 11#4 | .l => 12#4 | .nl => 13#4 | .le => 14#4 | .nle => 15#4

/-- The r/m number of a 16-bit addressing form (R233). -/
def Base16.num : Base16 → BitVec 3
  | .bxsi => 0#3 | .bxdi => 1#3 | .bpsi => 2#3 | .bpdi => 3#3 | .si => 4#3 | .di => 5#3 | .bp => 6#3 | .bx => 7#3

/-- The bits of an immediate, zero-extended to 32. -/
def ImmV.val : ImmV → W32
  | .i16 v => v.setWidth 32
  | .i32 v => v

end Sys2Proof
end

