-- ==== Sys2Proof/WellFormed.lean ====
section
/-! DEFINITION. Well-formed instructions: those the decoder can answer in a given mode (30_encoding.md R226, R227,
R231 to R241, R262). -/

namespace Sys2Proof

/-- What decoding depends on beside the bytes: the operand size and the address size in force (true for 32 bits, R226,
R227), and CR0.PE (R600). -/
structure Mode where
  osz32 : Bool
  asz32 : Bool
  pe : Bool
deriving DecidableEq, Repr

/-- A complete r/m operand of the address size in force. The forms no ModRM byte encodes are excluded: BP or EBP as a
base with no displacement, ESP as a base without a SIB byte. -/
def Rm.ok (m : Mode) : Rm → Bool
  | .reg _ => true
  | .abs16 _ => !m.asz32
  | .ind16 b d => !m.asz32 && !(b == .bp && d == .none)
  | .abs32 _ => m.asz32
  | .ind32 b d => m.asz32 && b != .esp && !(b == .ebp && d == .none)
  | .sib _ _ base d => m.asz32 && !(base == .ebp && d == .none)
  | .sibAbs _ _ _ => m.asz32
  | .cut _ _ => false
  | .absent => false

/-- Decoding ended at this ModRM byte. -/
def Rm.isCut : Rm → Bool
  | .cut _ _ => true
  | _ => false

/-- The r/m operand of a register-only form (mod 3); another mod field ends decoding (R241). -/
def Rm.okMod3 : Rm → Bool
  | .reg _ => true
  | .cut mod _ => mod != 3#2
  | _ => false

/-- An immediate of the operand size. -/
def ImmV.okOsz (m : Mode) : ImmV → Bool
  | .i16 _ => !m.osz32
  | .i32 _ => m.osz32

/-- A direct offset of the address size. -/
def ImmV.okAsz (m : Mode) : ImmV → Bool
  | .i16 _ => !m.asz32
  | .i32 _ => m.asz32

/-- Every operand of the instruction is one that its encoding has in the mode. -/
def WellFormed (m : Mode) : Instr → Bool
  | .addRm8R8 rm _ => rm.ok m
  | .addRmvRv rm _ => rm.ok m
  | .addR8Rm8 _ rm => rm.ok m
  | .addRvRmv _ rm => rm.ok m
  | .addAlImm8 _ => true
  | .addEaxImmv iv => iv.okOsz m
  | .orRm8R8 rm _ => rm.ok m
  | .orRmvRv rm _ => rm.ok m
  | .orR8Rm8 _ rm => rm.ok m
  | .orRvRmv _ rm => rm.ok m
  | .orAlImm8 _ => true
  | .orEaxImmv iv => iv.okOsz m
  | .adcRm8R8 rm _ => rm.ok m
  | .adcRmvRv rm _ => rm.ok m
  | .adcR8Rm8 _ rm => rm.ok m
  | .adcRvRmv _ rm => rm.ok m
  | .adcAlImm8 _ => true
  | .adcEaxImmv iv => iv.okOsz m
  | .sbbRm8R8 rm _ => rm.ok m
  | .sbbRmvRv rm _ => rm.ok m
  | .sbbR8Rm8 _ rm => rm.ok m
  | .sbbRvRmv _ rm => rm.ok m
  | .sbbAlImm8 _ => true
  | .sbbEaxImmv iv => iv.okOsz m
  | .andRm8R8 rm _ => rm.ok m
  | .andRmvRv rm _ => rm.ok m
  | .andR8Rm8 _ rm => rm.ok m
  | .andRvRmv _ rm => rm.ok m
  | .andAlImm8 _ => true
  | .andEaxImmv iv => iv.okOsz m
  | .subRm8R8 rm _ => rm.ok m
  | .subRmvRv rm _ => rm.ok m
  | .subR8Rm8 _ rm => rm.ok m
  | .subRvRmv _ rm => rm.ok m
  | .subAlImm8 _ => true
  | .subEaxImmv iv => iv.okOsz m
  | .xorRm8R8 rm _ => rm.ok m
  | .xorRmvRv rm _ => rm.ok m
  | .xorR8Rm8 _ rm => rm.ok m
  | .xorRvRmv _ rm => rm.ok m
  | .xorAlImm8 _ => true
  | .xorEaxImmv iv => iv.okOsz m
  | .cmpRm8R8 rm _ => rm.ok m
  | .cmpRmvRv rm _ => rm.ok m
  | .cmpR8Rm8 _ rm => rm.ok m
  | .cmpRvRmv _ rm => rm.ok m
  | .cmpAlImm8 _ => true
  | .cmpEaxImmv iv => iv.okOsz m
  | .pushRv _ => true
  | .popRv _ => true
  | .boundRvM _ rm => rm.ok m
  | .arplRm16R16 rm r => (if m.pe then rm.ok m else rm == .absent && r == .eax)
  | .pushImmv iv => iv.okOsz m
  | .imulRvRmvImmv _ rm iv => rm.ok m && iv.okOsz m
  | .pushImm8 _ => true
  | .imulRvRmvImm8 _ rm _ => rm.ok m
  | .jccRel8 _ _ => true
  | .addRm8Imm8 _ rm _ => rm.ok m
  | .orRm8Imm8 _ rm _ => rm.ok m
  | .adcRm8Imm8 _ rm _ => rm.ok m
  | .sbbRm8Imm8 _ rm _ => rm.ok m
  | .andRm8Imm8 _ rm _ => rm.ok m
  | .subRm8Imm8 _ rm _ => rm.ok m
  | .xorRm8Imm8 _ rm _ => rm.ok m
  | .cmpRm8Imm8 _ rm _ => rm.ok m
  | .addRmvImmv rm iv => rm.ok m && iv.okOsz m
  | .orRmvImmv rm iv => rm.ok m && iv.okOsz m
  | .adcRmvImmv rm iv => rm.ok m && iv.okOsz m
  | .sbbRmvImmv rm iv => rm.ok m && iv.okOsz m
  | .andRmvImmv rm iv => rm.ok m && iv.okOsz m
  | .subRmvImmv rm iv => rm.ok m && iv.okOsz m
  | .xorRmvImmv rm iv => rm.ok m && iv.okOsz m
  | .cmpRmvImmv rm iv => rm.ok m && iv.okOsz m
  | .addRmvImm8 rm _ => rm.ok m
  | .orRmvImm8 rm _ => rm.ok m
  | .adcRmvImm8 rm _ => rm.ok m
  | .sbbRmvImm8 rm _ => rm.ok m
  | .andRmvImm8 rm _ => rm.ok m
  | .subRmvImm8 rm _ => rm.ok m
  | .xorRmvImm8 rm _ => rm.ok m
  | .cmpRmvImm8 rm _ => rm.ok m
  | .testRm8R8 rm _ => rm.ok m
  | .testRmvRv rm _ => rm.ok m
  | .xchgRm8R8 rm _ => rm.ok m
  | .xchgRmvRv rm _ => rm.ok m
  | .movRm8R8 rm _ => rm.ok m
  | .movRmvRv rm _ => rm.ok m
  | .movR8Rm8 _ rm => rm.ok m
  | .movRvRmv _ rm => rm.ok m
  | .movRm16Sreg rm n => (if n == 6#3 || n == 7#3 then rm.isCut else rm.ok m)
  | .leaRvM _ rm => rm.ok m
  | .movSregRm16 n rm => (if n == 1#3 || n == 6#3 || n == 7#3 then rm.isCut else rm.ok m)
  | .popRmv rm => rm.ok m
  | .callPtr off _ => off.okOsz m
  | .movAlMoffs ia => ia.okAsz m
  | .movEaxMoffs ia => ia.okAsz m
  | .movMoffsAl ia => ia.okAsz m
  | .movMoffsEax ia => ia.okAsz m
  | .testAlImm8 _ => true
  | .testEaxImmv iv => iv.okOsz m
  | .movR8Imm8 _ _ => true
  | .movRvImmv _ iv => iv.okOsz m
  | .rolRm8Imm8 rm _ => rm.ok m
  | .rorRm8Imm8 rm _ => rm.ok m
  | .rclRm8Imm8 rm _ => rm.ok m
  | .rcrRm8Imm8 rm _ => rm.ok m
  | .shlRm8Imm8 rm _ => rm.ok m
  | .shrRm8Imm8 rm _ => rm.ok m
  | .salRm8Imm8 rm _ => rm.ok m
  | .sarRm8Imm8 rm _ => rm.ok m
  | .rolRmvImm8 rm _ => rm.ok m
  | .rorRmvImm8 rm _ => rm.ok m
  | .rclRmvImm8 rm _ => rm.ok m
  | .rcrRmvImm8 rm _ => rm.ok m
  | .shlRmvImm8 rm _ => rm.ok m
  | .shrRmvImm8 rm _ => rm.ok m
  | .salRmvImm8 rm _ => rm.ok m
  | .sarRmvImm8 rm _ => rm.ok m
  | .rolRm8One rm => rm.ok m
  | .rorRm8One rm => rm.ok m
  | .rclRm8One rm => rm.ok m
  | .rcrRm8One rm => rm.ok m
  | .shlRm8One rm => rm.ok m
  | .shrRm8One rm => rm.ok m
  | .salRm8One rm => rm.ok m
  | .sarRm8One rm => rm.ok m
  | .rolRmvOne rm => rm.ok m
  | .rorRmvOne rm => rm.ok m
  | .rclRmvOne rm => rm.ok m
  | .rcrRmvOne rm => rm.ok m
  | .shlRmvOne rm => rm.ok m
  | .shrRmvOne rm => rm.ok m
  | .salRmvOne rm => rm.ok m
  | .sarRmvOne rm => rm.ok m
  | .rolRm8Cl rm => rm.ok m
  | .rorRm8Cl rm => rm.ok m
  | .rclRm8Cl rm => rm.ok m
  | .rcrRm8Cl rm => rm.ok m
  | .shlRm8Cl rm => rm.ok m
  | .shrRm8Cl rm => rm.ok m
  | .salRm8Cl rm => rm.ok m
  | .sarRm8Cl rm => rm.ok m
  | .rolRmvCl rm => rm.ok m
  | .rorRmvCl rm => rm.ok m
  | .rclRmvCl rm => rm.ok m
  | .rcrRmvCl rm => rm.ok m
  | .shlRmvCl rm => rm.ok m
  | .shrRmvCl rm => rm.ok m
  | .salRmvCl rm => rm.ok m
  | .sarRmvCl rm => rm.ok m
  | .retImm16 _ => true
  | .lesRvM _ rm => rm.ok m
  | .ldsRvM _ rm => rm.ok m
  | .movRm8Imm8 rm _ => rm.ok m
  | .movRmvImmv rm iv => rm.ok m && iv.okOsz m
  | .enter _ _ => true
  | .retfImm16 _ => true
  | .intImm8 _ => true
  | .aam _ => true
  | .aad _ => true
  | .esc _ _ rm => rm.ok m
  | .loopneRel8 _ => true
  | .loopeRel8 _ => true
  | .loopRel8 _ => true
  | .jcxzRel8 _ => true
  | .inAlImm8 _ => true
  | .inEaxImm8 _ => true
  | .outImm8Al _ => true
  | .outImm8Eax _ => true
  | .callRelv dv => dv.okOsz m
  | .jmpRelv dv => dv.okOsz m
  | .jmpPtr off _ => off.okOsz m
  | .jmpRel8 _ => true
  | .testRm8Imm8 rm _ => rm.ok m
  | .notRm8 rm => rm.ok m
  | .negRm8 rm => rm.ok m
  | .mulRm8 rm => rm.ok m
  | .imulRm8 rm => rm.ok m
  | .divRm8 rm => rm.ok m
  | .idivRm8 rm => rm.ok m
  | .testRmvImmv rm iv => rm.ok m && iv.okOsz m
  | .notRmv rm => rm.ok m
  | .negRmv rm => rm.ok m
  | .mulRmv rm => rm.ok m
  | .imulRmv rm => rm.ok m
  | .divRmv rm => rm.ok m
  | .idivRmv rm => rm.ok m
  | .incRm8 rm => rm.ok m
  | .decRm8 rm => rm.ok m
  | .incRmv rm => rm.ok m
  | .decRmv rm => rm.ok m
  | .callRmv rm => rm.ok m
  | .callM rm => rm.ok m
  | .jmpRmv rm => rm.ok m
  | .jmpM rm => rm.ok m
  | .pushRmv rm => rm.ok m
  | .sldtRm16 rm => (if m.pe then rm.ok m else rm.isCut)
  | .strRm16 rm => (if m.pe then rm.ok m else rm.isCut)
  | .lldtRm16 rm => (if m.pe then rm.ok m else rm.isCut)
  | .ltrRm16 rm => (if m.pe then rm.ok m else rm.isCut)
  | .verrRm16 rm => (if m.pe then rm.ok m else rm.isCut)
  | .verwRm16 rm => (if m.pe then rm.ok m else rm.isCut)
  | .sgdtM rm => rm.ok m
  | .sidtM rm => rm.ok m
  | .lgdtM rm => rm.ok m
  | .lidtM rm => rm.ok m
  | .smswRm16 rm => rm.ok m
  | .lmswRm16 rm => rm.ok m
  | .invlpgM rm => rm.ok m
  | .larRvRm16 r rm => (if m.pe then rm.ok m else rm == .absent && r == .eax)
  | .lslRvRm16 r rm => (if m.pe then rm.ok m else rm == .absent && r == .eax)
  | .movR32Cr rm _ => rm.okMod3
  | .movCrR32 _ rm => rm.okMod3
  | .movDrR32 _ rm => rm.okMod3
  | .cmovRvRmv _ _ rm => rm.ok m
  | .jccRelv _ dv => dv.okOsz m
  | .setccRm8 _ _ rm => rm.ok m
  | .btRmvRv rm _ => rm.ok m
  | .shldImm8 rm _ _ => rm.ok m
  | .shldCl rm _ => rm.ok m
  | .btsRmvRv rm _ => rm.ok m
  | .shrdImm8 rm _ _ => rm.ok m
  | .shrdCl rm _ => rm.ok m
  | .imulRvRmv _ rm => rm.ok m
  | .cmpxchgRm8R8 rm _ => rm.ok m
  | .cmpxchgRmvRv rm _ => rm.ok m
  | .lssRvM _ rm => rm.ok m
  | .btrRmvRv rm _ => rm.ok m
  | .lfsRvM _ rm => rm.ok m
  | .lgsRvM _ rm => rm.ok m
  | .movzxRvRm8 _ rm => rm.ok m
  | .movzxRvRm16 _ rm => rm.ok m
  | .btRmvImm8 rm _ => rm.ok m
  | .btsRmvImm8 rm _ => rm.ok m
  | .btrRmvImm8 rm _ => rm.ok m
  | .btcRmvImm8 rm _ => rm.ok m
  | .btcRmvRv rm _ => rm.ok m
  | .bsfRvRmv _ rm => rm.ok m
  | .bsrRvRmv _ rm => rm.ok m
  | .movsxRvRm8 _ rm => rm.ok m
  | .movsxRvRm16 _ rm => rm.ok m
  | .xaddRm8R8 rm _ => rm.ok m
  | .xaddRmvRv rm _ => rm.ok m
  | .bswapR32 _ => true
  | .pfxEs => true
  | .pfxCs => true
  | .pfxSs => true
  | .pfxDs => true
  | .pfxFs => true
  | .pfxGs => true
  | .pfxOpsize => true
  | .pfxAddrsize => true
  | .pfxRepne => true
  | .pfxRep => true
  | .pfxLock => true
  | .pushEs => true
  | .pushCs => true
  | .pushSs => true
  | .pushDs => true
  | .popEs => true
  | .popSs => true
  | .popDs => true
  | .daa => true
  | .das => true
  | .aaa => true
  | .aas => true
  | .incEax => true
  | .incEcx => true
  | .incEdx => true
  | .incEbx => true
  | .incEsp => true
  | .incEbp => true
  | .incEsi => true
  | .incEdi => true
  | .decEax => true
  | .decEcx => true
  | .decEdx => true
  | .decEbx => true
  | .decEsp => true
  | .decEbp => true
  | .decEsi => true
  | .decEdi => true
  | .pusha => true
  | .popa => true
  | .insb => true
  | .insv => true
  | .outsb => true
  | .outsv => true
  | .nop => true
  | .xchgEaxEcx => true
  | .xchgEaxEdx => true
  | .xchgEaxEbx => true
  | .xchgEaxEsp => true
  | .xchgEaxEbp => true
  | .xchgEaxEsi => true
  | .xchgEaxEdi => true
  | .cbw => true
  | .cwd => true
  | .fwait => true
  | .pushf => true
  | .popf => true
  | .sahf => true
  | .lahf => true
  | .movsb => true
  | .movsv => true
  | .cmpsb => true
  | .cmpsv => true
  | .stosb => true
  | .stosv => true
  | .lodsb => true
  | .lodsv => true
  | .scasb => true
  | .scasv => true
  | .ret => true
  | .leave => true
  | .retf => true
  | .int3 => true
  | .into => true
  | .iret => true
  | .xlat => true
  | .inAlDx => true
  | .inEaxDx => true
  | .outDxAl => true
  | .outDxEax => true
  | .hlt => true
  | .cmc => true
  | .clc => true
  | .stc => true
  | .cli => true
  | .sti => true
  | .cld => true
  | .std => true
  | .clts => true
  | .invd => true
  | .wbinvd => true
  | .rdtsc => true
  | .pushFs => true
  | .popFs => true
  | .cpuid => true
  | .pushGs => true
  | .popGs => true
  | .udD6 => true
  | .udF1 => true
  | .udF6Ext1 => true
  | .udF7Ext1 => true
  | .udFEExt2 => true
  | .udFEExt3 => true
  | .udFEExt4 => true
  | .udFEExt5 => true
  | .udFEExt6 => true
  | .udFEExt7 => true
  | .udFFExt7 => true
  | .ud8FExt1 => true
  | .ud8FExt2 => true
  | .ud8FExt3 => true
  | .ud8FExt4 => true
  | .ud8FExt5 => true
  | .ud8FExt6 => true
  | .ud8FExt7 => true
  | .udC6Ext1 => true
  | .udC6Ext2 => true
  | .udC6Ext3 => true
  | .udC6Ext4 => true
  | .udC6Ext5 => true
  | .udC6Ext6 => true
  | .udC6Ext7 => true
  | .udC7Ext1 => true
  | .udC7Ext2 => true
  | .udC7Ext3 => true
  | .udC7Ext4 => true
  | .udC7Ext5 => true
  | .udC7Ext6 => true
  | .udC7Ext7 => true
  | .ud0F00Ext6 => true
  | .ud0F00Ext7 => true
  | .ud0F01Ext5 => true
  | .ud0FBAExt0 => true
  | .ud0FBAExt1 => true
  | .ud0FBAExt2 => true
  | .ud0FBAExt3 => true
  | .ud0F04 => true
  | .ud0F05 => true
  | .ud0F07 => true
  | .ud0F0A => true
  | .ud0F0B => true
  | .ud0F0C => true
  | .ud0F0D => true
  | .ud0F0E => true
  | .ud0F0F => true
  | .ud0F10 => true
  | .ud0F11 => true
  | .ud0F12 => true
  | .ud0F13 => true
  | .ud0F14 => true
  | .ud0F15 => true
  | .ud0F16 => true
  | .ud0F17 => true
  | .ud0F18 => true
  | .ud0F19 => true
  | .ud0F1A => true
  | .ud0F1B => true
  | .ud0F1C => true
  | .ud0F1D => true
  | .ud0F1E => true
  | .ud0F1F => true
  | .ud0F21 => true
  | .ud0F24 => true
  | .ud0F25 => true
  | .ud0F26 => true
  | .ud0F27 => true
  | .ud0F28 => true
  | .ud0F29 => true
  | .ud0F2A => true
  | .ud0F2B => true
  | .ud0F2C => true
  | .ud0F2D => true
  | .ud0F2E => true
  | .ud0F2F => true
  | .ud0F30 => true
  | .ud0F32 => true
  | .ud0F33 => true
  | .ud0F34 => true
  | .ud0F35 => true
  | .ud0F36 => true
  | .ud0F37 => true
  | .ud0F38 => true
  | .ud0F39 => true
  | .ud0F3A => true
  | .ud0F3B => true
  | .ud0F3C => true
  | .ud0F3D => true
  | .ud0F3E => true
  | .ud0F3F => true
  | .ud0F50 => true
  | .ud0F51 => true
  | .ud0F52 => true
  | .ud0F53 => true
  | .ud0F54 => true
  | .ud0F55 => true
  | .ud0F56 => true
  | .ud0F57 => true
  | .ud0F58 => true
  | .ud0F59 => true
  | .ud0F5A => true
  | .ud0F5B => true
  | .ud0F5C => true
  | .ud0F5D => true
  | .ud0F5E => true
  | .ud0F5F => true
  | .ud0F60 => true
  | .ud0F61 => true
  | .ud0F62 => true
  | .ud0F63 => true
  | .ud0F64 => true
  | .ud0F65 => true
  | .ud0F66 => true
  | .ud0F67 => true
  | .ud0F68 => true
  | .ud0F69 => true
  | .ud0F6A => true
  | .ud0F6B => true
  | .ud0F6C => true
  | .ud0F6D => true
  | .ud0F6E => true
  | .ud0F6F => true
  | .ud0F70 => true
  | .ud0F71 => true
  | .ud0F72 => true
  | .ud0F73 => true
  | .ud0F74 => true
  | .ud0F75 => true
  | .ud0F76 => true
  | .ud0F77 => true
  | .ud0F78 => true
  | .ud0F79 => true
  | .ud0F7A => true
  | .ud0F7B => true
  | .ud0F7C => true
  | .ud0F7D => true
  | .ud0F7E => true
  | .ud0F7F => true
  | .ud0FA6 => true
  | .ud0FA7 => true
  | .ud0FAA => true
  | .ud0FAE => true
  | .ud0FB8 => true
  | .ud0FB9 => true
  | .ud0FC2 => true
  | .ud0FC3 => true
  | .ud0FC4 => true
  | .ud0FC5 => true
  | .ud0FC6 => true
  | .ud0FC7 => true
  | .ud0FD0 => true
  | .ud0FD1 => true
  | .ud0FD2 => true
  | .ud0FD3 => true
  | .ud0FD4 => true
  | .ud0FD5 => true
  | .ud0FD6 => true
  | .ud0FD7 => true
  | .ud0FD8 => true
  | .ud0FD9 => true
  | .ud0FDA => true
  | .ud0FDB => true
  | .ud0FDC => true
  | .ud0FDD => true
  | .ud0FDE => true
  | .ud0FDF => true
  | .ud0FE0 => true
  | .ud0FE1 => true
  | .ud0FE2 => true
  | .ud0FE3 => true
  | .ud0FE4 => true
  | .ud0FE5 => true
  | .ud0FE6 => true
  | .ud0FE7 => true
  | .ud0FE8 => true
  | .ud0FE9 => true
  | .ud0FEA => true
  | .ud0FEB => true
  | .ud0FEC => true
  | .ud0FED => true
  | .ud0FEE => true
  | .ud0FEF => true
  | .ud0FF0 => true
  | .ud0FF1 => true
  | .ud0FF2 => true
  | .ud0FF3 => true
  | .ud0FF4 => true
  | .ud0FF5 => true
  | .ud0FF6 => true
  | .ud0FF7 => true
  | .ud0FF8 => true
  | .ud0FF9 => true
  | .ud0FFA => true
  | .ud0FFB => true
  | .ud0FFC => true
  | .ud0FFD => true
  | .ud0FFE => true
  | .ud0FFF => true

end Sys2Proof
end

