-- ==== Sys2Proof/Decode.lean ====
section
/-! DEFINITION. The decoder and the encoder, written from the same tables (30_encoding.md R220 to R262). Decoding is a
program of byte, word and dword fetches, so that it can be run on a list of bytes and, in Machine/Fetch.lean, on the
machine's own memory with the chunks of R221. -/

namespace Sys2Proof

/-- A choice among eight by a 3-bit number. -/
def pick8 {β : Type} (n : BitVec 3) (a0 a1 a2 a3 a4 a5 a6 a7 : β) : β :=
  bif n.getLsbD 2 then
    (bif n.getLsbD 1 then (bif n.getLsbD 0 then a7 else a6) else (bif n.getLsbD 0 then a5 else a4))
  else
    (bif n.getLsbD 1 then (bif n.getLsbD 0 then a3 else a2) else (bif n.getLsbD 0 then a1 else a0))

/-- A choice among sixteen by a 4-bit number. -/
def pick16 {β : Type} (n : BitVec 4) (a0 a1 a2 a3 a4 a5 a6 a7 a8 a9 a10 a11 a12 a13 a14 a15 : β) : β :=
  bif n.getLsbD 3 then pick8 (n.extractLsb' 0 3) a8 a9 a10 a11 a12 a13 a14 a15
  else pick8 (n.extractLsb' 0 3) a0 a1 a2 a3 a4 a5 a6 a7

/-- The register with a number (R41). -/
def Reg.ofNum (n : BitVec 3) : Reg := pick8 n .eax .ecx .edx .ebx .esp .ebp .esi .edi

/-- The segment register with a number (R67). -/
def Sreg.ofNum (n : BitVec 3) : Sreg := pick8 n .es .cs .ss .ds .fs .gs .ldtr .tr

/-- The condition with a number (R59). -/
def Cond.ofNum (n : BitVec 4) : Cond :=
  pick16 n .o .no .b .nb .z .nz .be .nbe .s .ns .p .np .l .nl .le .nle

/-- The 16-bit base form with an r/m number (R233). -/
def Base16.ofNum (n : BitVec 3) : Base16 := pick8 n .bxsi .bxdi .bpsi .bpdi .si .di .bp .bx

/-- A decoding in progress: finished, or waiting for the next one, two or four instruction bytes (R221). -/
inductive Fetch (α : Type) where
  | done (a : α)
  | byte (k : Byte → Fetch α)
  | word (k : W16 → Fetch α)
  | dword (k : W32 → Fetch α)

/-- ModRM bits 7:6 (R230). -/
def modF (b : Byte) : BitVec 2 := b.extractLsb' 6 2

/-- ModRM bits 5:3 (R230). -/
def regF (b : Byte) : BitVec 3 := b.extractLsb' 3 3

/-- ModRM bits 2:0 (R230). -/
def rmF (b : Byte) : BitVec 3 := b.extractLsb' 0 3

/-- An immediate of the operand size (R237, IV, RELV, PTR). -/
def immV {α : Type} (m : Mode) (k : ImmV → Fetch α) : Fetch α :=
  bif m.osz32 then .dword fun v => k (.i32 v) else .word fun v => k (.i16 v)

/-- A direct offset of the address size (R237, IA). -/
def immA {α : Type} (m : Mode) (k : ImmV → Fetch α) : Fetch α :=
  bif m.asz32 then .dword fun v => k (.i32 v) else .word fun v => k (.i16 v)

/-- The displacement of a 16-bit form with mod 0, 1 or 2 (R233). -/
def dispF16 {α : Type} (mod : BitVec 2) (k : Disp 16 → Fetch α) : Fetch α :=
  bif mod == 0#2 then k .none else bif mod == 1#2 then .byte fun d => k (.d8 d) else .word fun d => k (.dn d)

/-- The displacement of a 32-bit form with mod 0, 1 or 2 (R231). -/
def dispF32 {α : Type} (mod : BitVec 2) (k : Disp 32 → Fetch α) : Fetch α :=
  bif mod == 0#2 then k .none else bif mod == 1#2 then .byte fun d => k (.d8 d) else .dword fun d => k (.dn d)

/-- A 16-bit memory form (R233). -/
def rmOf16 {α : Type} (b : Byte) (k : Rm → Fetch α) : Fetch α :=
  bif modF b == 0#2 && rmF b == 6#3 then .word fun d => k (.abs16 d)
  else dispF16 (modF b) fun d => k (.ind16 (Base16.ofNum (rmF b)) d)

/-- The SIB byte and what follows it (R232). -/
def sibOf {α : Type} (mod : BitVec 2) (k : Rm → Fetch α) : Fetch α :=
  .byte fun s =>
    bif mod == 0#2 && rmF s == 5#3 then .dword fun d => k (.sibAbs (modF s) (Reg.ofNum (regF s)) d)
    else dispF32 mod fun d => k (.sib (modF s) (Reg.ofNum (regF s)) (Reg.ofNum (rmF s)) d)

/-- A 32-bit memory form (R231). -/
def rmOf32 {α : Type} (b : Byte) (k : Rm → Fetch α) : Fetch α :=
  bif rmF b == 4#3 then sibOf (modF b) k
  else bif modF b == 0#2 && rmF b == 5#3 then .dword fun d => k (.abs32 d)
  else dispF32 (modF b) fun d => k (.ind32 (Reg.ofNum (rmF b)) d)

/-- The r/m operand that a ModRM byte announces, with its SIB byte and displacement (R230 to R234). -/
def rmOf {α : Type} (m : Mode) (b : Byte) (k : Rm → Fetch α) : Fetch α :=
  bif modF b == 3#2 then k (.reg (Reg.ofNum (rmF b)))
  else bif m.asz32 then rmOf32 b k else rmOf16 b k

/-- The group of opcode 0F 00 by the reg field of its ModRM byte (R254, R257). -/
def group0F00 (m : Mode) : Fetch Instr := .byte fun b =>
  pick8 (regF b)
    ((if m.pe then rmOf m b fun rm => .done (.sldtRm16 rm) else .done (.sldtRm16 (.cut (modF b) (rmF b)))))
    ((if m.pe then rmOf m b fun rm => .done (.strRm16 rm) else .done (.strRm16 (.cut (modF b) (rmF b)))))
    ((if m.pe then rmOf m b fun rm => .done (.lldtRm16 rm) else .done (.lldtRm16 (.cut (modF b) (rmF b)))))
    ((if m.pe then rmOf m b fun rm => .done (.ltrRm16 rm) else .done (.ltrRm16 (.cut (modF b) (rmF b)))))
    ((if m.pe then rmOf m b fun rm => .done (.verrRm16 rm) else .done (.verrRm16 (.cut (modF b) (rmF b)))))
    ((if m.pe then rmOf m b fun rm => .done (.verwRm16 rm) else .done (.verwRm16 (.cut (modF b) (rmF b)))))
    (.done .ud0F00Ext6)
    (.done .ud0F00Ext7)

/-- The group of opcode 0F 01 by the reg field of its ModRM byte (R254, R257). -/
def group0F01 (m : Mode) : Fetch Instr := .byte fun b =>
  pick8 (regF b)
    (rmOf m b fun rm => .done (.sgdtM rm))
    (rmOf m b fun rm => .done (.sidtM rm))
    (rmOf m b fun rm => .done (.lgdtM rm))
    (rmOf m b fun rm => .done (.lidtM rm))
    (rmOf m b fun rm => .done (.smswRm16 rm))
    (.done .ud0F01Ext5)
    (rmOf m b fun rm => .done (.lmswRm16 rm))
    (rmOf m b fun rm => .done (.invlpgM rm))

/-- Opcodes 0F 0x. -/
def mapTwo0 (m : Mode) (lo : BitVec 4) : Fetch Instr :=
  pick16 lo
    (group0F00 m)
    (group0F01 m)
    (if m.pe then .byte fun b => rmOf m b fun rm => .done (.larRvRm16 (Reg.ofNum (regF b)) rm) else .done (.larRvRm16 .eax .absent))
    (if m.pe then .byte fun b => rmOf m b fun rm => .done (.lslRvRm16 (Reg.ofNum (regF b)) rm) else .done (.lslRvRm16 .eax .absent))
    (.done (.ud0F04))
    (.done (.ud0F05))
    (.done (.clts))
    (.done (.ud0F07))
    (.done (.invd))
    (.done (.wbinvd))
    (.done (.ud0F0A))
    (.done (.ud0F0B))
    (.done (.ud0F0C))
    (.done (.ud0F0D))
    (.done (.ud0F0E))
    (.done (.ud0F0F))

/-- Opcodes 0F 1x. -/
def mapTwo1 (_m : Mode) (lo : BitVec 4) : Fetch Instr :=
  pick16 lo
    (.done (.ud0F10))
    (.done (.ud0F11))
    (.done (.ud0F12))
    (.done (.ud0F13))
    (.done (.ud0F14))
    (.done (.ud0F15))
    (.done (.ud0F16))
    (.done (.ud0F17))
    (.done (.ud0F18))
    (.done (.ud0F19))
    (.done (.ud0F1A))
    (.done (.ud0F1B))
    (.done (.ud0F1C))
    (.done (.ud0F1D))
    (.done (.ud0F1E))
    (.done (.ud0F1F))

/-- Opcodes 0F 2x. -/
def mapTwo2 (_m : Mode) (lo : BitVec 4) : Fetch Instr :=
  pick16 lo
    (.byte fun b => if modF b == 3#2 then .done (.movR32Cr (.reg (Reg.ofNum (rmF b))) (regF b)) else .done (.movR32Cr (.cut (modF b) (rmF b)) (regF b)))
    (.done (.ud0F21))
    (.byte fun b => if modF b == 3#2 then .done (.movCrR32 (regF b) (.reg (Reg.ofNum (rmF b)))) else .done (.movCrR32 (regF b) (.cut (modF b) (rmF b))))
    (.byte fun b => if modF b == 3#2 then .done (.movDrR32 (regF b) (.reg (Reg.ofNum (rmF b)))) else .done (.movDrR32 (regF b) (.cut (modF b) (rmF b))))
    (.done (.ud0F24))
    (.done (.ud0F25))
    (.done (.ud0F26))
    (.done (.ud0F27))
    (.done (.ud0F28))
    (.done (.ud0F29))
    (.done (.ud0F2A))
    (.done (.ud0F2B))
    (.done (.ud0F2C))
    (.done (.ud0F2D))
    (.done (.ud0F2E))
    (.done (.ud0F2F))

/-- Opcodes 0F 3x. -/
def mapTwo3 (_m : Mode) (lo : BitVec 4) : Fetch Instr :=
  pick16 lo
    (.done (.ud0F30))
    (.done (.rdtsc))
    (.done (.ud0F32))
    (.done (.ud0F33))
    (.done (.ud0F34))
    (.done (.ud0F35))
    (.done (.ud0F36))
    (.done (.ud0F37))
    (.done (.ud0F38))
    (.done (.ud0F39))
    (.done (.ud0F3A))
    (.done (.ud0F3B))
    (.done (.ud0F3C))
    (.done (.ud0F3D))
    (.done (.ud0F3E))
    (.done (.ud0F3F))

/-- Opcodes 0F 4x. -/
def mapTwo4 (m : Mode) (lo : BitVec 4) : Fetch Instr :=
  .byte fun b => rmOf m b fun rm => .done (.cmovRvRmv (Cond.ofNum lo) (Reg.ofNum (regF b)) rm)

/-- Opcodes 0F 5x. -/
def mapTwo5 (_m : Mode) (lo : BitVec 4) : Fetch Instr :=
  pick16 lo
    (.done (.ud0F50))
    (.done (.ud0F51))
    (.done (.ud0F52))
    (.done (.ud0F53))
    (.done (.ud0F54))
    (.done (.ud0F55))
    (.done (.ud0F56))
    (.done (.ud0F57))
    (.done (.ud0F58))
    (.done (.ud0F59))
    (.done (.ud0F5A))
    (.done (.ud0F5B))
    (.done (.ud0F5C))
    (.done (.ud0F5D))
    (.done (.ud0F5E))
    (.done (.ud0F5F))

/-- Opcodes 0F 6x. -/
def mapTwo6 (_m : Mode) (lo : BitVec 4) : Fetch Instr :=
  pick16 lo
    (.done (.ud0F60))
    (.done (.ud0F61))
    (.done (.ud0F62))
    (.done (.ud0F63))
    (.done (.ud0F64))
    (.done (.ud0F65))
    (.done (.ud0F66))
    (.done (.ud0F67))
    (.done (.ud0F68))
    (.done (.ud0F69))
    (.done (.ud0F6A))
    (.done (.ud0F6B))
    (.done (.ud0F6C))
    (.done (.ud0F6D))
    (.done (.ud0F6E))
    (.done (.ud0F6F))

/-- Opcodes 0F 7x. -/
def mapTwo7 (_m : Mode) (lo : BitVec 4) : Fetch Instr :=
  pick16 lo
    (.done (.ud0F70))
    (.done (.ud0F71))
    (.done (.ud0F72))
    (.done (.ud0F73))
    (.done (.ud0F74))
    (.done (.ud0F75))
    (.done (.ud0F76))
    (.done (.ud0F77))
    (.done (.ud0F78))
    (.done (.ud0F79))
    (.done (.ud0F7A))
    (.done (.ud0F7B))
    (.done (.ud0F7C))
    (.done (.ud0F7D))
    (.done (.ud0F7E))
    (.done (.ud0F7F))

/-- Opcodes 0F 8x. -/
def mapTwo8 (m : Mode) (lo : BitVec 4) : Fetch Instr :=
  immV m fun dv => .done (.jccRelv (Cond.ofNum lo) dv)

/-- Opcodes 0F 9x. -/
def mapTwo9 (m : Mode) (lo : BitVec 4) : Fetch Instr :=
  .byte fun b => rmOf m b fun rm => .done (.setccRm8 (Cond.ofNum lo) (regF b) rm)

/-- Opcodes 0F Ax. -/
def mapTwoA (m : Mode) (lo : BitVec 4) : Fetch Instr :=
  pick16 lo
    (.done (.pushFs))
    (.done (.popFs))
    (.done (.cpuid))
    (.byte fun b => rmOf m b fun rm => .done (.btRmvRv rm (Reg.ofNum (regF b))))
    (.byte fun b => rmOf m b fun rm => .byte fun ib => .done (.shldImm8 rm (Reg.ofNum (regF b)) ib))
    (.byte fun b => rmOf m b fun rm => .done (.shldCl rm (Reg.ofNum (regF b))))
    (.done (.ud0FA6))
    (.done (.ud0FA7))
    (.done (.pushGs))
    (.done (.popGs))
    (.done (.ud0FAA))
    (.byte fun b => rmOf m b fun rm => .done (.btsRmvRv rm (Reg.ofNum (regF b))))
    (.byte fun b => rmOf m b fun rm => .byte fun ib => .done (.shrdImm8 rm (Reg.ofNum (regF b)) ib))
    (.byte fun b => rmOf m b fun rm => .done (.shrdCl rm (Reg.ofNum (regF b))))
    (.done (.ud0FAE))
    (.byte fun b => rmOf m b fun rm => .done (.imulRvRmv (Reg.ofNum (regF b)) rm))

/-- The group of opcode 0F BA by the reg field of its ModRM byte (R254, R257). -/
def group0FBA (m : Mode) : Fetch Instr := .byte fun b =>
  pick8 (regF b)
    (.done .ud0FBAExt0)
    (.done .ud0FBAExt1)
    (.done .ud0FBAExt2)
    (.done .ud0FBAExt3)
    (rmOf m b fun rm => .byte fun ib => .done (.btRmvImm8 rm ib))
    (rmOf m b fun rm => .byte fun ib => .done (.btsRmvImm8 rm ib))
    (rmOf m b fun rm => .byte fun ib => .done (.btrRmvImm8 rm ib))
    (rmOf m b fun rm => .byte fun ib => .done (.btcRmvImm8 rm ib))

/-- Opcodes 0F Bx. -/
def mapTwoB (m : Mode) (lo : BitVec 4) : Fetch Instr :=
  pick16 lo
    (.byte fun b => rmOf m b fun rm => .done (.cmpxchgRm8R8 rm (Reg.ofNum (regF b))))
    (.byte fun b => rmOf m b fun rm => .done (.cmpxchgRmvRv rm (Reg.ofNum (regF b))))
    (.byte fun b => rmOf m b fun rm => .done (.lssRvM (Reg.ofNum (regF b)) rm))
    (.byte fun b => rmOf m b fun rm => .done (.btrRmvRv rm (Reg.ofNum (regF b))))
    (.byte fun b => rmOf m b fun rm => .done (.lfsRvM (Reg.ofNum (regF b)) rm))
    (.byte fun b => rmOf m b fun rm => .done (.lgsRvM (Reg.ofNum (regF b)) rm))
    (.byte fun b => rmOf m b fun rm => .done (.movzxRvRm8 (Reg.ofNum (regF b)) rm))
    (.byte fun b => rmOf m b fun rm => .done (.movzxRvRm16 (Reg.ofNum (regF b)) rm))
    (.done (.ud0FB8))
    (.done (.ud0FB9))
    (group0FBA m)
    (.byte fun b => rmOf m b fun rm => .done (.btcRmvRv rm (Reg.ofNum (regF b))))
    (.byte fun b => rmOf m b fun rm => .done (.bsfRvRmv (Reg.ofNum (regF b)) rm))
    (.byte fun b => rmOf m b fun rm => .done (.bsrRvRmv (Reg.ofNum (regF b)) rm))
    (.byte fun b => rmOf m b fun rm => .done (.movsxRvRm8 (Reg.ofNum (regF b)) rm))
    (.byte fun b => rmOf m b fun rm => .done (.movsxRvRm16 (Reg.ofNum (regF b)) rm))

/-- Opcodes 0F Cx. -/
def mapTwoC (m : Mode) (lo : BitVec 4) : Fetch Instr :=
  pick16 lo
    (.byte fun b => rmOf m b fun rm => .done (.xaddRm8R8 rm (Reg.ofNum (regF b))))
    (.byte fun b => rmOf m b fun rm => .done (.xaddRmvRv rm (Reg.ofNum (regF b))))
    (.done (.ud0FC2))
    (.done (.ud0FC3))
    (.done (.ud0FC4))
    (.done (.ud0FC5))
    (.done (.ud0FC6))
    (.done (.ud0FC7))
    (.done (.bswapR32 .eax))
    (.done (.bswapR32 .ecx))
    (.done (.bswapR32 .edx))
    (.done (.bswapR32 .ebx))
    (.done (.bswapR32 .esp))
    (.done (.bswapR32 .ebp))
    (.done (.bswapR32 .esi))
    (.done (.bswapR32 .edi))

/-- Opcodes 0F Dx. -/
def mapTwoD (_m : Mode) (lo : BitVec 4) : Fetch Instr :=
  pick16 lo
    (.done (.ud0FD0))
    (.done (.ud0FD1))
    (.done (.ud0FD2))
    (.done (.ud0FD3))
    (.done (.ud0FD4))
    (.done (.ud0FD5))
    (.done (.ud0FD6))
    (.done (.ud0FD7))
    (.done (.ud0FD8))
    (.done (.ud0FD9))
    (.done (.ud0FDA))
    (.done (.ud0FDB))
    (.done (.ud0FDC))
    (.done (.ud0FDD))
    (.done (.ud0FDE))
    (.done (.ud0FDF))

/-- Opcodes 0F Ex. -/
def mapTwoE (_m : Mode) (lo : BitVec 4) : Fetch Instr :=
  pick16 lo
    (.done (.ud0FE0))
    (.done (.ud0FE1))
    (.done (.ud0FE2))
    (.done (.ud0FE3))
    (.done (.ud0FE4))
    (.done (.ud0FE5))
    (.done (.ud0FE6))
    (.done (.ud0FE7))
    (.done (.ud0FE8))
    (.done (.ud0FE9))
    (.done (.ud0FEA))
    (.done (.ud0FEB))
    (.done (.ud0FEC))
    (.done (.ud0FED))
    (.done (.ud0FEE))
    (.done (.ud0FEF))

/-- Opcodes 0F Fx. -/
def mapTwoF (_m : Mode) (lo : BitVec 4) : Fetch Instr :=
  pick16 lo
    (.done (.ud0FF0))
    (.done (.ud0FF1))
    (.done (.ud0FF2))
    (.done (.ud0FF3))
    (.done (.ud0FF4))
    (.done (.ud0FF5))
    (.done (.ud0FF6))
    (.done (.ud0FF7))
    (.done (.ud0FF8))
    (.done (.ud0FF9))
    (.done (.ud0FFA))
    (.done (.ud0FFB))
    (.done (.ud0FFC))
    (.done (.ud0FFD))
    (.done (.ud0FFE))
    (.done (.ud0FFF))

/-- The two-byte map, after the escape byte 0F (R255 to R257). -/
def twoByte (m : Mode) : Fetch Instr := .byte fun b =>
  pick16 (b.extractLsb' 4 4)
    (mapTwo0 m (b.extractLsb' 0 4))
    (mapTwo1 m (b.extractLsb' 0 4))
    (mapTwo2 m (b.extractLsb' 0 4))
    (mapTwo3 m (b.extractLsb' 0 4))
    (mapTwo4 m (b.extractLsb' 0 4))
    (mapTwo5 m (b.extractLsb' 0 4))
    (mapTwo6 m (b.extractLsb' 0 4))
    (mapTwo7 m (b.extractLsb' 0 4))
    (mapTwo8 m (b.extractLsb' 0 4))
    (mapTwo9 m (b.extractLsb' 0 4))
    (mapTwoA m (b.extractLsb' 0 4))
    (mapTwoB m (b.extractLsb' 0 4))
    (mapTwoC m (b.extractLsb' 0 4))
    (mapTwoD m (b.extractLsb' 0 4))
    (mapTwoE m (b.extractLsb' 0 4))
    (mapTwoF m (b.extractLsb' 0 4))

/-- Opcodes 0x. -/
def mapOne0 (m : Mode) (lo : BitVec 4) : Fetch Instr :=
  pick16 lo
    (.byte fun b => rmOf m b fun rm => .done (.addRm8R8 rm (Reg.ofNum (regF b))))
    (.byte fun b => rmOf m b fun rm => .done (.addRmvRv rm (Reg.ofNum (regF b))))
    (.byte fun b => rmOf m b fun rm => .done (.addR8Rm8 (Reg.ofNum (regF b)) rm))
    (.byte fun b => rmOf m b fun rm => .done (.addRvRmv (Reg.ofNum (regF b)) rm))
    (.byte fun ib => .done (.addAlImm8 ib))
    (immV m fun iv => .done (.addEaxImmv iv))
    (.done (.pushEs))
    (.done (.popEs))
    (.byte fun b => rmOf m b fun rm => .done (.orRm8R8 rm (Reg.ofNum (regF b))))
    (.byte fun b => rmOf m b fun rm => .done (.orRmvRv rm (Reg.ofNum (regF b))))
    (.byte fun b => rmOf m b fun rm => .done (.orR8Rm8 (Reg.ofNum (regF b)) rm))
    (.byte fun b => rmOf m b fun rm => .done (.orRvRmv (Reg.ofNum (regF b)) rm))
    (.byte fun ib => .done (.orAlImm8 ib))
    (immV m fun iv => .done (.orEaxImmv iv))
    (.done (.pushCs))
    (twoByte m)

/-- Opcodes 1x. -/
def mapOne1 (m : Mode) (lo : BitVec 4) : Fetch Instr :=
  pick16 lo
    (.byte fun b => rmOf m b fun rm => .done (.adcRm8R8 rm (Reg.ofNum (regF b))))
    (.byte fun b => rmOf m b fun rm => .done (.adcRmvRv rm (Reg.ofNum (regF b))))
    (.byte fun b => rmOf m b fun rm => .done (.adcR8Rm8 (Reg.ofNum (regF b)) rm))
    (.byte fun b => rmOf m b fun rm => .done (.adcRvRmv (Reg.ofNum (regF b)) rm))
    (.byte fun ib => .done (.adcAlImm8 ib))
    (immV m fun iv => .done (.adcEaxImmv iv))
    (.done (.pushSs))
    (.done (.popSs))
    (.byte fun b => rmOf m b fun rm => .done (.sbbRm8R8 rm (Reg.ofNum (regF b))))
    (.byte fun b => rmOf m b fun rm => .done (.sbbRmvRv rm (Reg.ofNum (regF b))))
    (.byte fun b => rmOf m b fun rm => .done (.sbbR8Rm8 (Reg.ofNum (regF b)) rm))
    (.byte fun b => rmOf m b fun rm => .done (.sbbRvRmv (Reg.ofNum (regF b)) rm))
    (.byte fun ib => .done (.sbbAlImm8 ib))
    (immV m fun iv => .done (.sbbEaxImmv iv))
    (.done (.pushDs))
    (.done (.popDs))

/-- Opcodes 2x. -/
def mapOne2 (m : Mode) (lo : BitVec 4) : Fetch Instr :=
  pick16 lo
    (.byte fun b => rmOf m b fun rm => .done (.andRm8R8 rm (Reg.ofNum (regF b))))
    (.byte fun b => rmOf m b fun rm => .done (.andRmvRv rm (Reg.ofNum (regF b))))
    (.byte fun b => rmOf m b fun rm => .done (.andR8Rm8 (Reg.ofNum (regF b)) rm))
    (.byte fun b => rmOf m b fun rm => .done (.andRvRmv (Reg.ofNum (regF b)) rm))
    (.byte fun ib => .done (.andAlImm8 ib))
    (immV m fun iv => .done (.andEaxImmv iv))
    (.done (.pfxEs))
    (.done (.daa))
    (.byte fun b => rmOf m b fun rm => .done (.subRm8R8 rm (Reg.ofNum (regF b))))
    (.byte fun b => rmOf m b fun rm => .done (.subRmvRv rm (Reg.ofNum (regF b))))
    (.byte fun b => rmOf m b fun rm => .done (.subR8Rm8 (Reg.ofNum (regF b)) rm))
    (.byte fun b => rmOf m b fun rm => .done (.subRvRmv (Reg.ofNum (regF b)) rm))
    (.byte fun ib => .done (.subAlImm8 ib))
    (immV m fun iv => .done (.subEaxImmv iv))
    (.done (.pfxCs))
    (.done (.das))

/-- Opcodes 3x. -/
def mapOne3 (m : Mode) (lo : BitVec 4) : Fetch Instr :=
  pick16 lo
    (.byte fun b => rmOf m b fun rm => .done (.xorRm8R8 rm (Reg.ofNum (regF b))))
    (.byte fun b => rmOf m b fun rm => .done (.xorRmvRv rm (Reg.ofNum (regF b))))
    (.byte fun b => rmOf m b fun rm => .done (.xorR8Rm8 (Reg.ofNum (regF b)) rm))
    (.byte fun b => rmOf m b fun rm => .done (.xorRvRmv (Reg.ofNum (regF b)) rm))
    (.byte fun ib => .done (.xorAlImm8 ib))
    (immV m fun iv => .done (.xorEaxImmv iv))
    (.done (.pfxSs))
    (.done (.aaa))
    (.byte fun b => rmOf m b fun rm => .done (.cmpRm8R8 rm (Reg.ofNum (regF b))))
    (.byte fun b => rmOf m b fun rm => .done (.cmpRmvRv rm (Reg.ofNum (regF b))))
    (.byte fun b => rmOf m b fun rm => .done (.cmpR8Rm8 (Reg.ofNum (regF b)) rm))
    (.byte fun b => rmOf m b fun rm => .done (.cmpRvRmv (Reg.ofNum (regF b)) rm))
    (.byte fun ib => .done (.cmpAlImm8 ib))
    (immV m fun iv => .done (.cmpEaxImmv iv))
    (.done (.pfxDs))
    (.done (.aas))

/-- Opcodes 4x. -/
def mapOne4 (_m : Mode) (lo : BitVec 4) : Fetch Instr :=
  pick16 lo
    (.done (.incEax))
    (.done (.incEcx))
    (.done (.incEdx))
    (.done (.incEbx))
    (.done (.incEsp))
    (.done (.incEbp))
    (.done (.incEsi))
    (.done (.incEdi))
    (.done (.decEax))
    (.done (.decEcx))
    (.done (.decEdx))
    (.done (.decEbx))
    (.done (.decEsp))
    (.done (.decEbp))
    (.done (.decEsi))
    (.done (.decEdi))

/-- Opcodes 5x. -/
def mapOne5 (_m : Mode) (lo : BitVec 4) : Fetch Instr :=
  pick16 lo
    (.done (.pushRv .eax))
    (.done (.pushRv .ecx))
    (.done (.pushRv .edx))
    (.done (.pushRv .ebx))
    (.done (.pushRv .esp))
    (.done (.pushRv .ebp))
    (.done (.pushRv .esi))
    (.done (.pushRv .edi))
    (.done (.popRv .eax))
    (.done (.popRv .ecx))
    (.done (.popRv .edx))
    (.done (.popRv .ebx))
    (.done (.popRv .esp))
    (.done (.popRv .ebp))
    (.done (.popRv .esi))
    (.done (.popRv .edi))

/-- Opcodes 6x. -/
def mapOne6 (m : Mode) (lo : BitVec 4) : Fetch Instr :=
  pick16 lo
    (.done (.pusha))
    (.done (.popa))
    (.byte fun b => rmOf m b fun rm => .done (.boundRvM (Reg.ofNum (regF b)) rm))
    (if m.pe then .byte fun b => rmOf m b fun rm => .done (.arplRm16R16 rm (Reg.ofNum (regF b))) else .done (.arplRm16R16 .absent .eax))
    (.done (.pfxFs))
    (.done (.pfxGs))
    (.done (.pfxOpsize))
    (.done (.pfxAddrsize))
    (immV m fun iv => .done (.pushImmv iv))
    (.byte fun b => rmOf m b fun rm => immV m fun iv => .done (.imulRvRmvImmv (Reg.ofNum (regF b)) rm iv))
    (.byte fun ib => .done (.pushImm8 ib))
    (.byte fun b => rmOf m b fun rm => .byte fun ib => .done (.imulRvRmvImm8 (Reg.ofNum (regF b)) rm ib))
    (.done (.insb))
    (.done (.insv))
    (.done (.outsb))
    (.done (.outsv))

/-- Opcodes 7x. -/
def mapOne7 (_m : Mode) (lo : BitVec 4) : Fetch Instr :=
  .byte fun d8 => .done (.jccRel8 (Cond.ofNum lo) d8)

/-- The group of opcode 80 by the reg field of its ModRM byte (R254, R257). -/
def group80 (m : Mode) : Fetch Instr := .byte fun b =>
  pick8 (regF b)
    (rmOf m b fun rm => .byte fun ib => .done (.addRm8Imm8 false rm ib))
    (rmOf m b fun rm => .byte fun ib => .done (.orRm8Imm8 false rm ib))
    (rmOf m b fun rm => .byte fun ib => .done (.adcRm8Imm8 false rm ib))
    (rmOf m b fun rm => .byte fun ib => .done (.sbbRm8Imm8 false rm ib))
    (rmOf m b fun rm => .byte fun ib => .done (.andRm8Imm8 false rm ib))
    (rmOf m b fun rm => .byte fun ib => .done (.subRm8Imm8 false rm ib))
    (rmOf m b fun rm => .byte fun ib => .done (.xorRm8Imm8 false rm ib))
    (rmOf m b fun rm => .byte fun ib => .done (.cmpRm8Imm8 false rm ib))

/-- The group of opcode 81 by the reg field of its ModRM byte (R254, R257). -/
def group81 (m : Mode) : Fetch Instr := .byte fun b =>
  pick8 (regF b)
    (rmOf m b fun rm => immV m fun iv => .done (.addRmvImmv rm iv))
    (rmOf m b fun rm => immV m fun iv => .done (.orRmvImmv rm iv))
    (rmOf m b fun rm => immV m fun iv => .done (.adcRmvImmv rm iv))
    (rmOf m b fun rm => immV m fun iv => .done (.sbbRmvImmv rm iv))
    (rmOf m b fun rm => immV m fun iv => .done (.andRmvImmv rm iv))
    (rmOf m b fun rm => immV m fun iv => .done (.subRmvImmv rm iv))
    (rmOf m b fun rm => immV m fun iv => .done (.xorRmvImmv rm iv))
    (rmOf m b fun rm => immV m fun iv => .done (.cmpRmvImmv rm iv))

/-- The group of opcode 82 by the reg field of its ModRM byte (R254, R257). -/
def group82 (m : Mode) : Fetch Instr := .byte fun b =>
  pick8 (regF b)
    (rmOf m b fun rm => .byte fun ib => .done (.addRm8Imm8 true rm ib))
    (rmOf m b fun rm => .byte fun ib => .done (.orRm8Imm8 true rm ib))
    (rmOf m b fun rm => .byte fun ib => .done (.adcRm8Imm8 true rm ib))
    (rmOf m b fun rm => .byte fun ib => .done (.sbbRm8Imm8 true rm ib))
    (rmOf m b fun rm => .byte fun ib => .done (.andRm8Imm8 true rm ib))
    (rmOf m b fun rm => .byte fun ib => .done (.subRm8Imm8 true rm ib))
    (rmOf m b fun rm => .byte fun ib => .done (.xorRm8Imm8 true rm ib))
    (rmOf m b fun rm => .byte fun ib => .done (.cmpRm8Imm8 true rm ib))

/-- The group of opcode 83 by the reg field of its ModRM byte (R254, R257). -/
def group83 (m : Mode) : Fetch Instr := .byte fun b =>
  pick8 (regF b)
    (rmOf m b fun rm => .byte fun ib => .done (.addRmvImm8 rm ib))
    (rmOf m b fun rm => .byte fun ib => .done (.orRmvImm8 rm ib))
    (rmOf m b fun rm => .byte fun ib => .done (.adcRmvImm8 rm ib))
    (rmOf m b fun rm => .byte fun ib => .done (.sbbRmvImm8 rm ib))
    (rmOf m b fun rm => .byte fun ib => .done (.andRmvImm8 rm ib))
    (rmOf m b fun rm => .byte fun ib => .done (.subRmvImm8 rm ib))
    (rmOf m b fun rm => .byte fun ib => .done (.xorRmvImm8 rm ib))
    (rmOf m b fun rm => .byte fun ib => .done (.cmpRmvImm8 rm ib))

/-- The group of opcode 8F by the reg field of its ModRM byte (R254, R257). -/
def group8F (m : Mode) : Fetch Instr := .byte fun b =>
  pick8 (regF b)
    (rmOf m b fun rm => .done (.popRmv rm))
    (.done .ud8FExt1)
    (.done .ud8FExt2)
    (.done .ud8FExt3)
    (.done .ud8FExt4)
    (.done .ud8FExt5)
    (.done .ud8FExt6)
    (.done .ud8FExt7)

/-- Opcodes 8x. -/
def mapOne8 (m : Mode) (lo : BitVec 4) : Fetch Instr :=
  pick16 lo
    (group80 m)
    (group81 m)
    (group82 m)
    (group83 m)
    (.byte fun b => rmOf m b fun rm => .done (.testRm8R8 rm (Reg.ofNum (regF b))))
    (.byte fun b => rmOf m b fun rm => .done (.testRmvRv rm (Reg.ofNum (regF b))))
    (.byte fun b => rmOf m b fun rm => .done (.xchgRm8R8 rm (Reg.ofNum (regF b))))
    (.byte fun b => rmOf m b fun rm => .done (.xchgRmvRv rm (Reg.ofNum (regF b))))
    (.byte fun b => rmOf m b fun rm => .done (.movRm8R8 rm (Reg.ofNum (regF b))))
    (.byte fun b => rmOf m b fun rm => .done (.movRmvRv rm (Reg.ofNum (regF b))))
    (.byte fun b => rmOf m b fun rm => .done (.movR8Rm8 (Reg.ofNum (regF b)) rm))
    (.byte fun b => rmOf m b fun rm => .done (.movRvRmv (Reg.ofNum (regF b)) rm))
    (.byte fun b => if regF b == 6#3 || regF b == 7#3 then .done (.movRm16Sreg (.cut (modF b) (rmF b)) (regF b)) else rmOf m b fun rm => .done (.movRm16Sreg rm (regF b)))
    (.byte fun b => rmOf m b fun rm => .done (.leaRvM (Reg.ofNum (regF b)) rm))
    (.byte fun b => if regF b == 1#3 || regF b == 6#3 || regF b == 7#3 then .done (.movSregRm16 (regF b) (.cut (modF b) (rmF b))) else rmOf m b fun rm => .done (.movSregRm16 (regF b) rm))
    (group8F m)

/-- Opcodes 9x. -/
def mapOne9 (m : Mode) (lo : BitVec 4) : Fetch Instr :=
  pick16 lo
    (.done (.nop))
    (.done (.xchgEaxEcx))
    (.done (.xchgEaxEdx))
    (.done (.xchgEaxEbx))
    (.done (.xchgEaxEsp))
    (.done (.xchgEaxEbp))
    (.done (.xchgEaxEsi))
    (.done (.xchgEaxEdi))
    (.done (.cbw))
    (.done (.cwd))
    (immV m fun off => .word fun sel => .done (.callPtr off sel))
    (.done (.fwait))
    (.done (.pushf))
    (.done (.popf))
    (.done (.sahf))
    (.done (.lahf))

/-- Opcodes Ax. -/
def mapOneA (m : Mode) (lo : BitVec 4) : Fetch Instr :=
  pick16 lo
    (immA m fun ia => .done (.movAlMoffs ia))
    (immA m fun ia => .done (.movEaxMoffs ia))
    (immA m fun ia => .done (.movMoffsAl ia))
    (immA m fun ia => .done (.movMoffsEax ia))
    (.done (.movsb))
    (.done (.movsv))
    (.done (.cmpsb))
    (.done (.cmpsv))
    (.byte fun ib => .done (.testAlImm8 ib))
    (immV m fun iv => .done (.testEaxImmv iv))
    (.done (.stosb))
    (.done (.stosv))
    (.done (.lodsb))
    (.done (.lodsv))
    (.done (.scasb))
    (.done (.scasv))

/-- Opcodes Bx. -/
def mapOneB (m : Mode) (lo : BitVec 4) : Fetch Instr :=
  pick16 lo
    (.byte fun ib => .done (.movR8Imm8 .eax ib))
    (.byte fun ib => .done (.movR8Imm8 .ecx ib))
    (.byte fun ib => .done (.movR8Imm8 .edx ib))
    (.byte fun ib => .done (.movR8Imm8 .ebx ib))
    (.byte fun ib => .done (.movR8Imm8 .esp ib))
    (.byte fun ib => .done (.movR8Imm8 .ebp ib))
    (.byte fun ib => .done (.movR8Imm8 .esi ib))
    (.byte fun ib => .done (.movR8Imm8 .edi ib))
    (immV m fun iv => .done (.movRvImmv .eax iv))
    (immV m fun iv => .done (.movRvImmv .ecx iv))
    (immV m fun iv => .done (.movRvImmv .edx iv))
    (immV m fun iv => .done (.movRvImmv .ebx iv))
    (immV m fun iv => .done (.movRvImmv .esp iv))
    (immV m fun iv => .done (.movRvImmv .ebp iv))
    (immV m fun iv => .done (.movRvImmv .esi iv))
    (immV m fun iv => .done (.movRvImmv .edi iv))

/-- The group of opcode C0 by the reg field of its ModRM byte (R254, R257). -/
def groupC0 (m : Mode) : Fetch Instr := .byte fun b =>
  pick8 (regF b)
    (rmOf m b fun rm => .byte fun ib => .done (.rolRm8Imm8 rm ib))
    (rmOf m b fun rm => .byte fun ib => .done (.rorRm8Imm8 rm ib))
    (rmOf m b fun rm => .byte fun ib => .done (.rclRm8Imm8 rm ib))
    (rmOf m b fun rm => .byte fun ib => .done (.rcrRm8Imm8 rm ib))
    (rmOf m b fun rm => .byte fun ib => .done (.shlRm8Imm8 rm ib))
    (rmOf m b fun rm => .byte fun ib => .done (.shrRm8Imm8 rm ib))
    (rmOf m b fun rm => .byte fun ib => .done (.salRm8Imm8 rm ib))
    (rmOf m b fun rm => .byte fun ib => .done (.sarRm8Imm8 rm ib))

/-- The group of opcode C1 by the reg field of its ModRM byte (R254, R257). -/
def groupC1 (m : Mode) : Fetch Instr := .byte fun b =>
  pick8 (regF b)
    (rmOf m b fun rm => .byte fun ib => .done (.rolRmvImm8 rm ib))
    (rmOf m b fun rm => .byte fun ib => .done (.rorRmvImm8 rm ib))
    (rmOf m b fun rm => .byte fun ib => .done (.rclRmvImm8 rm ib))
    (rmOf m b fun rm => .byte fun ib => .done (.rcrRmvImm8 rm ib))
    (rmOf m b fun rm => .byte fun ib => .done (.shlRmvImm8 rm ib))
    (rmOf m b fun rm => .byte fun ib => .done (.shrRmvImm8 rm ib))
    (rmOf m b fun rm => .byte fun ib => .done (.salRmvImm8 rm ib))
    (rmOf m b fun rm => .byte fun ib => .done (.sarRmvImm8 rm ib))

/-- The group of opcode C6 by the reg field of its ModRM byte (R254, R257). -/
def groupC6 (m : Mode) : Fetch Instr := .byte fun b =>
  pick8 (regF b)
    (rmOf m b fun rm => .byte fun ib => .done (.movRm8Imm8 rm ib))
    (.done .udC6Ext1)
    (.done .udC6Ext2)
    (.done .udC6Ext3)
    (.done .udC6Ext4)
    (.done .udC6Ext5)
    (.done .udC6Ext6)
    (.done .udC6Ext7)

/-- The group of opcode C7 by the reg field of its ModRM byte (R254, R257). -/
def groupC7 (m : Mode) : Fetch Instr := .byte fun b =>
  pick8 (regF b)
    (rmOf m b fun rm => immV m fun iv => .done (.movRmvImmv rm iv))
    (.done .udC7Ext1)
    (.done .udC7Ext2)
    (.done .udC7Ext3)
    (.done .udC7Ext4)
    (.done .udC7Ext5)
    (.done .udC7Ext6)
    (.done .udC7Ext7)

/-- Opcodes Cx. -/
def mapOneC (m : Mode) (lo : BitVec 4) : Fetch Instr :=
  pick16 lo
    (groupC0 m)
    (groupC1 m)
    (.word fun iw => .done (.retImm16 iw))
    (.done (.ret))
    (.byte fun b => rmOf m b fun rm => .done (.lesRvM (Reg.ofNum (regF b)) rm))
    (.byte fun b => rmOf m b fun rm => .done (.ldsRvM (Reg.ofNum (regF b)) rm))
    (groupC6 m)
    (groupC7 m)
    (.word fun iw => .byte fun lvl => .done (.enter iw lvl))
    (.done (.leave))
    (.word fun iw => .done (.retfImm16 iw))
    (.done (.retf))
    (.done (.int3))
    (.byte fun ib => .done (.intImm8 ib))
    (.done (.into))
    (.done (.iret))

/-- The group of opcode D0 by the reg field of its ModRM byte (R254, R257). -/
def groupD0 (m : Mode) : Fetch Instr := .byte fun b =>
  pick8 (regF b)
    (rmOf m b fun rm => .done (.rolRm8One rm))
    (rmOf m b fun rm => .done (.rorRm8One rm))
    (rmOf m b fun rm => .done (.rclRm8One rm))
    (rmOf m b fun rm => .done (.rcrRm8One rm))
    (rmOf m b fun rm => .done (.shlRm8One rm))
    (rmOf m b fun rm => .done (.shrRm8One rm))
    (rmOf m b fun rm => .done (.salRm8One rm))
    (rmOf m b fun rm => .done (.sarRm8One rm))

/-- The group of opcode D1 by the reg field of its ModRM byte (R254, R257). -/
def groupD1 (m : Mode) : Fetch Instr := .byte fun b =>
  pick8 (regF b)
    (rmOf m b fun rm => .done (.rolRmvOne rm))
    (rmOf m b fun rm => .done (.rorRmvOne rm))
    (rmOf m b fun rm => .done (.rclRmvOne rm))
    (rmOf m b fun rm => .done (.rcrRmvOne rm))
    (rmOf m b fun rm => .done (.shlRmvOne rm))
    (rmOf m b fun rm => .done (.shrRmvOne rm))
    (rmOf m b fun rm => .done (.salRmvOne rm))
    (rmOf m b fun rm => .done (.sarRmvOne rm))

/-- The group of opcode D2 by the reg field of its ModRM byte (R254, R257). -/
def groupD2 (m : Mode) : Fetch Instr := .byte fun b =>
  pick8 (regF b)
    (rmOf m b fun rm => .done (.rolRm8Cl rm))
    (rmOf m b fun rm => .done (.rorRm8Cl rm))
    (rmOf m b fun rm => .done (.rclRm8Cl rm))
    (rmOf m b fun rm => .done (.rcrRm8Cl rm))
    (rmOf m b fun rm => .done (.shlRm8Cl rm))
    (rmOf m b fun rm => .done (.shrRm8Cl rm))
    (rmOf m b fun rm => .done (.salRm8Cl rm))
    (rmOf m b fun rm => .done (.sarRm8Cl rm))

/-- The group of opcode D3 by the reg field of its ModRM byte (R254, R257). -/
def groupD3 (m : Mode) : Fetch Instr := .byte fun b =>
  pick8 (regF b)
    (rmOf m b fun rm => .done (.rolRmvCl rm))
    (rmOf m b fun rm => .done (.rorRmvCl rm))
    (rmOf m b fun rm => .done (.rclRmvCl rm))
    (rmOf m b fun rm => .done (.rcrRmvCl rm))
    (rmOf m b fun rm => .done (.shlRmvCl rm))
    (rmOf m b fun rm => .done (.shrRmvCl rm))
    (rmOf m b fun rm => .done (.salRmvCl rm))
    (rmOf m b fun rm => .done (.sarRmvCl rm))

/-- Opcodes Dx. -/
def mapOneD (m : Mode) (lo : BitVec 4) : Fetch Instr :=
  pick16 lo
    (groupD0 m)
    (groupD1 m)
    (groupD2 m)
    (groupD3 m)
    (.byte fun ib => .done (.aam ib))
    (.byte fun ib => .done (.aad ib))
    (.done (.udD6))
    (.done (.xlat))
    (.byte fun b => rmOf m b fun rm => .done (.esc 0#3 (regF b) rm))
    (.byte fun b => rmOf m b fun rm => .done (.esc 1#3 (regF b) rm))
    (.byte fun b => rmOf m b fun rm => .done (.esc 2#3 (regF b) rm))
    (.byte fun b => rmOf m b fun rm => .done (.esc 3#3 (regF b) rm))
    (.byte fun b => rmOf m b fun rm => .done (.esc 4#3 (regF b) rm))
    (.byte fun b => rmOf m b fun rm => .done (.esc 5#3 (regF b) rm))
    (.byte fun b => rmOf m b fun rm => .done (.esc 6#3 (regF b) rm))
    (.byte fun b => rmOf m b fun rm => .done (.esc 7#3 (regF b) rm))

/-- Opcodes Ex. -/
def mapOneE (m : Mode) (lo : BitVec 4) : Fetch Instr :=
  pick16 lo
    (.byte fun d8 => .done (.loopneRel8 d8))
    (.byte fun d8 => .done (.loopeRel8 d8))
    (.byte fun d8 => .done (.loopRel8 d8))
    (.byte fun d8 => .done (.jcxzRel8 d8))
    (.byte fun ib => .done (.inAlImm8 ib))
    (.byte fun ib => .done (.inEaxImm8 ib))
    (.byte fun ib => .done (.outImm8Al ib))
    (.byte fun ib => .done (.outImm8Eax ib))
    (immV m fun dv => .done (.callRelv dv))
    (immV m fun dv => .done (.jmpRelv dv))
    (immV m fun off => .word fun sel => .done (.jmpPtr off sel))
    (.byte fun d8 => .done (.jmpRel8 d8))
    (.done (.inAlDx))
    (.done (.inEaxDx))
    (.done (.outDxAl))
    (.done (.outDxEax))

/-- The group of opcode F6 by the reg field of its ModRM byte (R254, R257). -/
def groupF6 (m : Mode) : Fetch Instr := .byte fun b =>
  pick8 (regF b)
    (rmOf m b fun rm => .byte fun ib => .done (.testRm8Imm8 rm ib))
    (.done .udF6Ext1)
    (rmOf m b fun rm => .done (.notRm8 rm))
    (rmOf m b fun rm => .done (.negRm8 rm))
    (rmOf m b fun rm => .done (.mulRm8 rm))
    (rmOf m b fun rm => .done (.imulRm8 rm))
    (rmOf m b fun rm => .done (.divRm8 rm))
    (rmOf m b fun rm => .done (.idivRm8 rm))

/-- The group of opcode F7 by the reg field of its ModRM byte (R254, R257). -/
def groupF7 (m : Mode) : Fetch Instr := .byte fun b =>
  pick8 (regF b)
    (rmOf m b fun rm => immV m fun iv => .done (.testRmvImmv rm iv))
    (.done .udF7Ext1)
    (rmOf m b fun rm => .done (.notRmv rm))
    (rmOf m b fun rm => .done (.negRmv rm))
    (rmOf m b fun rm => .done (.mulRmv rm))
    (rmOf m b fun rm => .done (.imulRmv rm))
    (rmOf m b fun rm => .done (.divRmv rm))
    (rmOf m b fun rm => .done (.idivRmv rm))

/-- The group of opcode FE by the reg field of its ModRM byte (R254, R257). -/
def groupFE (m : Mode) : Fetch Instr := .byte fun b =>
  pick8 (regF b)
    (rmOf m b fun rm => .done (.incRm8 rm))
    (rmOf m b fun rm => .done (.decRm8 rm))
    (.done .udFEExt2)
    (.done .udFEExt3)
    (.done .udFEExt4)
    (.done .udFEExt5)
    (.done .udFEExt6)
    (.done .udFEExt7)

/-- The group of opcode FF by the reg field of its ModRM byte (R254, R257). -/
def groupFF (m : Mode) : Fetch Instr := .byte fun b =>
  pick8 (regF b)
    (rmOf m b fun rm => .done (.incRmv rm))
    (rmOf m b fun rm => .done (.decRmv rm))
    (rmOf m b fun rm => .done (.callRmv rm))
    (rmOf m b fun rm => .done (.callM rm))
    (rmOf m b fun rm => .done (.jmpRmv rm))
    (rmOf m b fun rm => .done (.jmpM rm))
    (rmOf m b fun rm => .done (.pushRmv rm))
    (.done .udFFExt7)

/-- Opcodes Fx. -/
def mapOneF (m : Mode) (lo : BitVec 4) : Fetch Instr :=
  pick16 lo
    (.done (.pfxLock))
    (.done (.udF1))
    (.done (.pfxRepne))
    (.done (.pfxRep))
    (.done (.hlt))
    (.done (.cmc))
    (groupF6 m)
    (groupF7 m)
    (.done (.clc))
    (.done (.stc))
    (.done (.cli))
    (.done (.sti))
    (.done (.cld))
    (.done (.std))
    (groupFE m)
    (groupFF m)

/-- THE DECODER (R220 to R262): one item, an instruction or one of the prefixes before it. It is total: every byte
sequence long enough is some row of the table. -/
def decode (m : Mode) : Fetch Instr := .byte fun b =>
  pick16 (b.extractLsb' 4 4)
    (mapOne0 m (b.extractLsb' 0 4))
    (mapOne1 m (b.extractLsb' 0 4))
    (mapOne2 m (b.extractLsb' 0 4))
    (mapOne3 m (b.extractLsb' 0 4))
    (mapOne4 m (b.extractLsb' 0 4))
    (mapOne5 m (b.extractLsb' 0 4))
    (mapOne6 m (b.extractLsb' 0 4))
    (mapOne7 m (b.extractLsb' 0 4))
    (mapOne8 m (b.extractLsb' 0 4))
    (mapOne9 m (b.extractLsb' 0 4))
    (mapOneA m (b.extractLsb' 0 4))
    (mapOneB m (b.extractLsb' 0 4))
    (mapOneC m (b.extractLsb' 0 4))
    (mapOneD m (b.extractLsb' 0 4))
    (mapOneE m (b.extractLsb' 0 4))
    (mapOneF m (b.extractLsb' 0 4))

/-- Why a list of bytes is not one instruction. -/
inductive DecodeError where
  /-- The bytes end before the instruction does. -/
  | needMoreBytes
  /-- The instruction would be longer than 15 bytes (R221); the machine raises the invalid-opcode exception. -/
  | tooLong
deriving DecidableEq, Repr

/-- Run a decoding on a list of bytes, of which `len` have been consumed before; multi-byte parts are little-endian and
the 15-byte limit is tested before each part is read (R221). -/
def Fetch.run {α : Type} : Fetch α → Nat → List Byte → Except DecodeError (α × List Byte)
  | .done a, _, bs => .ok (a, bs)
  | .byte k, len, bs =>
    if len + 1 > Config.maxInsnLen then .error .tooLong else
      match bs with
      | b :: t => (k b).run (len + 1) t
      | [] => .error .needMoreBytes
  | .word k, len, bs =>
    if len + 2 > Config.maxInsnLen then .error .tooLong else
      match bs with
      | b0 :: b1 :: t => (k (b1 ++ b0)).run (len + 2) t
      | _ => .error .needMoreBytes
  | .dword k, len, bs =>
    if len + 4 > Config.maxInsnLen then .error .tooLong else
      match bs with
      | b0 :: b1 :: b2 :: b3 :: t => (k (b3 ++ (b2 ++ (b1 ++ b0)))).run (len + 4) t
      | _ => .error .needMoreBytes

/-- Decode one item from a list of bytes: it and the bytes after it. -/
def decodeBytes (m : Mode) (bs : List Byte) : Except DecodeError (Instr × List Byte) :=
  (decode m).run 0 bs

/-- The mode after reset: 16-bit operand and address size, real-address mode (R93). -/
def Mode.reset : Mode := { osz32 := false, asz32 := false, pe := false }

/-- The fifteen bytes of an instruction numbered as the opcode table numbers its bits: the first byte is bits 7:0. -/
def tableBytes (w : Nat) : List Byte :=
  (List.range Config.maxInsnLen).map fun k => BitVec.ofNat 8 (w >>> (8 * k))

/-- The row the decoder reads, in the mode after reset, from an instruction whose bits are `w` with zeros above. -/
def decodeTableWord (_nbits w : Nat) : Option Instr :=
  match decodeBytes Mode.reset (tableBytes w) with
  | .ok (i, _) => some i
  | .error _ => none

/-- The two bytes of a word, low byte first (R122). -/
def le16 (v : W16) : List Byte := [v.extractLsb' 0 8, v.extractLsb' 8 8]

/-- The four bytes of a dword, low byte first (R122). -/
def le32 (v : W32) : List Byte :=
  [v.extractLsb' 0 8, v.extractLsb' 8 8, v.extractLsb' 16 8, v.extractLsb' 24 8]

/-- The bytes of an immediate. -/
def ImmV.bytes : ImmV → List Byte
  | .i16 v => le16 v
  | .i32 v => le32 v

/-- The mod field a 16-bit displacement needs (R233). -/
def modOf16 : Disp 16 → BitVec 2
  | .none => 0#2 | .d8 _ => 1#2 | .dn _ => 2#2

/-- The mod field a 32-bit displacement needs (R231). -/
def modOf32 : Disp 32 → BitVec 2
  | .none => 0#2 | .d8 _ => 1#2 | .dn _ => 2#2

/-- The bytes of a 16-bit form's displacement. -/
def dispBytes16 : Disp 16 → List Byte
  | .none => [] | .d8 d => [d] | .dn d => le16 d

/-- The bytes of a 32-bit form's displacement. -/
def dispBytes32 : Disp 32 → List Byte
  | .none => [] | .d8 d => [d] | .dn d => le32 d

/-- A ModRM byte from its three fields (R230). -/
def modrmByte (mod : BitVec 2) (reg rm : BitVec 3) : Byte := (mod ++ reg : BitVec 5) ++ rm

/-- A SIB byte from its three fields (R232). -/
def sibByte (scale : BitVec 2) (index base : Reg) : Byte := (scale ++ index.num : BitVec 5) ++ base.num

/-- The ModRM byte with a given reg field, the SIB byte and the displacement of an r/m operand (R230 to R234). -/
def encodeRm (reg : BitVec 3) : Rm → List Byte
  | .reg r => [modrmByte 3#2 reg r.num]
  | .abs16 d => modrmByte 0#2 reg 6#3 :: le16 d
  | .ind16 b d => modrmByte (modOf16 d) reg b.num :: dispBytes16 d
  | .abs32 d => modrmByte 0#2 reg 5#3 :: le32 d
  | .ind32 b d => modrmByte (modOf32 d) reg b.num :: dispBytes32 d
  | .sib sc ix b d => modrmByte (modOf32 d) reg 4#3 :: sibByte sc ix b :: dispBytes32 d
  | .sibAbs sc ix d => modrmByte 0#2 reg 4#3 :: sibByte sc ix .ebp :: le32 d
  | .cut mod rm => [modrmByte mod reg rm]
  | .absent => []

/-- An opcode byte with a register number in its low three bits (R238). -/
def plusR (op : Byte) (r : Reg) : Byte := op + r.num.setWidth 8

/-- An opcode byte with a condition in its low four bits (R238). -/
def plusCc (op : Byte) (c : Cond) : Byte := op + c.num.setWidth 8

/-- THE ENCODER: the bytes of a well-formed item, from the same tables (R220, R234, R250 to R257). -/
def encode : Instr → List Byte
  | .addRm8R8 rm r => [0x00#8] ++ encodeRm r.num rm
  | .addRmvRv rm r => [0x01#8] ++ encodeRm r.num rm
  | .addR8Rm8 r rm => [0x02#8] ++ encodeRm r.num rm
  | .addRvRmv r rm => [0x03#8] ++ encodeRm r.num rm
  | .addAlImm8 ib => [0x04#8] ++ [ib]
  | .addEaxImmv iv => [0x05#8] ++ iv.bytes
  | .orRm8R8 rm r => [0x08#8] ++ encodeRm r.num rm
  | .orRmvRv rm r => [0x09#8] ++ encodeRm r.num rm
  | .orR8Rm8 r rm => [0x0A#8] ++ encodeRm r.num rm
  | .orRvRmv r rm => [0x0B#8] ++ encodeRm r.num rm
  | .orAlImm8 ib => [0x0C#8] ++ [ib]
  | .orEaxImmv iv => [0x0D#8] ++ iv.bytes
  | .adcRm8R8 rm r => [0x10#8] ++ encodeRm r.num rm
  | .adcRmvRv rm r => [0x11#8] ++ encodeRm r.num rm
  | .adcR8Rm8 r rm => [0x12#8] ++ encodeRm r.num rm
  | .adcRvRmv r rm => [0x13#8] ++ encodeRm r.num rm
  | .adcAlImm8 ib => [0x14#8] ++ [ib]
  | .adcEaxImmv iv => [0x15#8] ++ iv.bytes
  | .sbbRm8R8 rm r => [0x18#8] ++ encodeRm r.num rm
  | .sbbRmvRv rm r => [0x19#8] ++ encodeRm r.num rm
  | .sbbR8Rm8 r rm => [0x1A#8] ++ encodeRm r.num rm
  | .sbbRvRmv r rm => [0x1B#8] ++ encodeRm r.num rm
  | .sbbAlImm8 ib => [0x1C#8] ++ [ib]
  | .sbbEaxImmv iv => [0x1D#8] ++ iv.bytes
  | .andRm8R8 rm r => [0x20#8] ++ encodeRm r.num rm
  | .andRmvRv rm r => [0x21#8] ++ encodeRm r.num rm
  | .andR8Rm8 r rm => [0x22#8] ++ encodeRm r.num rm
  | .andRvRmv r rm => [0x23#8] ++ encodeRm r.num rm
  | .andAlImm8 ib => [0x24#8] ++ [ib]
  | .andEaxImmv iv => [0x25#8] ++ iv.bytes
  | .subRm8R8 rm r => [0x28#8] ++ encodeRm r.num rm
  | .subRmvRv rm r => [0x29#8] ++ encodeRm r.num rm
  | .subR8Rm8 r rm => [0x2A#8] ++ encodeRm r.num rm
  | .subRvRmv r rm => [0x2B#8] ++ encodeRm r.num rm
  | .subAlImm8 ib => [0x2C#8] ++ [ib]
  | .subEaxImmv iv => [0x2D#8] ++ iv.bytes
  | .xorRm8R8 rm r => [0x30#8] ++ encodeRm r.num rm
  | .xorRmvRv rm r => [0x31#8] ++ encodeRm r.num rm
  | .xorR8Rm8 r rm => [0x32#8] ++ encodeRm r.num rm
  | .xorRvRmv r rm => [0x33#8] ++ encodeRm r.num rm
  | .xorAlImm8 ib => [0x34#8] ++ [ib]
  | .xorEaxImmv iv => [0x35#8] ++ iv.bytes
  | .cmpRm8R8 rm r => [0x38#8] ++ encodeRm r.num rm
  | .cmpRmvRv rm r => [0x39#8] ++ encodeRm r.num rm
  | .cmpR8Rm8 r rm => [0x3A#8] ++ encodeRm r.num rm
  | .cmpRvRmv r rm => [0x3B#8] ++ encodeRm r.num rm
  | .cmpAlImm8 ib => [0x3C#8] ++ [ib]
  | .cmpEaxImmv iv => [0x3D#8] ++ iv.bytes
  | .pushRv r => [plusR 0x50#8 r]
  | .popRv r => [plusR 0x58#8 r]
  | .boundRvM r rm => [0x62#8] ++ encodeRm r.num rm
  | .arplRm16R16 rm r => [0x63#8] ++ encodeRm r.num rm
  | .pushImmv iv => [0x68#8] ++ iv.bytes
  | .imulRvRmvImmv r rm iv => [0x69#8] ++ encodeRm r.num rm ++ iv.bytes
  | .pushImm8 ib => [0x6A#8] ++ [ib]
  | .imulRvRmvImm8 r rm ib => [0x6B#8] ++ encodeRm r.num rm ++ [ib]
  | .jccRel8 cc d8 => [plusCc 0x70#8 cc] ++ [d8]
  | .addRm8Imm8 x82 rm ib => [if x82 then 0x82#8 else 0x80#8] ++ encodeRm 0#3 rm ++ [ib]
  | .orRm8Imm8 x82 rm ib => [if x82 then 0x82#8 else 0x80#8] ++ encodeRm 1#3 rm ++ [ib]
  | .adcRm8Imm8 x82 rm ib => [if x82 then 0x82#8 else 0x80#8] ++ encodeRm 2#3 rm ++ [ib]
  | .sbbRm8Imm8 x82 rm ib => [if x82 then 0x82#8 else 0x80#8] ++ encodeRm 3#3 rm ++ [ib]
  | .andRm8Imm8 x82 rm ib => [if x82 then 0x82#8 else 0x80#8] ++ encodeRm 4#3 rm ++ [ib]
  | .subRm8Imm8 x82 rm ib => [if x82 then 0x82#8 else 0x80#8] ++ encodeRm 5#3 rm ++ [ib]
  | .xorRm8Imm8 x82 rm ib => [if x82 then 0x82#8 else 0x80#8] ++ encodeRm 6#3 rm ++ [ib]
  | .cmpRm8Imm8 x82 rm ib => [if x82 then 0x82#8 else 0x80#8] ++ encodeRm 7#3 rm ++ [ib]
  | .addRmvImmv rm iv => [0x81#8] ++ encodeRm 0#3 rm ++ iv.bytes
  | .orRmvImmv rm iv => [0x81#8] ++ encodeRm 1#3 rm ++ iv.bytes
  | .adcRmvImmv rm iv => [0x81#8] ++ encodeRm 2#3 rm ++ iv.bytes
  | .sbbRmvImmv rm iv => [0x81#8] ++ encodeRm 3#3 rm ++ iv.bytes
  | .andRmvImmv rm iv => [0x81#8] ++ encodeRm 4#3 rm ++ iv.bytes
  | .subRmvImmv rm iv => [0x81#8] ++ encodeRm 5#3 rm ++ iv.bytes
  | .xorRmvImmv rm iv => [0x81#8] ++ encodeRm 6#3 rm ++ iv.bytes
  | .cmpRmvImmv rm iv => [0x81#8] ++ encodeRm 7#3 rm ++ iv.bytes
  | .addRmvImm8 rm ib => [0x83#8] ++ encodeRm 0#3 rm ++ [ib]
  | .orRmvImm8 rm ib => [0x83#8] ++ encodeRm 1#3 rm ++ [ib]
  | .adcRmvImm8 rm ib => [0x83#8] ++ encodeRm 2#3 rm ++ [ib]
  | .sbbRmvImm8 rm ib => [0x83#8] ++ encodeRm 3#3 rm ++ [ib]
  | .andRmvImm8 rm ib => [0x83#8] ++ encodeRm 4#3 rm ++ [ib]
  | .subRmvImm8 rm ib => [0x83#8] ++ encodeRm 5#3 rm ++ [ib]
  | .xorRmvImm8 rm ib => [0x83#8] ++ encodeRm 6#3 rm ++ [ib]
  | .cmpRmvImm8 rm ib => [0x83#8] ++ encodeRm 7#3 rm ++ [ib]
  | .testRm8R8 rm r => [0x84#8] ++ encodeRm r.num rm
  | .testRmvRv rm r => [0x85#8] ++ encodeRm r.num rm
  | .xchgRm8R8 rm r => [0x86#8] ++ encodeRm r.num rm
  | .xchgRmvRv rm r => [0x87#8] ++ encodeRm r.num rm
  | .movRm8R8 rm r => [0x88#8] ++ encodeRm r.num rm
  | .movRmvRv rm r => [0x89#8] ++ encodeRm r.num rm
  | .movR8Rm8 r rm => [0x8A#8] ++ encodeRm r.num rm
  | .movRvRmv r rm => [0x8B#8] ++ encodeRm r.num rm
  | .movRm16Sreg rm n => [0x8C#8] ++ encodeRm n rm
  | .leaRvM r rm => [0x8D#8] ++ encodeRm r.num rm
  | .movSregRm16 n rm => [0x8E#8] ++ encodeRm n rm
  | .popRmv rm => [0x8F#8] ++ encodeRm 0#3 rm
  | .callPtr off sel => [0x9A#8] ++ off.bytes ++ le16 sel
  | .movAlMoffs ia => [0xA0#8] ++ ia.bytes
  | .movEaxMoffs ia => [0xA1#8] ++ ia.bytes
  | .movMoffsAl ia => [0xA2#8] ++ ia.bytes
  | .movMoffsEax ia => [0xA3#8] ++ ia.bytes
  | .testAlImm8 ib => [0xA8#8] ++ [ib]
  | .testEaxImmv iv => [0xA9#8] ++ iv.bytes
  | .movR8Imm8 r ib => [plusR 0xB0#8 r] ++ [ib]
  | .movRvImmv r iv => [plusR 0xB8#8 r] ++ iv.bytes
  | .rolRm8Imm8 rm ib => [0xC0#8] ++ encodeRm 0#3 rm ++ [ib]
  | .rorRm8Imm8 rm ib => [0xC0#8] ++ encodeRm 1#3 rm ++ [ib]
  | .rclRm8Imm8 rm ib => [0xC0#8] ++ encodeRm 2#3 rm ++ [ib]
  | .rcrRm8Imm8 rm ib => [0xC0#8] ++ encodeRm 3#3 rm ++ [ib]
  | .shlRm8Imm8 rm ib => [0xC0#8] ++ encodeRm 4#3 rm ++ [ib]
  | .shrRm8Imm8 rm ib => [0xC0#8] ++ encodeRm 5#3 rm ++ [ib]
  | .salRm8Imm8 rm ib => [0xC0#8] ++ encodeRm 6#3 rm ++ [ib]
  | .sarRm8Imm8 rm ib => [0xC0#8] ++ encodeRm 7#3 rm ++ [ib]
  | .rolRmvImm8 rm ib => [0xC1#8] ++ encodeRm 0#3 rm ++ [ib]
  | .rorRmvImm8 rm ib => [0xC1#8] ++ encodeRm 1#3 rm ++ [ib]
  | .rclRmvImm8 rm ib => [0xC1#8] ++ encodeRm 2#3 rm ++ [ib]
  | .rcrRmvImm8 rm ib => [0xC1#8] ++ encodeRm 3#3 rm ++ [ib]
  | .shlRmvImm8 rm ib => [0xC1#8] ++ encodeRm 4#3 rm ++ [ib]
  | .shrRmvImm8 rm ib => [0xC1#8] ++ encodeRm 5#3 rm ++ [ib]
  | .salRmvImm8 rm ib => [0xC1#8] ++ encodeRm 6#3 rm ++ [ib]
  | .sarRmvImm8 rm ib => [0xC1#8] ++ encodeRm 7#3 rm ++ [ib]
  | .rolRm8One rm => [0xD0#8] ++ encodeRm 0#3 rm
  | .rorRm8One rm => [0xD0#8] ++ encodeRm 1#3 rm
  | .rclRm8One rm => [0xD0#8] ++ encodeRm 2#3 rm
  | .rcrRm8One rm => [0xD0#8] ++ encodeRm 3#3 rm
  | .shlRm8One rm => [0xD0#8] ++ encodeRm 4#3 rm
  | .shrRm8One rm => [0xD0#8] ++ encodeRm 5#3 rm
  | .salRm8One rm => [0xD0#8] ++ encodeRm 6#3 rm
  | .sarRm8One rm => [0xD0#8] ++ encodeRm 7#3 rm
  | .rolRmvOne rm => [0xD1#8] ++ encodeRm 0#3 rm
  | .rorRmvOne rm => [0xD1#8] ++ encodeRm 1#3 rm
  | .rclRmvOne rm => [0xD1#8] ++ encodeRm 2#3 rm
  | .rcrRmvOne rm => [0xD1#8] ++ encodeRm 3#3 rm
  | .shlRmvOne rm => [0xD1#8] ++ encodeRm 4#3 rm
  | .shrRmvOne rm => [0xD1#8] ++ encodeRm 5#3 rm
  | .salRmvOne rm => [0xD1#8] ++ encodeRm 6#3 rm
  | .sarRmvOne rm => [0xD1#8] ++ encodeRm 7#3 rm
  | .rolRm8Cl rm => [0xD2#8] ++ encodeRm 0#3 rm
  | .rorRm8Cl rm => [0xD2#8] ++ encodeRm 1#3 rm
  | .rclRm8Cl rm => [0xD2#8] ++ encodeRm 2#3 rm
  | .rcrRm8Cl rm => [0xD2#8] ++ encodeRm 3#3 rm
  | .shlRm8Cl rm => [0xD2#8] ++ encodeRm 4#3 rm
  | .shrRm8Cl rm => [0xD2#8] ++ encodeRm 5#3 rm
  | .salRm8Cl rm => [0xD2#8] ++ encodeRm 6#3 rm
  | .sarRm8Cl rm => [0xD2#8] ++ encodeRm 7#3 rm
  | .rolRmvCl rm => [0xD3#8] ++ encodeRm 0#3 rm
  | .rorRmvCl rm => [0xD3#8] ++ encodeRm 1#3 rm
  | .rclRmvCl rm => [0xD3#8] ++ encodeRm 2#3 rm
  | .rcrRmvCl rm => [0xD3#8] ++ encodeRm 3#3 rm
  | .shlRmvCl rm => [0xD3#8] ++ encodeRm 4#3 rm
  | .shrRmvCl rm => [0xD3#8] ++ encodeRm 5#3 rm
  | .salRmvCl rm => [0xD3#8] ++ encodeRm 6#3 rm
  | .sarRmvCl rm => [0xD3#8] ++ encodeRm 7#3 rm
  | .retImm16 iw => [0xC2#8] ++ le16 iw
  | .lesRvM r rm => [0xC4#8] ++ encodeRm r.num rm
  | .ldsRvM r rm => [0xC5#8] ++ encodeRm r.num rm
  | .movRm8Imm8 rm ib => [0xC6#8] ++ encodeRm 0#3 rm ++ [ib]
  | .movRmvImmv rm iv => [0xC7#8] ++ encodeRm 0#3 rm ++ iv.bytes
  | .enter iw lvl => [0xC8#8] ++ le16 iw ++ [lvl]
  | .retfImm16 iw => [0xCA#8] ++ le16 iw
  | .intImm8 ib => [0xCD#8] ++ [ib]
  | .aam ib => [0xD4#8] ++ [ib]
  | .aad ib => [0xD5#8] ++ [ib]
  | .esc esc n rm => [0xD8#8 + esc.setWidth 8] ++ encodeRm n rm
  | .loopneRel8 d8 => [0xE0#8] ++ [d8]
  | .loopeRel8 d8 => [0xE1#8] ++ [d8]
  | .loopRel8 d8 => [0xE2#8] ++ [d8]
  | .jcxzRel8 d8 => [0xE3#8] ++ [d8]
  | .inAlImm8 ib => [0xE4#8] ++ [ib]
  | .inEaxImm8 ib => [0xE5#8] ++ [ib]
  | .outImm8Al ib => [0xE6#8] ++ [ib]
  | .outImm8Eax ib => [0xE7#8] ++ [ib]
  | .callRelv dv => [0xE8#8] ++ dv.bytes
  | .jmpRelv dv => [0xE9#8] ++ dv.bytes
  | .jmpPtr off sel => [0xEA#8] ++ off.bytes ++ le16 sel
  | .jmpRel8 d8 => [0xEB#8] ++ [d8]
  | .testRm8Imm8 rm ib => [0xF6#8] ++ encodeRm 0#3 rm ++ [ib]
  | .notRm8 rm => [0xF6#8] ++ encodeRm 2#3 rm
  | .negRm8 rm => [0xF6#8] ++ encodeRm 3#3 rm
  | .mulRm8 rm => [0xF6#8] ++ encodeRm 4#3 rm
  | .imulRm8 rm => [0xF6#8] ++ encodeRm 5#3 rm
  | .divRm8 rm => [0xF6#8] ++ encodeRm 6#3 rm
  | .idivRm8 rm => [0xF6#8] ++ encodeRm 7#3 rm
  | .testRmvImmv rm iv => [0xF7#8] ++ encodeRm 0#3 rm ++ iv.bytes
  | .notRmv rm => [0xF7#8] ++ encodeRm 2#3 rm
  | .negRmv rm => [0xF7#8] ++ encodeRm 3#3 rm
  | .mulRmv rm => [0xF7#8] ++ encodeRm 4#3 rm
  | .imulRmv rm => [0xF7#8] ++ encodeRm 5#3 rm
  | .divRmv rm => [0xF7#8] ++ encodeRm 6#3 rm
  | .idivRmv rm => [0xF7#8] ++ encodeRm 7#3 rm
  | .incRm8 rm => [0xFE#8] ++ encodeRm 0#3 rm
  | .decRm8 rm => [0xFE#8] ++ encodeRm 1#3 rm
  | .incRmv rm => [0xFF#8] ++ encodeRm 0#3 rm
  | .decRmv rm => [0xFF#8] ++ encodeRm 1#3 rm
  | .callRmv rm => [0xFF#8] ++ encodeRm 2#3 rm
  | .callM rm => [0xFF#8] ++ encodeRm 3#3 rm
  | .jmpRmv rm => [0xFF#8] ++ encodeRm 4#3 rm
  | .jmpM rm => [0xFF#8] ++ encodeRm 5#3 rm
  | .pushRmv rm => [0xFF#8] ++ encodeRm 6#3 rm
  | .sldtRm16 rm => [0x0F#8, 0x00#8] ++ encodeRm 0#3 rm
  | .strRm16 rm => [0x0F#8, 0x00#8] ++ encodeRm 1#3 rm
  | .lldtRm16 rm => [0x0F#8, 0x00#8] ++ encodeRm 2#3 rm
  | .ltrRm16 rm => [0x0F#8, 0x00#8] ++ encodeRm 3#3 rm
  | .verrRm16 rm => [0x0F#8, 0x00#8] ++ encodeRm 4#3 rm
  | .verwRm16 rm => [0x0F#8, 0x00#8] ++ encodeRm 5#3 rm
  | .sgdtM rm => [0x0F#8, 0x01#8] ++ encodeRm 0#3 rm
  | .sidtM rm => [0x0F#8, 0x01#8] ++ encodeRm 1#3 rm
  | .lgdtM rm => [0x0F#8, 0x01#8] ++ encodeRm 2#3 rm
  | .lidtM rm => [0x0F#8, 0x01#8] ++ encodeRm 3#3 rm
  | .smswRm16 rm => [0x0F#8, 0x01#8] ++ encodeRm 4#3 rm
  | .lmswRm16 rm => [0x0F#8, 0x01#8] ++ encodeRm 6#3 rm
  | .invlpgM rm => [0x0F#8, 0x01#8] ++ encodeRm 7#3 rm
  | .larRvRm16 r rm => [0x0F#8, 0x02#8] ++ encodeRm r.num rm
  | .lslRvRm16 r rm => [0x0F#8, 0x03#8] ++ encodeRm r.num rm
  | .movR32Cr rm n => [0x0F#8, 0x20#8] ++ encodeRm n rm
  | .movCrR32 n rm => [0x0F#8, 0x22#8] ++ encodeRm n rm
  | .movDrR32 n rm => [0x0F#8, 0x23#8] ++ encodeRm n rm
  | .cmovRvRmv cc r rm => [0x0F#8, plusCc 0x40#8 cc] ++ encodeRm r.num rm
  | .jccRelv cc dv => [0x0F#8, plusCc 0x80#8 cc] ++ dv.bytes
  | .setccRm8 cc n rm => [0x0F#8, plusCc 0x90#8 cc] ++ encodeRm n rm
  | .btRmvRv rm r => [0x0F#8, 0xA3#8] ++ encodeRm r.num rm
  | .shldImm8 rm r ib => [0x0F#8, 0xA4#8] ++ encodeRm r.num rm ++ [ib]
  | .shldCl rm r => [0x0F#8, 0xA5#8] ++ encodeRm r.num rm
  | .btsRmvRv rm r => [0x0F#8, 0xAB#8] ++ encodeRm r.num rm
  | .shrdImm8 rm r ib => [0x0F#8, 0xAC#8] ++ encodeRm r.num rm ++ [ib]
  | .shrdCl rm r => [0x0F#8, 0xAD#8] ++ encodeRm r.num rm
  | .imulRvRmv r rm => [0x0F#8, 0xAF#8] ++ encodeRm r.num rm
  | .cmpxchgRm8R8 rm r => [0x0F#8, 0xB0#8] ++ encodeRm r.num rm
  | .cmpxchgRmvRv rm r => [0x0F#8, 0xB1#8] ++ encodeRm r.num rm
  | .lssRvM r rm => [0x0F#8, 0xB2#8] ++ encodeRm r.num rm
  | .btrRmvRv rm r => [0x0F#8, 0xB3#8] ++ encodeRm r.num rm
  | .lfsRvM r rm => [0x0F#8, 0xB4#8] ++ encodeRm r.num rm
  | .lgsRvM r rm => [0x0F#8, 0xB5#8] ++ encodeRm r.num rm
  | .movzxRvRm8 r rm => [0x0F#8, 0xB6#8] ++ encodeRm r.num rm
  | .movzxRvRm16 r rm => [0x0F#8, 0xB7#8] ++ encodeRm r.num rm
  | .btRmvImm8 rm ib => [0x0F#8, 0xBA#8] ++ encodeRm 4#3 rm ++ [ib]
  | .btsRmvImm8 rm ib => [0x0F#8, 0xBA#8] ++ encodeRm 5#3 rm ++ [ib]
  | .btrRmvImm8 rm ib => [0x0F#8, 0xBA#8] ++ encodeRm 6#3 rm ++ [ib]
  | .btcRmvImm8 rm ib => [0x0F#8, 0xBA#8] ++ encodeRm 7#3 rm ++ [ib]
  | .btcRmvRv rm r => [0x0F#8, 0xBB#8] ++ encodeRm r.num rm
  | .bsfRvRmv r rm => [0x0F#8, 0xBC#8] ++ encodeRm r.num rm
  | .bsrRvRmv r rm => [0x0F#8, 0xBD#8] ++ encodeRm r.num rm
  | .movsxRvRm8 r rm => [0x0F#8, 0xBE#8] ++ encodeRm r.num rm
  | .movsxRvRm16 r rm => [0x0F#8, 0xBF#8] ++ encodeRm r.num rm
  | .xaddRm8R8 rm r => [0x0F#8, 0xC0#8] ++ encodeRm r.num rm
  | .xaddRmvRv rm r => [0x0F#8, 0xC1#8] ++ encodeRm r.num rm
  | .bswapR32 r => [0x0F#8, plusR 0xC8#8 r]
  | .pfxEs => [0x26#8]
  | .pfxCs => [0x2E#8]
  | .pfxSs => [0x36#8]
  | .pfxDs => [0x3E#8]
  | .pfxFs => [0x64#8]
  | .pfxGs => [0x65#8]
  | .pfxOpsize => [0x66#8]
  | .pfxAddrsize => [0x67#8]
  | .pfxRepne => [0xF2#8]
  | .pfxRep => [0xF3#8]
  | .pfxLock => [0xF0#8]
  | .pushEs => [0x06#8]
  | .pushCs => [0x0E#8]
  | .pushSs => [0x16#8]
  | .pushDs => [0x1E#8]
  | .popEs => [0x07#8]
  | .popSs => [0x17#8]
  | .popDs => [0x1F#8]
  | .daa => [0x27#8]
  | .das => [0x2F#8]
  | .aaa => [0x37#8]
  | .aas => [0x3F#8]
  | .incEax => [0x40#8]
  | .incEcx => [0x41#8]
  | .incEdx => [0x42#8]
  | .incEbx => [0x43#8]
  | .incEsp => [0x44#8]
  | .incEbp => [0x45#8]
  | .incEsi => [0x46#8]
  | .incEdi => [0x47#8]
  | .decEax => [0x48#8]
  | .decEcx => [0x49#8]
  | .decEdx => [0x4A#8]
  | .decEbx => [0x4B#8]
  | .decEsp => [0x4C#8]
  | .decEbp => [0x4D#8]
  | .decEsi => [0x4E#8]
  | .decEdi => [0x4F#8]
  | .pusha => [0x60#8]
  | .popa => [0x61#8]
  | .insb => [0x6C#8]
  | .insv => [0x6D#8]
  | .outsb => [0x6E#8]
  | .outsv => [0x6F#8]
  | .nop => [0x90#8]
  | .xchgEaxEcx => [0x91#8]
  | .xchgEaxEdx => [0x92#8]
  | .xchgEaxEbx => [0x93#8]
  | .xchgEaxEsp => [0x94#8]
  | .xchgEaxEbp => [0x95#8]
  | .xchgEaxEsi => [0x96#8]
  | .xchgEaxEdi => [0x97#8]
  | .cbw => [0x98#8]
  | .cwd => [0x99#8]
  | .fwait => [0x9B#8]
  | .pushf => [0x9C#8]
  | .popf => [0x9D#8]
  | .sahf => [0x9E#8]
  | .lahf => [0x9F#8]
  | .movsb => [0xA4#8]
  | .movsv => [0xA5#8]
  | .cmpsb => [0xA6#8]
  | .cmpsv => [0xA7#8]
  | .stosb => [0xAA#8]
  | .stosv => [0xAB#8]
  | .lodsb => [0xAC#8]
  | .lodsv => [0xAD#8]
  | .scasb => [0xAE#8]
  | .scasv => [0xAF#8]
  | .ret => [0xC3#8]
  | .leave => [0xC9#8]
  | .retf => [0xCB#8]
  | .int3 => [0xCC#8]
  | .into => [0xCE#8]
  | .iret => [0xCF#8]
  | .xlat => [0xD7#8]
  | .inAlDx => [0xEC#8]
  | .inEaxDx => [0xED#8]
  | .outDxAl => [0xEE#8]
  | .outDxEax => [0xEF#8]
  | .hlt => [0xF4#8]
  | .cmc => [0xF5#8]
  | .clc => [0xF8#8]
  | .stc => [0xF9#8]
  | .cli => [0xFA#8]
  | .sti => [0xFB#8]
  | .cld => [0xFC#8]
  | .std => [0xFD#8]
  | .clts => [0x0F#8, 0x06#8]
  | .invd => [0x0F#8, 0x08#8]
  | .wbinvd => [0x0F#8, 0x09#8]
  | .rdtsc => [0x0F#8, 0x31#8]
  | .pushFs => [0x0F#8, 0xA0#8]
  | .popFs => [0x0F#8, 0xA1#8]
  | .cpuid => [0x0F#8, 0xA2#8]
  | .pushGs => [0x0F#8, 0xA8#8]
  | .popGs => [0x0F#8, 0xA9#8]
  | .udD6 => [0xD6#8]
  | .udF1 => [0xF1#8]
  | .udF6Ext1 => [0xF6#8] ++ [modrmByte 0#2 1#3 0#3]
  | .udF7Ext1 => [0xF7#8] ++ [modrmByte 0#2 1#3 0#3]
  | .udFEExt2 => [0xFE#8] ++ [modrmByte 0#2 2#3 0#3]
  | .udFEExt3 => [0xFE#8] ++ [modrmByte 0#2 3#3 0#3]
  | .udFEExt4 => [0xFE#8] ++ [modrmByte 0#2 4#3 0#3]
  | .udFEExt5 => [0xFE#8] ++ [modrmByte 0#2 5#3 0#3]
  | .udFEExt6 => [0xFE#8] ++ [modrmByte 0#2 6#3 0#3]
  | .udFEExt7 => [0xFE#8] ++ [modrmByte 0#2 7#3 0#3]
  | .udFFExt7 => [0xFF#8] ++ [modrmByte 0#2 7#3 0#3]
  | .ud8FExt1 => [0x8F#8] ++ [modrmByte 0#2 1#3 0#3]
  | .ud8FExt2 => [0x8F#8] ++ [modrmByte 0#2 2#3 0#3]
  | .ud8FExt3 => [0x8F#8] ++ [modrmByte 0#2 3#3 0#3]
  | .ud8FExt4 => [0x8F#8] ++ [modrmByte 0#2 4#3 0#3]
  | .ud8FExt5 => [0x8F#8] ++ [modrmByte 0#2 5#3 0#3]
  | .ud8FExt6 => [0x8F#8] ++ [modrmByte 0#2 6#3 0#3]
  | .ud8FExt7 => [0x8F#8] ++ [modrmByte 0#2 7#3 0#3]
  | .udC6Ext1 => [0xC6#8] ++ [modrmByte 0#2 1#3 0#3]
  | .udC6Ext2 => [0xC6#8] ++ [modrmByte 0#2 2#3 0#3]
  | .udC6Ext3 => [0xC6#8] ++ [modrmByte 0#2 3#3 0#3]
  | .udC6Ext4 => [0xC6#8] ++ [modrmByte 0#2 4#3 0#3]
  | .udC6Ext5 => [0xC6#8] ++ [modrmByte 0#2 5#3 0#3]
  | .udC6Ext6 => [0xC6#8] ++ [modrmByte 0#2 6#3 0#3]
  | .udC6Ext7 => [0xC6#8] ++ [modrmByte 0#2 7#3 0#3]
  | .udC7Ext1 => [0xC7#8] ++ [modrmByte 0#2 1#3 0#3]
  | .udC7Ext2 => [0xC7#8] ++ [modrmByte 0#2 2#3 0#3]
  | .udC7Ext3 => [0xC7#8] ++ [modrmByte 0#2 3#3 0#3]
  | .udC7Ext4 => [0xC7#8] ++ [modrmByte 0#2 4#3 0#3]
  | .udC7Ext5 => [0xC7#8] ++ [modrmByte 0#2 5#3 0#3]
  | .udC7Ext6 => [0xC7#8] ++ [modrmByte 0#2 6#3 0#3]
  | .udC7Ext7 => [0xC7#8] ++ [modrmByte 0#2 7#3 0#3]
  | .ud0F00Ext6 => [0x0F#8, 0x00#8] ++ [modrmByte 0#2 6#3 0#3]
  | .ud0F00Ext7 => [0x0F#8, 0x00#8] ++ [modrmByte 0#2 7#3 0#3]
  | .ud0F01Ext5 => [0x0F#8, 0x01#8] ++ [modrmByte 0#2 5#3 0#3]
  | .ud0FBAExt0 => [0x0F#8, 0xBA#8] ++ [modrmByte 0#2 0#3 0#3]
  | .ud0FBAExt1 => [0x0F#8, 0xBA#8] ++ [modrmByte 0#2 1#3 0#3]
  | .ud0FBAExt2 => [0x0F#8, 0xBA#8] ++ [modrmByte 0#2 2#3 0#3]
  | .ud0FBAExt3 => [0x0F#8, 0xBA#8] ++ [modrmByte 0#2 3#3 0#3]
  | .ud0F04 => [0x0F#8, 0x04#8]
  | .ud0F05 => [0x0F#8, 0x05#8]
  | .ud0F07 => [0x0F#8, 0x07#8]
  | .ud0F0A => [0x0F#8, 0x0A#8]
  | .ud0F0B => [0x0F#8, 0x0B#8]
  | .ud0F0C => [0x0F#8, 0x0C#8]
  | .ud0F0D => [0x0F#8, 0x0D#8]
  | .ud0F0E => [0x0F#8, 0x0E#8]
  | .ud0F0F => [0x0F#8, 0x0F#8]
  | .ud0F10 => [0x0F#8, 0x10#8]
  | .ud0F11 => [0x0F#8, 0x11#8]
  | .ud0F12 => [0x0F#8, 0x12#8]
  | .ud0F13 => [0x0F#8, 0x13#8]
  | .ud0F14 => [0x0F#8, 0x14#8]
  | .ud0F15 => [0x0F#8, 0x15#8]
  | .ud0F16 => [0x0F#8, 0x16#8]
  | .ud0F17 => [0x0F#8, 0x17#8]
  | .ud0F18 => [0x0F#8, 0x18#8]
  | .ud0F19 => [0x0F#8, 0x19#8]
  | .ud0F1A => [0x0F#8, 0x1A#8]
  | .ud0F1B => [0x0F#8, 0x1B#8]
  | .ud0F1C => [0x0F#8, 0x1C#8]
  | .ud0F1D => [0x0F#8, 0x1D#8]
  | .ud0F1E => [0x0F#8, 0x1E#8]
  | .ud0F1F => [0x0F#8, 0x1F#8]
  | .ud0F21 => [0x0F#8, 0x21#8]
  | .ud0F24 => [0x0F#8, 0x24#8]
  | .ud0F25 => [0x0F#8, 0x25#8]
  | .ud0F26 => [0x0F#8, 0x26#8]
  | .ud0F27 => [0x0F#8, 0x27#8]
  | .ud0F28 => [0x0F#8, 0x28#8]
  | .ud0F29 => [0x0F#8, 0x29#8]
  | .ud0F2A => [0x0F#8, 0x2A#8]
  | .ud0F2B => [0x0F#8, 0x2B#8]
  | .ud0F2C => [0x0F#8, 0x2C#8]
  | .ud0F2D => [0x0F#8, 0x2D#8]
  | .ud0F2E => [0x0F#8, 0x2E#8]
  | .ud0F2F => [0x0F#8, 0x2F#8]
  | .ud0F30 => [0x0F#8, 0x30#8]
  | .ud0F32 => [0x0F#8, 0x32#8]
  | .ud0F33 => [0x0F#8, 0x33#8]
  | .ud0F34 => [0x0F#8, 0x34#8]
  | .ud0F35 => [0x0F#8, 0x35#8]
  | .ud0F36 => [0x0F#8, 0x36#8]
  | .ud0F37 => [0x0F#8, 0x37#8]
  | .ud0F38 => [0x0F#8, 0x38#8]
  | .ud0F39 => [0x0F#8, 0x39#8]
  | .ud0F3A => [0x0F#8, 0x3A#8]
  | .ud0F3B => [0x0F#8, 0x3B#8]
  | .ud0F3C => [0x0F#8, 0x3C#8]
  | .ud0F3D => [0x0F#8, 0x3D#8]
  | .ud0F3E => [0x0F#8, 0x3E#8]
  | .ud0F3F => [0x0F#8, 0x3F#8]
  | .ud0F50 => [0x0F#8, 0x50#8]
  | .ud0F51 => [0x0F#8, 0x51#8]
  | .ud0F52 => [0x0F#8, 0x52#8]
  | .ud0F53 => [0x0F#8, 0x53#8]
  | .ud0F54 => [0x0F#8, 0x54#8]
  | .ud0F55 => [0x0F#8, 0x55#8]
  | .ud0F56 => [0x0F#8, 0x56#8]
  | .ud0F57 => [0x0F#8, 0x57#8]
  | .ud0F58 => [0x0F#8, 0x58#8]
  | .ud0F59 => [0x0F#8, 0x59#8]
  | .ud0F5A => [0x0F#8, 0x5A#8]
  | .ud0F5B => [0x0F#8, 0x5B#8]
  | .ud0F5C => [0x0F#8, 0x5C#8]
  | .ud0F5D => [0x0F#8, 0x5D#8]
  | .ud0F5E => [0x0F#8, 0x5E#8]
  | .ud0F5F => [0x0F#8, 0x5F#8]
  | .ud0F60 => [0x0F#8, 0x60#8]
  | .ud0F61 => [0x0F#8, 0x61#8]
  | .ud0F62 => [0x0F#8, 0x62#8]
  | .ud0F63 => [0x0F#8, 0x63#8]
  | .ud0F64 => [0x0F#8, 0x64#8]
  | .ud0F65 => [0x0F#8, 0x65#8]
  | .ud0F66 => [0x0F#8, 0x66#8]
  | .ud0F67 => [0x0F#8, 0x67#8]
  | .ud0F68 => [0x0F#8, 0x68#8]
  | .ud0F69 => [0x0F#8, 0x69#8]
  | .ud0F6A => [0x0F#8, 0x6A#8]
  | .ud0F6B => [0x0F#8, 0x6B#8]
  | .ud0F6C => [0x0F#8, 0x6C#8]
  | .ud0F6D => [0x0F#8, 0x6D#8]
  | .ud0F6E => [0x0F#8, 0x6E#8]
  | .ud0F6F => [0x0F#8, 0x6F#8]
  | .ud0F70 => [0x0F#8, 0x70#8]
  | .ud0F71 => [0x0F#8, 0x71#8]
  | .ud0F72 => [0x0F#8, 0x72#8]
  | .ud0F73 => [0x0F#8, 0x73#8]
  | .ud0F74 => [0x0F#8, 0x74#8]
  | .ud0F75 => [0x0F#8, 0x75#8]
  | .ud0F76 => [0x0F#8, 0x76#8]
  | .ud0F77 => [0x0F#8, 0x77#8]
  | .ud0F78 => [0x0F#8, 0x78#8]
  | .ud0F79 => [0x0F#8, 0x79#8]
  | .ud0F7A => [0x0F#8, 0x7A#8]
  | .ud0F7B => [0x0F#8, 0x7B#8]
  | .ud0F7C => [0x0F#8, 0x7C#8]
  | .ud0F7D => [0x0F#8, 0x7D#8]
  | .ud0F7E => [0x0F#8, 0x7E#8]
  | .ud0F7F => [0x0F#8, 0x7F#8]
  | .ud0FA6 => [0x0F#8, 0xA6#8]
  | .ud0FA7 => [0x0F#8, 0xA7#8]
  | .ud0FAA => [0x0F#8, 0xAA#8]
  | .ud0FAE => [0x0F#8, 0xAE#8]
  | .ud0FB8 => [0x0F#8, 0xB8#8]
  | .ud0FB9 => [0x0F#8, 0xB9#8]
  | .ud0FC2 => [0x0F#8, 0xC2#8]
  | .ud0FC3 => [0x0F#8, 0xC3#8]
  | .ud0FC4 => [0x0F#8, 0xC4#8]
  | .ud0FC5 => [0x0F#8, 0xC5#8]
  | .ud0FC6 => [0x0F#8, 0xC6#8]
  | .ud0FC7 => [0x0F#8, 0xC7#8]
  | .ud0FD0 => [0x0F#8, 0xD0#8]
  | .ud0FD1 => [0x0F#8, 0xD1#8]
  | .ud0FD2 => [0x0F#8, 0xD2#8]
  | .ud0FD3 => [0x0F#8, 0xD3#8]
  | .ud0FD4 => [0x0F#8, 0xD4#8]
  | .ud0FD5 => [0x0F#8, 0xD5#8]
  | .ud0FD6 => [0x0F#8, 0xD6#8]
  | .ud0FD7 => [0x0F#8, 0xD7#8]
  | .ud0FD8 => [0x0F#8, 0xD8#8]
  | .ud0FD9 => [0x0F#8, 0xD9#8]
  | .ud0FDA => [0x0F#8, 0xDA#8]
  | .ud0FDB => [0x0F#8, 0xDB#8]
  | .ud0FDC => [0x0F#8, 0xDC#8]
  | .ud0FDD => [0x0F#8, 0xDD#8]
  | .ud0FDE => [0x0F#8, 0xDE#8]
  | .ud0FDF => [0x0F#8, 0xDF#8]
  | .ud0FE0 => [0x0F#8, 0xE0#8]
  | .ud0FE1 => [0x0F#8, 0xE1#8]
  | .ud0FE2 => [0x0F#8, 0xE2#8]
  | .ud0FE3 => [0x0F#8, 0xE3#8]
  | .ud0FE4 => [0x0F#8, 0xE4#8]
  | .ud0FE5 => [0x0F#8, 0xE5#8]
  | .ud0FE6 => [0x0F#8, 0xE6#8]
  | .ud0FE7 => [0x0F#8, 0xE7#8]
  | .ud0FE8 => [0x0F#8, 0xE8#8]
  | .ud0FE9 => [0x0F#8, 0xE9#8]
  | .ud0FEA => [0x0F#8, 0xEA#8]
  | .ud0FEB => [0x0F#8, 0xEB#8]
  | .ud0FEC => [0x0F#8, 0xEC#8]
  | .ud0FED => [0x0F#8, 0xED#8]
  | .ud0FEE => [0x0F#8, 0xEE#8]
  | .ud0FEF => [0x0F#8, 0xEF#8]
  | .ud0FF0 => [0x0F#8, 0xF0#8]
  | .ud0FF1 => [0x0F#8, 0xF1#8]
  | .ud0FF2 => [0x0F#8, 0xF2#8]
  | .ud0FF3 => [0x0F#8, 0xF3#8]
  | .ud0FF4 => [0x0F#8, 0xF4#8]
  | .ud0FF5 => [0x0F#8, 0xF5#8]
  | .ud0FF6 => [0x0F#8, 0xF6#8]
  | .ud0FF7 => [0x0F#8, 0xF7#8]
  | .ud0FF8 => [0x0F#8, 0xF8#8]
  | .ud0FF9 => [0x0F#8, 0xF9#8]
  | .ud0FFA => [0x0F#8, 0xFA#8]
  | .ud0FFB => [0x0F#8, 0xFB#8]
  | .ud0FFC => [0x0F#8, 0xFC#8]
  | .ud0FFD => [0x0F#8, 0xFD#8]
  | .ud0FFE => [0x0F#8, 0xFE#8]
  | .ud0FFF => [0x0F#8, 0xFF#8]

end Sys2Proof
end

