-- ==== Sys2Proof/Machine/Bits.lean ====
section
/-! DEFINITION. The bit operations of the rules' notation (00_scope.md R9, R10) on values carried in 32 bits. -/

namespace Sys2Proof.Machine

/-- trunc_w(v), zero-extended to 32 bits (R10). -/
def truncW (w : Width) (v : W32) : W32 := (v.setWidth w.bits).setWidth 32

/-- The low w bits of v, sign-extended to 32 (R10). -/
def sextW (w : Width) (v : W32) : W32 := (v.setWidth w.bits).signExtend 32

/-- signed_w(v): the low w bits as a signed integer (R10). -/
def signedW (w : Width) (v : W32) : Int := (v.setWidth w.bits).toInt

/-- The low w bits as an unsigned integer. -/
def unsignedW (w : Width) (v : W32) : Nat := (v.setWidth w.bits).toNat

/-- msb_w(v) = v[w-1] (R10). -/
def msbW (w : Width) (v : W32) : Bool := v.getLsbD (w.bits - 1)

/-- parity8(v): whether v[7:0] has an even number of 1 bits (R10). -/
def parity8 (v : W32) : Bool :=
  !(v.getLsbD 0 ^^ v.getLsbD 1 ^^ v.getLsbD 2 ^^ v.getLsbD 3
    ^^ v.getLsbD 4 ^^ v.getLsbD 5 ^^ v.getLsbD 6 ^^ v.getLsbD 7)

/-- A truth value at bit position k of a 32-bit image. -/
def atBit (b : Bool) (k : Nat) : W32 := bif b then 1#32 <<< k else 0#32

/-- The n low bytes of v, lowest first (R122). -/
def bytesOf : Nat → W32 → List Byte
  | 0, _ => []
  | n + 1, v => v.setWidth 8 :: bytesOf n (v >>> 8)

/-- The value of a list of bytes, lowest first (R122). -/
def ofBytes : List Byte → W32
  | [] => 0#32
  | b :: t => (ofBytes t <<< 8) ||| b.setWidth 32

/-- The n consecutive addresses from a, modulo 2^32 (R121). -/
def addrsFrom : Nat → W32 → List W32
  | 0, _ => []
  | n + 1, a => a :: addrsFrom n (a + 1#32)

end Sys2Proof.Machine
end

