-- ==== Sys2Proof/Machine/State.lean ====
section
/-! DEFINITION. The state of the machine as plain data, everything 10_state.md gives it, and its value after reset
(R91, R92); the reasons a step can stop. -/

namespace Sys2Proof.Machine

/-- Why the machine aborts for good (60_exceptions.md R706). -/
inductive AbortReason where
  /-- A physical address at or beyond MEM_SIZE (R124). -/
  | busError
  /-- A task gate met in the IDT or by a far transfer (R674, R575). -/
  | unsupportedTaskGate
  /-- A far transfer to a TSS descriptor, or IRET with NT set (R575, R590). -/
  | unsupportedTaskSwitch
  /-- A far JMP through a call gate (R575). -/
  | unsupportedGateJump
  /-- IRET at CPL 0 popping an image with VM set (R592). -/
  | unsupportedVm86
  /-- Three consecutive delivery failures (R686). -/
  | tripleFault
deriving DecidableEq, Repr

/-- The reasons a step stops with a fault. -/
inductive Fault where
  /-- Raised by `step` alone, when the machine has aborted before: "once it is not none the machine makes no further
  step" (R85, R706). Safe: the abort itself is a next state that holds the reason. -/
  | aborted (r : AbortReason)
deriving DecidableEq, Repr

/-- The reasons a step is refused. -/
inductive Refusal where
  /-- Raised by an arm of `exec` whose instruction has no meaning yet, with the mnemonic of its row. Safe. No arm of
  this model raises it. -/
  | notModelled (mnemonic : String)
deriving DecidableEq, Repr

/-- The families of operation kinds of the lazy condition codes, but for EXPLICIT (R51). -/
inductive Family where
  | add | adc | sub | sbb | logic | shl | shr | sar | mul | inc | dec
deriving DecidableEq, Repr

/-- An operation kind: a family at a width, or EXPLICIT, a stored flag image (R51). -/
inductive OpKind where
  | record (f : Family) (w : Width)
  | explicit
deriving DecidableEq, Repr

/-- The lazy condition-code tuple (R50). -/
structure CC where
  op : OpKind
  dst : W32
  src : W32
  op2 : OpKind
  dst2 : W32
deriving DecidableEq, Repr

/-- The eight general registers, 32 bits each (R40). -/
structure Regs where
  eax : W32
  ecx : W32
  edx : W32
  ebx : W32
  esp : W32
  ebp : W32
  esi : W32
  edi : W32
deriving DecidableEq, Repr

/-- A segment register: the selector and the descriptor cache (R66). -/
structure SegReg where
  sel : W16
  base : W32
  limit : W32
  rights : W32
deriving DecidableEq, Repr

/-- The eight segment registers (R66, R67). -/
structure Segs where
  es : SegReg
  cs : SegReg
  ss : SegReg
  ds : SegReg
  fs : SegReg
  gs : SegReg
  ldtr : SegReg
  tr : SegReg
deriving DecidableEq, Repr

/-- A table register, GDTR or IDTR (R69). -/
structure TableReg where
  base : W32
  limit : W32
deriving DecidableEq, Repr

/-- What the TLB holds for a virtual page: the four entries of R80 in the form of R165. -/
structure TlbEntry where
  ppn : BitVec 20
  writable : Bool
  useracc : Bool
deriving DecidableEq, Repr

/-- The repeat prefixes (R222). -/
inductive Rep where
  | repe
  | repne
deriving DecidableEq, Repr

/-- The decode state of the instruction being fetched (R221 to R223): what its prefixes have set, the fetch pointer and
the length count. It is set anew at the start of every instruction. -/
structure DecodeState where
  opsizeOvr : Bool
  addrsizeOvr : Bool
  segOvr : Option Sreg
  rep : Option Rep
  lock : Bool
  fp : W32
  len : Nat
deriving DecidableEq, Repr

/-- The slots of the port dispatch that have a registered handler, per direction and width (R196 to R198). -/
structure PortTables where
  r8 : List (BitVec 10)
  r16 : List (BitVec 10)
  r32 : List (BitVec 10)
  w8 : List (BitVec 10)
  w16 : List (BitVec 10)
  w32 : List (BitVec 10)
deriving DecidableEq, Repr

/-- The state of the machine. INVENTORY.md lists the rule that names each field. -/
structure State where
  /-- The general registers x[0] to x[7] (R40). -/
  regs : Regs
  /-- The instruction pointer EIP (R44). -/
  pc : W32
  /-- The lazy condition codes (R50). -/
  cc : CC
  /-- The direction flag (R47). -/
  df : Bool
  /-- TF, IF, IOPL, NT, AC, ID of EFLAGS (R46 to R48). -/
  eflagsSys : W32
  /-- Control register 0 (R62). -/
  cr0 : W32
  /-- Control register 2, the page-fault address (R63). -/
  cr2 : W32
  /-- Control register 3, the page-directory base (R64). -/
  cr3 : W32
  /-- Control register 4 (R65). -/
  cr4 : W32
  /-- The current privilege level (R71). -/
  cpl : BitVec 2
  /-- The segment registers (R66). -/
  segs : Segs
  /-- The GDT pointer (R69). -/
  gdtr : TableReg
  /-- The IDT pointer (R69). -/
  idtr : TableReg
  /-- The TLB: virtual page number and what it holds for it, page numbers strictly rising (R80, R165). -/
  tlb : List (Nat × TlbEntry)
  /-- The eviction list, oldest first; its length is tlb_count (R81). -/
  tlbList : List Nat
  /-- The halted flag (R82). -/
  halted : Bool
  /-- The latched vector (R83). -/
  pendingVector : Option Byte
  /-- The instruction-cycle counter (R84). -/
  cycleCount : BitVec 64
  /-- The abort reason (R85). -/
  aborted : Option AbortReason
  /-- Physical memory: the bytes that are not zero, addresses strictly rising (R120; log entry 1). -/
  mem : List Host.Cell
  /-- The decode state (R221 to R223). -/
  dec : DecodeState
  /-- MEM_SIZE, a launch parameter that no step changes (R7, R120; log entry 2). -/
  memSize : Nat
  /-- IrqLine, the platform's interrupt line (R86, R716; log entry 3). -/
  irqLine : Bool
  /-- The registered port handlers, a launch parameter that no step changes (R196, R198; log entry 4). -/
  ports : PortTables
  /-- The model's own: the calls made on the platform, newest first (log entry 5). -/
  history : List PlatEvent
  /-- The model's own: step_faulted, a result of the last step that `execute` reads (R700, R705; log entry 6). -/
  stepFaulted : Bool
deriving DecidableEq, Repr

/-- The decode state at the start of an instruction at an offset (R221, R223). -/
def DecodeState.start (pc : W32) : DecodeState :=
  { opsizeOvr := false, addrsizeOvr := false, segOvr := none, rep := none, lock := false, fp := pc, len := 0 }

/-- A segment register as reset or a real-mode load of selector 0 leaves it, with the given rights (R91). -/
def SegReg.resetWith (rights : W32) : SegReg :=
  { sel := 0#16, base := 0#32, limit := 0x0000FFFF#32, rights := rights }

/-- No handler registered. -/
def PortTables.none : PortTables := { r8 := [], r16 := [], r32 := [], w8 := [], w16 := [], w32 := [] }

/-- What the host gives when it creates the machine (R740): the size and the contents of physical memory, the port
handlers and the line. -/
structure Launch where
  memSize : Nat
  mem : List Host.Cell
  ports : PortTables
  irqLine : Bool
deriving DecidableEq, Repr

/-- The launch that `State.reset` stands for: the whole 32-bit physical space, nothing written, no handler, the line
low (log entries 1 to 4). -/
def Launch.plain : Launch :=
  { memSize := Config.memSizeMax, mem := [], ports := PortTables.none, irqLine := false }

/-- Reset(config) of R740: every register and hidden state element at the value of R91 and R92. -/
def State.resetOf (l : Launch) : State :=
  { regs := { eax := 0#32, ecx := 0#32, edx := 0#32, ebx := 0#32, esp := 0#32, ebp := 0#32, esi := 0#32, edi := 0#32 }
    pc := 0#32
    cc := { op := .explicit, dst := 0#32, src := 0#32, op2 := .explicit, dst2 := 0#32 }
    df := false
    eflagsSys := 0#32
    cr0 := 0x00000010#32
    cr2 := 0#32
    cr3 := 0#32
    cr4 := 0#32
    cpl := 0#2
    segs := { es := SegReg.resetWith Config.realModeRights, cs := SegReg.resetWith Config.realModeRights,
              ss := SegReg.resetWith Config.realModeRights, ds := SegReg.resetWith Config.realModeRights,
              fs := SegReg.resetWith Config.realModeRights, gs := SegReg.resetWith Config.realModeRights,
              ldtr := SegReg.resetWith 0x00008200#32, tr := SegReg.resetWith 0x00008B00#32 }
    gdtr := { base := 0#32, limit := 0x0000FFFF#32 }
    idtr := { base := 0#32, limit := 0x0000FFFF#32 }
    tlb := []
    tlbList := []
    halted := false
    pendingVector := none
    cycleCount := 0#64
    aborted := none
    mem := l.mem
    dec := DecodeState.start 0#32
    memSize := l.memSize
    irqLine := l.irqLine
    ports := l.ports
    history := []
    stepFaulted := false }

/-- The machine right after reset. -/
def State.reset : State := State.resetOf Launch.plain

end Sys2Proof.Machine
end

