-- ==== Sys2Proof/Machine/Flags.lean ====
section
/-! DEFINITION. The flag engine (10_state.md R46 to R60): the six arithmetic flags computed on demand from the lazy
tuple, the EFLAGS image, the records the instructions make, and the conditions. -/

namespace Sys2Proof.Machine

/-- The kind is of family INC or DEC. -/
def OpKind.isIncDec : OpKind → Bool
  | .record .inc _ => true
  | .record .dec _ => true
  | _ => false

/-- The record CF is computed from: the secondary one after INC or DEC (R52). -/
def CC.carryKind (c : CC) : OpKind := bif c.op.isIncDec then c.op2 else c.op

/-- The result that goes with `carryKind` (R52). -/
def CC.carryDst (c : CC) : W32 := bif c.op.isIncDec then c.dst2 else c.dst

/-- CF of a record of family f at width w (R52). The rows INC and DEC do not occur (R56). -/
def cfRecord (f : Family) (w : Width) (d src : W32) : Bool :=
  match f with
  | .add => (truncW w d).ult (truncW w src)
  | .adc => (truncW w d).ule (truncW w src)
  | .sub => (truncW w (truncW w d + truncW w src)).ult (truncW w src)
  | .sbb => (truncW w (truncW w d + truncW w src + 1#32)).ule (truncW w src)
  | .logic => false
  | .shl => src.getLsbD (w.bits - 1)
  | .shr => src.getLsbD 0
  | .sar => src.getLsbD 0
  | .mul => src != 0#32
  | .inc => false
  | .dec => false

/-- CF (R52). -/
def CC.cf (c : CC) : Bool :=
  match c.carryKind with
  | .record f w => cfRecord f w c.carryDst c.src
  | .explicit => c.src.getLsbD 0

/-- The minuend or first addend that a record of an addition or a subtraction implies (R53, R54). -/
def firstOperand (f : Family) (w : Width) (D S : W32) : W32 :=
  match f with
  | .add => truncW w (D - S)
  | .adc => truncW w (D - S - 1#32)
  | .sub => truncW w (D + S)
  | .sbb => truncW w (D + S + 1#32)
  | _ => 0#32

/-- OF of a record of family f at width w (R53). -/
def ofRecord (f : Family) (w : Width) (dst src : W32) : Bool :=
  let D := truncW w dst
  let S := truncW w src
  let a := firstOperand f w D S
  match f with
  | .add => msbW w (~~~(a ^^^ S) &&& (a ^^^ D))
  | .adc => msbW w (~~~(a ^^^ S) &&& (a ^^^ D))
  | .sub => msbW w ((a ^^^ S) &&& (a ^^^ D))
  | .sbb => msbW w ((a ^^^ S) &&& (a ^^^ D))
  | .logic => false
  | .shl => msbW w D ^^ src.getLsbD (w.bits - 1)
  | .shr => src.getLsbD (w.bits - 1)
  | .sar => false
  | .mul => src != 0#32
  | .inc => D == 1#32 <<< (w.bits - 1)
  | .dec => D == (1#32 <<< (w.bits - 1)) - 1#32

/-- OF (R53). -/
def CC.of (c : CC) : Bool :=
  match c.op with
  | .record f w => ofRecord f w c.dst c.src
  | .explicit => c.src.getLsbD 11

/-- AF of a record of family f at width w (R54). -/
def afRecord (f : Family) (w : Width) (dst src : W32) : Bool :=
  let D := truncW w dst
  let S := truncW w src
  match f with
  | .add => (firstOperand .add w D S ^^^ S ^^^ D).getLsbD 4
  | .adc => (firstOperand .adc w D S ^^^ S ^^^ D).getLsbD 4
  | .sub => (firstOperand .sub w D S ^^^ S ^^^ D).getLsbD 4
  | .sbb => (firstOperand .sbb w D S ^^^ S ^^^ D).getLsbD 4
  | .logic => false
  | .shl => false
  | .shr => false
  | .sar => false
  | .mul => false
  | .inc => D.extractLsb' 0 4 == 0#4
  | .dec => D.extractLsb' 0 4 == 15#4

/-- AF (R54). -/
def CC.af (c : CC) : Bool :=
  match c.op with
  | .record f w => afRecord f w c.dst c.src
  | .explicit => c.src.getLsbD 4

/-- ZF (R55). -/
def CC.zf (c : CC) : Bool :=
  match c.op with
  | .record _ w => truncW w c.dst == 0#32
  | .explicit => c.src.getLsbD 6

/-- SF (R55). -/
def CC.sf (c : CC) : Bool :=
  match c.op with
  | .record _ w => msbW w c.dst
  | .explicit => c.src.getLsbD 7

/-- PF (R55). -/
def CC.pf (c : CC) : Bool :=
  match c.op with
  | .record _ _ => parity8 c.dst
  | .explicit => c.src.getLsbD 2

/-- FlagImage(): the six flags at their places in EFLAGS (R57). -/
def CC.image (c : CC) : W32 :=
  atBit c.cf 0 ||| atBit c.pf 2 ||| atBit c.af 4 ||| atBit c.zf 6 ||| atBit c.sf 7 ||| atBit c.of 11

/-- FlagsRead(): the EFLAGS image software sees (R48). -/
def flagsRead (s : State) : W32 :=
  (s.eflagsSys &&& Config.sysFlagMask) ||| 0x00000002#32 ||| s.cc.image ||| atBit s.df 10

/-- Rec(f, w, d, s) for a family other than INC, DEC and LOGIC (R56). -/
def CC.record (c : CC) (f : Family) (w : Width) (d src : W32) : CC :=
  { c with op := .record f w, dst := d, src := src }

/-- Rec(LOGIC, w, d) (R56). -/
def CC.recordLogic (c : CC) (w : Width) (d : W32) : CC :=
  { c with op := .record .logic w, dst := d }

/-- RecIncDec(f, w, d): the last record that was neither INC nor DEC moves to the second slot (R56). -/
def CC.recordIncDec (c : CC) (f : Family) (w : Width) (d : W32) : CC :=
  { op := .record f w, dst := d, src := c.src, op2 := c.carryKind, dst2 := c.carryDst }

/-- SetFlags(img) (R57). -/
def CC.setImage (c : CC) (img : W32) : CC :=
  { c with op := .explicit, dst := 0#32, src := img &&& Config.arithFlagMask }

/-- FlagsWrite(v, mask) (R49). -/
def flagsWrite (s : State) (v mask : W32) : State :=
  { s with cc := s.cc.setImage v, df := v.getLsbD 10, eflagsSys := (s.eflagsSys &&& ~~~mask) ||| (v &&& mask) }

/-- Cond(c) (R59). -/
def CC.cond (c : CC) : Cond → Bool
  | .o => c.of
  | .no => !c.of
  | .b => c.cf
  | .nb => !c.cf
  | .z => c.zf
  | .nz => !c.zf
  | .be => c.cf || c.zf
  | .nbe => !c.cf && !c.zf
  | .s => c.sf
  | .ns => !c.sf
  | .p => c.pf
  | .np => !c.pf
  | .l => c.sf != c.of
  | .nl => c.sf == c.of
  | .le => c.zf || c.sf != c.of
  | .nle => !c.zf && c.sf == c.of

end Sys2Proof.Machine
end

