-- ==== Sys2Proof/Machine/Memory.lean ====
section
/-! DEFINITION. Tables of key and value pairs in one canonical form, keys strictly rising: physical memory
(20_memory.md R120) and the TLB are held so. -/

namespace Sys2Proof.Machine

/-- The value listed for a key. -/
def assocFind {β : Type} : List (Nat × β) → Nat → Option β
  | [], _ => none
  | (a, v) :: t, k => bif a == k then some v else assocFind t k

/-- List a value for a key, in place of the one listed before. -/
def assocSet {β : Type} : List (Nat × β) → Nat → β → List (Nat × β)
  | [], k, v => [(k, v)]
  | (a, u) :: t, k, v =>
    bif Nat.blt k a then (k, v) :: (a, u) :: t
    else bif a == k then (k, v) :: t
    else (a, u) :: assocSet t k v

/-- Unlist a key. -/
def assocErase {β : Type} : List (Nat × β) → Nat → List (Nat × β)
  | [], _ => []
  | (a, u) :: t, k => bif a == k then assocErase t k else (a, u) :: assocErase t k

/-- Every key of the table is above a bound. -/
def keysAbove {β : Type} (b : Nat) : List (Nat × β) → Bool
  | [] => true
  | (a, _) :: t => Nat.blt b a && keysAbove b t

/-- The keys rise strictly. -/
def keysRise {β : Type} : List (Nat × β) → Bool
  | [] => true
  | (a, _) :: t => keysAbove a t && keysRise t

/-- What a byte of physical memory that nothing has written reads as: 0. The spec leaves it to the launch (R92, U3);
a launch that gives other bytes lists them. DESIGN CHOICE, log entry 1. -/
def unlistedByte : Byte := 0#8

/-- The byte at an address. -/
def memRead (m : List Host.Cell) (a : Nat) : Byte := (assocFind m a).getD unlistedByte

/-- Store a byte at an address, keeping the canonical form: storing what an unlisted address reads as unlists it. -/
def memWrite (m : List Host.Cell) (a : Nat) (b : Byte) : List Host.Cell :=
  bif b == unlistedByte then assocErase m a else assocSet m a b

/-- The canonical form of memory: addresses strictly rising, no listed byte that an unlisted address would read as. -/
def Memory.wf (m : List Host.Cell) : Bool := keysRise m && m.all fun c => c.2 != unlistedByte

end Sys2Proof.Machine
end

