-- ==== Sys2Proof/Machine/Ops.lean ====
section
/-! DEFINITION. The shared operations over the state: registers, physical memory, translation and the TLB, linear
accesses (20_memory.md), descriptors and selector loading, ports, the stack, and taking an exception and returning from
one (60_exceptions.md, 46_segment_far.md). -/

namespace Sys2Proof.Machine

/-- The exceptions an instruction rule raises, with their error codes (60_exceptions.md R651, R654). -/
inductive Exc where
  | de
  | br
  | ud
  | nm
  | ts (ec : W32)
  | np (ec : W32)
  | ss (ec : W32)
  | gp (ec : W32)
  | pf (ec : W32)
deriving DecidableEq, Repr

/-- Why a rule ended before its end: `raise` or `abort` (R13). -/
inductive Stop where
  | raise (e : Exc)
  | abort (r : AbortReason)
deriving DecidableEq, Repr

/-- A rule in progress: what it has written to the state stays when it stops, as R661 says, because a rule writes
registers only after its last check (R660). -/
abbrev M := EStateM Stop State

/-- What a meaning answers. -/
abbrev Answer := Host.Outcome State Fault Refusal

/-- The vector of an exception (R651). -/
def Exc.vector : Exc → Byte
  | .de => 0#8
  | .br => 5#8
  | .ud => 6#8
  | .nm => 7#8
  | .ts _ => 10#8
  | .np _ => 11#8
  | .ss _ => 12#8
  | .gp _ => 13#8
  | .pf _ => 14#8

/-- The error code of an exception (R651). -/
def Exc.code : Exc → Option W32
  | .de => none
  | .br => none
  | .ud => none
  | .nm => none
  | .ts ec => some ec
  | .np ec => some ec
  | .ss ec => some ec
  | .gp ec => some ec
  | .pf ec => some ec

/-- raise #XX(ec) (R13, R660). -/
def raise {α : Type} (e : Exc) : M α := throw (.raise e)

/-- abort(reason) (R13, R706). -/
def abort {α : Type} (r : AbortReason) : M α := throw (.abort r)

/-- raise when a check fails. -/
def raiseIf (c : Bool) (e : Exc) : M Unit := bif c then raise e else pure ()

/-- Apply an update to the state. -/
def upd (f : State → State) : M Unit := modify f

/-! ### Registers -/

/-- x[i] (R11). -/
def Regs.get (g : Regs) : Reg → W32
  | .eax => g.eax
  | .ecx => g.ecx
  | .edx => g.edx
  | .ebx => g.ebx
  | .esp => g.esp
  | .ebp => g.ebp
  | .esi => g.esi
  | .edi => g.edi

/-- x[i] <- v (R11). -/
def Regs.set (g : Regs) (r : Reg) (v : W32) : Regs :=
  match r with
  | .eax => { g with eax := v }
  | .ecx => { g with ecx := v }
  | .edx => { g with edx := v }
  | .ebx => { g with ebx := v }
  | .esp => { g with esp := v }
  | .ebp => { g with ebp := v }
  | .esi => { g with esi := v }
  | .edi => { g with edi := v }

/-- The 32-bit register an 8-bit operand number is part of (R42). -/
def byteHome : Reg → Reg
  | .eax => .eax
  | .ecx => .ecx
  | .edx => .edx
  | .ebx => .ebx
  | .esp => .eax
  | .ebp => .ecx
  | .esi => .edx
  | .edi => .ebx

/-- The 8-bit operand number names bits 15:8: AH, CH, DH, BH (R42). -/
def byteHigh : Reg → Bool
  | .esp => true
  | .ebp => true
  | .esi => true
  | .edi => true
  | _ => false

/-- Reg(w, i) (R42). -/
def Regs.read (g : Regs) (w : Width) (r : Reg) : W32 :=
  match w with
  | .w8 => truncW .w8 (bif byteHigh r then g.get (byteHome r) >>> 8 else g.get (byteHome r))
  | .w16 => truncW .w16 (g.get r)
  | .w32 => g.get r

/-- Reg(w, i) <- v: a 16-bit or an 8-bit write leaves every other bit of the 32-bit register (R42). -/
def Regs.write (g : Regs) (w : Width) (r : Reg) (v : W32) : Regs :=
  match w with
  | .w8 =>
    bif byteHigh r then
      g.set (byteHome r) ((g.get (byteHome r) &&& 0xFFFF00FF#32) ||| (truncW .w8 v <<< 8))
    else
      g.set (byteHome r) ((g.get (byteHome r) &&& 0xFFFFFF00#32) ||| truncW .w8 v)
  | .w16 => g.set r ((g.get r &&& 0xFFFF0000#32) ||| truncW .w16 v)
  | .w32 => g.set r v

/-- seg[s] (R66). -/
def Segs.get (g : Segs) : Sreg → SegReg
  | .es => g.es
  | .cs => g.cs
  | .ss => g.ss
  | .ds => g.ds
  | .fs => g.fs
  | .gs => g.gs
  | .ldtr => g.ldtr
  | .tr => g.tr

/-- seg[s] <- r (R66). -/
def Segs.set (g : Segs) (s : Sreg) (r : SegReg) : Segs :=
  match s with
  | .es => { g with es := r }
  | .cs => { g with cs := r }
  | .ss => { g with ss := r }
  | .ds => { g with ds := r }
  | .fs => { g with fs := r }
  | .gs => { g with gs := r }
  | .ldtr => { g with ldtr := r }
  | .tr => { g with tr := r }

/-- The general registers replaced. -/
def State.setRegs (s : State) (g : Regs) : State := { s with regs := g }
/-- Reg(w, i) <- v. -/
def State.setReg (s : State) (w : Width) (r : Reg) (v : W32) : State := { s with regs := s.regs.write w r v }
/-- pc <- v. -/
def State.setPc (s : State) (v : W32) : State := { s with pc := v }
/-- CC <- c. -/
def State.setCc (s : State) (c : CC) : State := { s with cc := c }
/-- df <- b. -/
def State.setDf (s : State) (b : Bool) : State := { s with df := b }
/-- eflags_sys <- v. -/
def State.setSys (s : State) (v : W32) : State := { s with eflagsSys := v }
/-- cr0 <- v. -/
def State.setCr0 (s : State) (v : W32) : State := { s with cr0 := v }
/-- cr2 <- v. -/
def State.setCr2 (s : State) (v : W32) : State := { s with cr2 := v }
/-- cr3 <- v. -/
def State.setCr3 (s : State) (v : W32) : State := { s with cr3 := v }
/-- cr4 <- v. -/
def State.setCr4 (s : State) (v : W32) : State := { s with cr4 := v }
/-- SetCPL(n), the only writer of CPL (R71, R586). -/
def State.setCpl (s : State) (n : BitVec 2) : State := { s with cpl := n }
/-- One segment register replaced. -/
def State.setSegReg (s : State) (n : Sreg) (r : SegReg) : State := { s with segs := s.segs.set n r }
/-- GDTR <- t. -/
def State.setGdtr (s : State) (t : TableReg) : State := { s with gdtr := t }
/-- IDTR <- t. -/
def State.setIdtr (s : State) (t : TableReg) : State := { s with idtr := t }
/-- The TLB and its list replaced. -/
def State.setTlb (s : State) (t : List (Nat × TlbEntry)) (l : List Nat) : State := { s with tlb := t, tlbList := l }
/-- halted <- b. -/
def State.setHalted (s : State) (b : Bool) : State := { s with halted := b }
/-- pending_vector <- v. -/
def State.setPending (s : State) (v : Option Byte) : State := { s with pendingVector := v }
/-- cycle_count <- n. -/
def State.setCycle (s : State) (n : BitVec 64) : State := { s with cycleCount := n }
/-- aborted <- r. -/
def State.setAborted (s : State) (r : AbortReason) : State := { s with aborted := some r }
/-- Physical memory replaced. -/
def State.setMem (s : State) (m : List Host.Cell) : State := { s with mem := m }
/-- The decode state replaced. -/
def State.setDec (s : State) (d : DecodeState) : State := { s with dec := d }
/-- step_faulted <- b. -/
def State.setStepFaulted (s : State) (b : Bool) : State := { s with stepFaulted := b }
/-- A call on the platform, which may change the line (R716, R718). -/
def State.setPlatform (s : State) (h : List PlatEvent) (line : Bool) : State := { s with history := h, irqLine := line }

/-! ### Derived quantities -/

/-- CR0.PE: protected mode (R62). -/
def State.pe (s : State) : Bool := s.cr0.getLsbD 0

/-- CR0.PG: paging enabled (R62). -/
def State.pg (s : State) : Bool := s.cr0.getLsbD 31

/-- IF (R47). -/
def State.ifFlag (s : State) : Bool := s.eflagsSys.getLsbD 9

/-- IOPL (R47). -/
def State.iopl (s : State) : BitVec 2 := s.eflagsSys.extractLsb' 12 2

/-- An access of the running program is a user access exactly at CPL 3 (R129). -/
def State.user (s : State) : Bool := s.cpl == 3#2

/-- DefaultSize32 (R72). -/
def State.defaultSize32 (s : State) : Bool := s.segs.cs.rights.getLsbD 22

/-- The stack mask a set of rights gives (R72). -/
def maskOfRights (rights : W32) : W32 := bif rights.getLsbD 22 then 0xFFFFFFFF#32 else 0x0000FFFF#32

/-- StackMask (R72). -/
def State.stackMask (s : State) : W32 := maskOfRights s.segs.ss.rights

/-- osz (30_encoding.md R226). -/
def State.osz (s : State) : Width := bif s.defaultSize32 ^^ s.dec.opsizeOvr then .w32 else .w16

/-- asz (30_encoding.md R227). -/
def State.asz (s : State) : Width := bif s.defaultSize32 ^^ s.dec.addrsizeOvr then .w32 else .w16

/-- nextpc, the offset after the last byte of the instruction (30_encoding.md R246). -/
def State.nextpc (s : State) : W32 := s.dec.fp

/-- Lin(s, off) (R140). -/
def State.lin (s : State) (n : Sreg) (off : W32) : W32 := (s.segs.get n).base + off

/-- The flat-mode flag, which has no architectural effect and is not stored (R76; log entry 9). -/
def State.flat (s : State) : Bool :=
  s.segs.cs.base == 0#32 && s.segs.ss.base == 0#32 && s.segs.ds.base == 0#32 && s.segs.es.base == 0#32
    && s.segs.ss.rights.getLsbD 22

/-- A stack-pointer register after its part under a mask is replaced (R316, R317). -/
def maskedInto (mask old v : W32) : W32 := (old &&& ~~~mask) ||| (v &&& mask)

/-! ### Physical memory -/

/-- The physical address exists (R124). -/
def State.inMem (s : State) (pa : W32) : Bool := Nat.blt pa.toNat s.memSize

/-- The byte of physical memory at an address. -/
def State.byteAt (s : State) (pa : W32) : Byte := memRead s.mem pa.toNat

/-- The bytes at a list of physical addresses, as one little-endian value; a missing address is a bus error
(R121, R124). -/
def physReadAt (as : List W32) : M W32 := do
  let s ← get
  bif as.all s.inMem then pure (ofBytes (as.map s.byteAt)) else abort .busError

/-- PhysRead(pa, n) (R121). -/
def physRead (pa : W32) (n : Nat) : M W32 := physReadAt (addrsFrom n pa)

/-- The state after a list of bytes is stored at a list of physical addresses. -/
def State.storeBytes (s : State) : List W32 → List Byte → State
  | a :: as, b :: bs => (s.setMem (memWrite s.mem a.toNat b)).storeBytes as bs
  | _, _ => s

/-- PhysWrite(pa, n, v): no byte is written if any byte is out of range (R123, R124). -/
def physWrite (pa : W32) (n : Nat) (v : W32) : M Unit := do
  let s ← get
  bif (addrsFrom n pa).all s.inMem then upd fun s => s.storeBytes (addrsFrom n pa) (bytesOf n v)
  else abort .busError

/-- PhysWrite of single bytes, in order (R128). -/
def physWriteEach : List W32 → List Byte → M Unit
  | a :: as, b :: bs => do
    physWrite a 1 (b.setWidth 32)
    physWriteEach as bs
  | _, _ => pure ()

/-! ### The TLB and paging -/

/-- The kind of an access (R12). -/
inductive Access where
  | read
  | write
deriving DecidableEq, Repr

/-- The kind is write. -/
def Access.isWrite : Access → Bool
  | .read => false
  | .write => true

/-- The virtual page number of a linear address (R80). -/
def vpnOf (la : W32) : Nat := (la.extractLsb' 12 20).toNat

/-- The entry that one of the four tables holds for a page, in the form of R165. -/
def tlbView (e : TlbEntry) (kind : Access) (user : Bool) : Option (BitVec 20) :=
  match kind, user with
  | .read, false => some e.ppn
  | .write, false => bif e.writable then some e.ppn else none
  | .read, true => bif e.useracc then some e.ppn else none
  | .write, true => bif e.writable && e.useracc then some e.ppn else none

/-- tlb_kr, tlb_kw, tlb_ur or tlb_uw at a page number; none is UNMAPPED (R80, R165). -/
def State.tlbAt (s : State) (kind : Access) (user : Bool) (vpn : Nat) : Option (BitVec 20) :=
  match assocFind s.tlb vpn with
  | some e => tlbView e kind user
  | none => none

/-- The table with every listed page unmapped (R167, R170). -/
def unmapAll (t : List (Nat × TlbEntry)) : List Nat → List (Nat × TlbEntry)
  | [] => t
  | p :: ps => unmapAll (assocErase t p) ps

/-- TlbFlushAll() (R170). -/
def State.tlbFlushAll (s : State) : State := s.setTlb (unmapAll s.tlb s.tlbList) []

/-- TlbFlushPage(vpn) (R173). -/
def State.tlbFlushPage (s : State) (vpn : Nat) : State := s.setTlb (assocErase s.tlb vpn) s.tlbList

/-- TlbInsert(vpn, ppn, writable, useracc), with the overflow of R168 (R167). -/
def State.tlbInsert (s : State) (vpn : Nat) (e : TlbEntry) : State :=
  bif Nat.ble Config.tlbListMax s.tlbList.length then
    s.setTlb (assocSet (unmapAll s.tlb s.tlbList) vpn e) [vpn]
  else
    s.setTlb (assocSet s.tlb vpn e) (s.tlbList ++ [vpn])

/-- PageFault(la, present, kind, user) (R166). -/
def pageFault {α : Type} (la : W32) (present : Bool) (kind : Access) (user : Bool) : M α := do
  upd fun s => s.setCr2 la
  raise (.pf (atBit present 0 ||| atBit kind.isWrite 1 ||| atBit user 2))

/-- Walk(la, kind, user) with paging enabled (R162): the page number it enters in the TLB. -/
def walkTables (la : W32) (kind : Access) (user : Bool) : M (BitVec 20) := do
  let s ← get
  let pdeAddr : W32 := (s.cr3.extractLsb' 12 20 ++ la.extractLsb' 22 10 : BitVec 30) ++ 0#2
  let pde ← physRead pdeAddr 4
  bif !pde.getLsbD 0 then pageFault la false kind user
  else do
    bif !pde.getLsbD 5 then physWrite pdeAddr 4 (pde ||| 0x20#32) else pure ()
    let pde := pde ||| 0x20#32
    let pteAddr : W32 := (pde.extractLsb' 12 20 ++ la.extractLsb' 12 10 : BitVec 30) ++ 0#2
    let pte ← physRead pteAddr 4
    bif !pte.getLsbD 0 then pageFault la false kind user
    else do
      let comb := pte &&& pde
      bif user && !comb.getLsbD 2 then pageFault la true kind user
      else bif kind.isWrite && !comb.getLsbD 1 then pageFault la true kind user
      else do
        let new := pte ||| 0x20#32 ||| atBit kind.isWrite 6
        bif new != pte then physWrite pteAddr 4 new else pure ()
        let e : TlbEntry := { ppn := new.extractLsb' 12 20,
                              writable := new.getLsbD 6 && comb.getLsbD 1,
                              useracc := comb.getLsbD 2 }
        upd fun s => s.tlbInsert (vpnOf la) e
        pure e.ppn

/-- Walk(la, kind, user) (R161, R162). -/
def walk (la : W32) (kind : Access) (user : Bool) : M (BitVec 20) := do
  let s ← get
  bif s.pg then walkTables la kind user
  else do
    upd fun s => s.tlbInsert (vpnOf la) { ppn := la.extractLsb' 12 20, writable := true, useracc := true }
    pure (la.extractLsb' 12 20)

/-- Translate(la, kind, user): the physical page number of the answer (R160). -/
def translatePage (la : W32) (kind : Access) (user : Bool) : M (BitVec 20) := do
  let s ← get
  match s.tlbAt kind user (vpnOf la) with
  | some ppn => pure ppn
  | none => walk la kind user

/-- Translate(la, kind, user) (R160). -/
def translate (la : W32) (kind : Access) (user : Bool) : M W32 := do
  let ppn ← translatePage la kind user
  pure (ppn ++ la.extractLsb' 0 12)

/-! ### Linear accesses -/

/-- The physical addresses of n consecutive linear addresses, every page translated, the lower first, before any byte
is transferred (R127, R128). An access of 1, 2 or 4 bytes touches at most two pages; the second is translated at its
first byte. -/
def translateSpan (la : W32) (n : Nat) (kind : Access) (user : Bool) : M (List W32) := do
  let last := la + BitVec.ofNat 32 (n - 1)
  let p ← translatePage la kind user
  bif vpnOf last == vpnOf la then
    pure ((addrsFrom n la).map fun a => p ++ a.extractLsb' 0 12)
  else do
    let q ← translatePage (last &&& 0xFFFFF000#32) kind user
    pure ((addrsFrom n la).map fun a =>
      bif vpnOf a == vpnOf la then p ++ a.extractLsb' 0 12 else q ++ a.extractLsb' 0 12)

/-- LinRead(la, n, user) (R127). -/
def linRead (la : W32) (n : Nat) (user : Bool) : M W32 := do
  let as ← translateSpan la n .read user
  physReadAt as

/-- LinWrite(la, n, v, user) (R128). -/
def linWrite (la : W32) (n : Nat) (v : W32) (user : Bool) : M Unit := do
  let as ← translateSpan la n .write user
  physWriteEach as (bytesOf n v)

/-- MemRead(addr, n) (R129). -/
def accRead (la : W32) (n : Nat) : M W32 := do
  let s ← get
  linRead la n s.user

/-- MemWrite(addr, n, v) (R129). -/
def accWrite (la : W32) (n : Nat) (v : W32) : M Unit := do
  let s ← get
  linWrite la n v s.user

/-- The probe of a place that will be written: every page is translated with kind write, before anything is read
(R130; 44_string_io.md R504). The physical addresses of its bytes. -/
def accProbe (la : W32) (n : Nat) : M (List W32) := do
  let s ← get
  translateSpan la n .write s.user

/-- What the read of a read-modify-write holds until the write: the value, and the addresses its probe answered. -/
structure Held where
  val : W32
  places : List W32
deriving DecidableEq, Repr, Inhabited

/-- MemReadW(addr, n): every page is translated with kind write, then the bytes are read (R130). -/
def accReadW (la : W32) (n : Nat) : M Held := do
  let as ← accProbe la n
  let v ← physReadAt as
  pure { val := v, places := as }

/-- The translation of a MemWrite whose place was probed: made again as R128 writes it, but it cannot raise (R130;
44_string_io.md R504): where it would, the addresses of the probe stand and nothing has changed. DESIGN CHOICE,
log 18. -/
def translateProbed (la : W32) (n : Nat) (as : List W32) : M (List W32) := fun s =>
  match translateSpan la n .write s.user s with
  | .error (.raise _) _ => .ok as s
  | r => r

/-- The MemWrite(addr, n, v) that follows a probe of the same place, which answered the addresses given (R128, R130;
44_string_io.md R504). -/
def accWriteProbed (la : W32) (n : Nat) (as : List W32) (v : W32) : M Unit := do
  let bs ← translateProbed la n as
  physWriteEach bs (bytesOf n v)

/-- SysRead(addr, n) (R131). -/
def sysRead (la : W32) (n : Nat) : M W32 := linRead la n false

/-- SysWrite(addr, n, v) (R131). -/
def sysWrite (la : W32) (n : Nat) (v : W32) : M Unit := linWrite la n v false

/-! ### The I/O ports -/

/-- The slot of a port (R196). -/
def portSlot (port : W16) : BitVec 10 := port.extractLsb' 0 10

/-- The read handlers of a width. -/
def PortTables.reads (t : PortTables) : Width → List (BitVec 10)
  | .w8 => t.r8
  | .w16 => t.r16
  | .w32 => t.r32

/-- The write handlers of a width. -/
def PortTables.writes (t : PortTables) : Width → List (BitVec 10)
  | .w8 => t.w8
  | .w16 => t.w16
  | .w32 => t.w32

/-- IoCheck() (R195). -/
def ioCheck : M Unit := do
  let s ← get
  raiseIf (s.iopl.ult s.cpl) (.gp 0#32)

/-- A registered read handler is called; what it answers is the platform's (R196, R718). -/
def callReadHandler (port : W16) (w : Width) : M W32 := do
  let s ← get
  let h := PlatEvent.portRead port w :: s.history
  upd fun s => s.setPlatform h (Config.irqAfter h)
  pure (truncW w (Config.portAnswer s.history port w))

/-- A registered write handler is called (R197, R718). -/
def callWriteHandler (port : W16) (w : Width) (v : W32) : M Unit := do
  let s ← get
  let h := PlatEvent.portWrite port w (truncW w v) :: s.history
  upd fun s => s.setPlatform h (Config.irqAfter h)

/-- A byte read of a port; with no handler it reads all ones (R196). -/
def portReadByte (port : W16) : M W32 := do
  let s ← get
  bif s.ports.r8.contains (portSlot port) then callReadHandler port .w8 else pure 0xFF#32

/-- PortRead(port, n), decomposed into byte reads in ascending order where no handler of the width is registered
(R196). -/
def portRead (port : W16) (w : Width) : M W32 := do
  let s ← get
  bif (s.ports.reads w).contains (portSlot port) then callReadHandler port w
  else do
    match w with
    | .w8 => portReadByte port
    | .w16 => do
      let b0 ← portReadByte port
      let b1 ← portReadByte (port + 1#16)
      pure (b0 ||| (b1 <<< 8))
    | .w32 => do
      let b0 ← portReadByte port
      let b1 ← portReadByte (port + 1#16)
      let b2 ← portReadByte (port + 2#16)
      let b3 ← portReadByte (port + 3#16)
      pure (b0 ||| (b1 <<< 8) ||| (b2 <<< 16) ||| (b3 <<< 24))

/-- A byte write to a port; with no handler it does nothing (R197). -/
def portWriteByte (port : W16) (v : W32) : M Unit := do
  let s ← get
  bif s.ports.w8.contains (portSlot port) then callWriteHandler port .w8 v else pure ()

/-- PortWrite(port, n, v), decomposed in ascending order where no handler of the width is registered (R197). -/
def portWrite (port : W16) (w : Width) (v : W32) : M Unit := do
  let s ← get
  bif (s.ports.writes w).contains (portSlot port) then callWriteHandler port w v
  else do
    match w with
    | .w8 => portWriteByte port v
    | .w16 => do
      portWriteByte port v
      portWriteByte (port + 1#16) (v >>> 8)
    | .w32 => do
      portWriteByte port v
      portWriteByte (port + 1#16) (v >>> 8)
      portWriteByte (port + 2#16) (v >>> 16)
      portWriteByte (port + 3#16) (v >>> 24)

/-- The state after IntAck(), and the vector it returned (R701, R716). -/
def State.intAck (s : State) : State × Byte :=
  let h := PlatEvent.ack :: s.history
  (s.setPlatform h (Config.irqAfter h), Config.ackVector s.history)

/-! ### Descriptors and selector loading -/

/-- ec(sel) = zext_32(sel & 0xFFFC) (R178, R654). -/
def ecSel (sel : W16) : W32 := (sel &&& 0xFFFC#16).setWidth 32

/-- The selector is null (R178). -/
def selNull (sel : W16) : Bool := (sel &&& 0xFFFC#16) == 0#16

/-- RPL, bits 1:0 of a selector (R178). -/
def selRpl (sel : W16) : BitVec 2 := sel.extractLsb' 0 2

/-- A selector with its RPL bits replaced. -/
def selWithRpl (sel : W16) (n : BitVec 2) : W16 := (sel &&& 0xFFFC#16) ||| n.setWidth 16

/-- A descriptor as read: its two dwords and the linear address it stands at (R176, R179). -/
structure Desc where
  e1 : W32
  e2 : W32
  addr : W32
deriving DecidableEq, Repr

/-- DPL, bits 14:13 of the high dword (R176). -/
def dplOf (e2 : W32) : BitVec 2 := e2.extractLsb' 13 2

/-- The type of a system descriptor, bits 11:8 of the high dword (R177). -/
def sysTypeOf (e2 : W32) : BitVec 4 := e2.extractLsb' 8 4

/-- DescBase(e1, e2) (R176). -/
def descBase (e1 e2 : W32) : W32 :=
  (e2.extractLsb' 24 8 ++ e2.extractLsb' 0 8 : BitVec 16) ++ e1.extractLsb' 16 16

/-- DescLimit(e1, e2) (R176). -/
def descLimit (e1 e2 : W32) : W32 :=
  let raw : W32 := (e2.extractLsb' 16 4 ++ e1.extractLsb' 0 16 : BitVec 20).setWidth 32
  bif e2.getLsbD 23 then (raw <<< 12) ||| 0xFFF#32 else raw

/-- DescRead(sel); none is NONE (R179). -/
def descRead (sel : W16) : M (Option Desc) := do
  let s ← get
  let tb := bif sel.getLsbD 2 then s.segs.ldtr.base else s.gdtr.base
  let tl := bif sel.getLsbD 2 then s.segs.ldtr.limit else s.gdtr.limit
  let idx : W32 := (sel &&& 0xFFF8#16).setWidth 32
  bif Nat.blt tl.toNat (idx.toNat + 7) then pure none
  else do
    let a := tb + idx
    let e1 ← sysRead a 4
    let e2 ← sysRead (a + 4#32) 4
    pure (some { e1 := e1, e2 := e2, addr := a })

/-- DescRead with an exception where the answer is NONE. -/
def descReadOr (sel : W16) (e : Exc) : M Desc := do
  let d ← descRead sel
  match d with
  | some d => pure d
  | none => raise e

/-- SetSeg(s, sel, base, limit, rights) (R180). -/
def setSeg (n : Sreg) (sel : W16) (base limit rights : W32) : M Unit :=
  upd fun s => s.setSegReg n { sel := sel, base := base, limit := limit, rights := rights }

/-- SetSeg from a descriptor that has been marked accessed. -/
def setSegFrom (n : Sreg) (sel : W16) (d : Desc) : M Unit :=
  setSeg n sel (descBase d.e1 d.e2) (descLimit d.e1 d.e2) (d.e2 ||| 0x100#32)

/-- MarkAccessed(a, e2) (46_segment_far.md R560). -/
def markAccessed (d : Desc) : M Unit :=
  bif !d.e2.getLsbD 8 then sysWrite (d.addr + 4#32) 4 (d.e2 ||| 0x100#32) else pure ()

/-- LoadSeg(s, sel) in real-address mode (R181). -/
def loadSegReal (n : Sreg) (sel : W16) : M Unit :=
  setSeg n sel (sel.setWidth 32 <<< 4) 0x0000FFFF#32 Config.realModeRights

/-- LoadSeg(s, sel) in protected mode for ES, DS, FS, GS (R182). -/
def loadSegData (n : Sreg) (sel : W16) : M Unit := do
  bif selNull sel then setSeg n sel 0#32 0#32 0#32
  else do
    let s ← get
    let d ← descReadOr sel (.gp (ecSel sel))
    raiseIf (!d.e2.getLsbD 12) (.gp (ecSel sel))
    raiseIf (d.e2.getLsbD 11 && !d.e2.getLsbD 9) (.gp (ecSel sel))
    raiseIf ((!d.e2.getLsbD 11 || !d.e2.getLsbD 10)
      && ((dplOf d.e2).ult s.cpl || (dplOf d.e2).ult (selRpl sel))) (.gp (ecSel sel))
    raiseIf (!d.e2.getLsbD 15) (.np (ecSel sel))
    markAccessed d
    setSegFrom n sel d

/-- LoadSeg(SS, sel) in protected mode (R183). -/
def loadSegStack (sel : W16) : M Unit := do
  raiseIf (selNull sel) (.gp 0#32)
  let s ← get
  let d ← descReadOr sel (.gp (ecSel sel))
  raiseIf (!d.e2.getLsbD 12) (.gp (ecSel sel))
  raiseIf (d.e2.getLsbD 11 || !d.e2.getLsbD 9) (.gp (ecSel sel))
  raiseIf (selRpl sel != s.cpl || dplOf d.e2 != s.cpl) (.gp (ecSel sel))
  raiseIf (!d.e2.getLsbD 15) (.ss (ecSel sel))
  markAccessed d
  setSegFrom .ss sel d

/-- LoadSeg(s, sel) for a register that an instruction names (R181 to R184). -/
def loadSeg (n : Sreg) (sel : W16) : M Unit := do
  let s ← get
  bif !s.pe then loadSegReal n sel
  else bif n == .ss then loadSegStack sel
  else loadSegData n sel

/-! ### The stack -/

/-- A linear address in the current stack segment, the offset reduced by StackMask. -/
def State.stackLin (s : State) (off : W32) : W32 := s.lin .ss (off &&& s.stackMask)

/-- Push(w, v) (40_data_movement.md R316). -/
def push (w : Width) (v : W32) : M Unit := do
  let s ← get
  let new := (s.regs.esp - BitVec.ofNat 32 w.bytes) &&& s.stackMask
  accWrite (s.lin .ss new) w.bytes v
  upd fun s' => s'.setReg .w32 .esp (maskedInto s.stackMask s.regs.esp new)

/-- Pop(w) (40_data_movement.md R317). -/
def pop (w : Width) : M W32 := do
  let s ← get
  let v ← accRead (s.stackLin s.regs.esp) w.bytes
  upd fun s' => s'.setReg .w32 .esp (maskedInto s.stackMask s.regs.esp (s.regs.esp + BitVec.ofNat 32 w.bytes))
  pure v

/-- Write a list of values, each n bytes, at descending offsets from a stack pointer in a segment at a base with a
mask; `sys` says that the writes are system writes. The last offset used is the answer (R673, R580). -/
def pushList (sys : Bool) (base mask : W32) (n : Nat) : W32 → List W32 → M W32
  | p, [] => pure p
  | p, v :: vs => do
    let p' := (p - BitVec.ofNat 32 n) &&& mask
    bif sys then sysWrite (base + p') n v else accWrite (base + p') n v
    pushList sys base mask n p' vs

/-! ### Taking an exception or an interrupt -/

/-- DeliverReal(vector, return_pc) (R671). -/
def deliverReal (vector : Byte) (ret : W32) : M Unit := do
  let s ← get
  let t : W32 := vector.setWidth 32 <<< 2
  raiseIf (Nat.blt s.idtr.limit.toNat (t.toNat + 3)) (.gp ((vector.setWidth 32 <<< 3) + 2#32))
  let off ← sysRead (s.idtr.base + t) 2
  let sel ← sysRead (s.idtr.base + t + 2#32) 2
  accWrite (s.stackLin (s.regs.esp - 2#32)) 2 (flagsRead s)
  accWrite (s.stackLin (s.regs.esp - 4#32)) 2 (s.segs.cs.sel.setWidth 32)
  accWrite (s.stackLin (s.regs.esp - 6#32)) 2 ret
  upd fun s' => s'.setReg .w32 .esp (maskedInto s.stackMask s.regs.esp (s.regs.esp - 6#32))
  upd fun s' => s'.setSys (s'.eflagsSys &&& ~~~0x00000300#32)
  loadSegReal .cs (sel.setWidth 16)
  upd fun s' => s'.setPc (truncW .w16 off)

/-- What InnerStack answers (R676). -/
structure InnerSS where
  nss : W16
  nesp : W32
  desc : Desc
deriving DecidableEq, Repr

/-- InnerStack(lvl): SS and ESP for an inner level, from the TSS (R186, R676). -/
def innerStack (lvl : BitVec 2) : M InnerSS := do
  let s ← get
  let tr := s.segs.tr
  let wide := tr.rights.getLsbD 11
  let o : W32 := bif wide then 4#32 + (lvl.setWidth 32 <<< 3) else 2#32 + (lvl.setWidth 32 <<< 2)
  raiseIf (Nat.blt tr.limit.toNat (o.toNat + (bif wide then 7 else 3))) (.ts (ecSel tr.sel))
  let nesp ← sysRead (tr.base + o) (bif wide then 4 else 2)
  let nss32 ← sysRead (tr.base + o + (bif wide then 4#32 else 2#32)) 2
  let nss : W16 := nss32.setWidth 16
  raiseIf (selNull nss) (.ts (ecSel nss))
  let d ← descReadOr nss (.ts (ecSel nss))
  raiseIf (selRpl nss != lvl) (.ts (ecSel nss))
  raiseIf (!d.e2.getLsbD 12 || d.e2.getLsbD 11 || !d.e2.getLsbD 9) (.ts (ecSel nss))
  raiseIf (dplOf d.e2 != lvl) (.ts (ecSel nss))
  raiseIf (!d.e2.getLsbD 15) (.ss (ecSel nss))
  pure { nss := nss, nesp := nesp, desc := d }

/-- A delivery with this vector pushes an error code when it is an exception (R653). -/
def vectorHasCode (vector : Byte) : Bool :=
  vector == 8#8 || vector == 10#8 || vector == 11#8 || vector == 12#8 || vector == 13#8 || vector == 14#8
    || vector == 17#8

/-- The gate of a delivery: width, whether it is an interrupt gate, target selector and offset (R674). -/
structure Gate where
  gw : Width
  isInt : Bool
  tsel : W16
  toff : W32
deriving DecidableEq, Repr

/-- The IDT lookup and the gate checks of DeliverProt (R673, R674). -/
def readIdtGate (vector : Byte) (isSoftware : Bool) : M Gate := do
  let s ← get
  let v8 : W32 := vector.setWidth 32 <<< 3
  let iec := v8 + 2#32
  raiseIf (Nat.blt s.idtr.limit.toNat (v8.toNat + 7)) (.gp iec)
  let g1 ← sysRead (s.idtr.base + v8) 4
  let g2 ← sysRead (s.idtr.base + v8 + 4#32) 4
  raiseIf (g2.getLsbD 12) (.gp iec)
  let ty := sysTypeOf g2
  bif ty == 5#4 then abort .unsupportedTaskGate
  else do
    raiseIf (!(ty == 6#4 || ty == 7#4 || ty == 14#4 || ty == 15#4)) (.gp iec)
    raiseIf (isSoftware && (dplOf g2).ult s.cpl) (.gp iec)
    raiseIf (!g2.getLsbD 15) (.np iec)
    pure { gw := bif ty == 14#4 || ty == 15#4 then .w32 else .w16
           isInt := ty == 6#4 || ty == 14#4
           tsel := g1.extractLsb' 16 16
           toff := bif ty == 14#4 || ty == 15#4 then (g2.extractLsb' 16 16 ++ g1.extractLsb' 0 16)
                   else truncW .w16 g1 }

/-- The target code segment of a gate, with the checks that delivery and the call gate share: not null, in its table, a
code segment, not of an outer level, present (R675, R579). -/
def gateTarget (tsel : W16) : M Desc := do
  let s ← get
  raiseIf (selNull tsel) (.gp 0#32)
  let t ← descReadOr tsel (.gp (ecSel tsel))
  raiseIf (!t.e2.getLsbD 12 || !t.e2.getLsbD 11) (.gp (ecSel tsel))
  raiseIf (s.cpl.ult (dplOf t.e2)) (.gp (ecSel tsel))
  raiseIf (!t.e2.getLsbD 15) (.np (ecSel tsel))
  pure t

/-- The target of a gate runs at a more privileged level: non-conforming, and of lower DPL than CPL (R675, R579). -/
def goesInner (s : State) (t : Desc) : Bool := !t.e2.getLsbD 10 && (dplOf t.e2).ult s.cpl

/-- The items every protected-mode delivery pushes, first to last (R673, R678). -/
def deliveryFrame (s : State) (vector : Byte) (isSoftware isHardware : Bool) (code : Option W32) (ret : W32) :
    List W32 :=
  [flagsRead s, s.segs.cs.sel.setWidth 32, ret]
    ++ (bif !isSoftware && !isHardware && vectorHasCode vector then [code.getD 0#32] else [])

/-- The flag changes of protected-mode delivery (R679). -/
def State.deliveryFlags (s : State) (isInt : Bool) : State :=
  s.setSys (s.eflagsSys &&& ~~~(0x00004100#32 ||| atBit isInt 9))

/-- DeliverProt(vector, is_software, error_code, is_hardware, return_pc) (R673 to R679). -/
def deliverProt (vector : Byte) (isSoftware : Bool) (code : Option W32) (isHardware : Bool) (ret : W32) : M Unit := do
  let s ← get
  let g ← readIdtGate vector isSoftware
  let t ← gateTarget g.tsel
  let n := g.gw.bytes
  bif goesInner s t then do
    let i ← innerStack (dplOf t.e2)
    markAccessed i.desc
    markAccessed t
    let nm := maskOfRights i.desc.e2
    let nb := descBase i.desc.e1 i.desc.e2
    let p ← pushList true nb nm n (i.nesp &&& nm)
      ([s.segs.ss.sel.setWidth 32, s.regs.esp] ++ deliveryFrame s vector isSoftware isHardware code ret)
    setSegFrom .ss (selWithRpl i.nss (dplOf t.e2)) i.desc
    upd fun s' => s'.setCpl (dplOf t.e2)
    upd fun s' => s'.setReg .w32 .esp (maskedInto nm s.regs.esp p)
    setSegFrom .cs (selWithRpl g.tsel (dplOf t.e2)) t
    upd fun s' => s'.setPc g.toff
    upd fun s' => s'.deliveryFlags g.isInt
  else do
    markAccessed t
    let nm := s.stackMask
    let p ← pushList false s.segs.ss.base nm n (s.regs.esp &&& nm)
      (deliveryFrame s vector isSoftware isHardware code ret)
    upd fun s' => s'.setReg .w32 .esp (maskedInto nm s.regs.esp p)
    setSegFrom .cs (selWithRpl g.tsel s.cpl) t
    upd fun s' => s'.setPc g.toff
    upd fun s' => s'.deliveryFlags g.isInt

/-- Deliver(vector, is_software, error_code, is_hardware, return_pc) (R670). -/
def deliver (vector : Byte) (isSoftware : Bool) (code : Option W32) (isHardware : Bool) (ret : W32) : M Unit := do
  let s ← get
  bif !s.pe then deliverReal vector ret
  else deliverProt vector isSoftware code isHardware ret

/-- DeliverChain from an exception, with the number of deliveries that may still be tried: an exception raised by a
delivery is delivered as itself with the same return address, and when no try is left the machine aborts (R686). -/
def deliverChain : Nat → Exc → W32 → State → State
  | 0, _, _, s => s.setAborted .tripleFault
  | n + 1, e, ret, s =>
    match deliver e.vector false e.code false ret s with
    | .ok _ s' => s'
    | .error (.raise e') s' => deliverChain n e' ret s'
    | .error (.abort r) s' => s'.setAborted r

/-- TAKING AN EXCEPTION: an instruction raised it; it is delivered in the same step with the address of the
instruction, pc, as the return address, and the third failure aborts (R660, R686, R700). -/
def takeException (e : Exc) (s : State) : State := deliverChain 3 e s.pc (s.setStepFaulted true)

/-- The end of an instruction: its next state, the exception it raised taken, or the abort recorded (R660, R700,
R706). -/
def complete (m : M Unit) (s : State) : Answer :=
  match m s with
  | .ok _ s' => .next s'
  | .error (.raise e) s' => .next (takeException e s')
  | .error (.abort r) s' => .next (s'.setAborted r)

/-! ### Returning from an exception and from a far call -/

/-- The checks on the code segment a return pops (46_segment_far.md R582). -/
def returnTarget (csel : W16) : M Desc := do
  let s ← get
  raiseIf (selNull csel) (.gp 0#32)
  let d ← descReadOr csel (.gp (ecSel csel))
  raiseIf (!d.e2.getLsbD 12 || !d.e2.getLsbD 11) (.gp (ecSel csel))
  raiseIf ((selRpl csel).ult s.cpl) (.gp (ecSel csel))
  raiseIf (bif d.e2.getLsbD 10 then (selRpl csel).ult (dplOf d.e2) else dplOf d.e2 != selRpl csel) (.gp (ecSel csel))
  raiseIf (!d.e2.getLsbD 15) (.np (ecSel csel))
  pure d

/-- The checks on the stack segment of an outer-level return (46_segment_far.md R585). -/
def returnStack (nss : W16) (rpl : BitVec 2) : M Desc := do
  raiseIf (selNull nss) (.gp 0#32)
  let d ← descReadOr nss (.gp (ecSel nss))
  raiseIf (selRpl nss != rpl) (.gp (ecSel nss))
  raiseIf (!d.e2.getLsbD 12 || d.e2.getLsbD 11 || !d.e2.getLsbD 9) (.gp (ecSel nss))
  raiseIf (dplOf d.e2 != rpl) (.gp (ecSel nss))
  raiseIf (!d.e2.getLsbD 15) (.ss (ecSel nss))
  pure d

/-- One data segment register on a return to an outer level: cleared when it is more privileged than the new level
(46_segment_far.md R587). -/
def State.clearIfInner (s : State) (n : Sreg) : State :=
  let r := (s.segs.get n).rights
  bif (!r.getLsbD 11 || !r.getLsbD 10) && (dplOf r).ult s.cpl then
    s.setSegReg n { sel := 0#16, base := 0#32, limit := 0#32, rights := 0#32 }
  else s

/-- R587 for ES, DS, FS and GS. -/
def State.clearDataSegs (s : State) : State :=
  (((s.clearIfInner .es).clearIfInner .ds).clearIfInner .fs).clearIfInner .gs

/-- IretMask(c), from the state before the IRET (46_segment_far.md R592). -/
def iretMask (s : State) : W32 :=
  let m := 0x00244100#32 ||| (bif s.cpl == 0#2 then 0x00003000#32 else 0#32)
    ||| (bif s.iopl.ult s.cpl then 0#32 else 0x00000200#32)
  bif s.osz == .w16 then m &&& 0x0000FFFF#32 else m

/-- Whether an EFLAGS image that IRET pops would enter virtual-8086 mode: VM (bit 17) set, a 32-bit operand size, CPL 0.
The IRET aborts with unsupported_vm86 then, in either mode (10_state.md R47; 92_eei_decisions.md D21). -/
def State.entersVm86 (s : State) (fl : W32) : Bool := s.osz == .w32 && fl.getLsbD 17 && s.cpl == 0#2

/-- ReturnProt(is_iret, imm): far RET and IRET in protected mode (46_segment_far.md R582 to R587). -/
def returnProt (isIret : Bool) (imm : W32) : M Unit := do
  let s ← get
  let n := BitVec.ofNat 32 s.osz.bytes
  let sp := s.regs.esp
  let off ← accRead (s.stackLin sp) s.osz.bytes
  let csel32 ← accRead (s.stackLin (sp + n)) s.osz.bytes
  let csel : W16 := csel32.setWidth 16
  let fl ← bif isIret then accRead (s.stackLin (sp + n + n)) s.osz.bytes else pure 0#32
  bif isIret && s.entersVm86 fl then abort .unsupportedVm86
  else do
    let sp1 := sp + n + n + (bif isIret then n else 0#32) + imm
    let d ← returnTarget csel
    bif selRpl csel == s.cpl then do
      markAccessed d
      upd fun s' => s'.setReg .w32 .esp (maskedInto s.stackMask s.regs.esp sp1)
      setSegFrom .cs csel d
      upd fun s' => s'.setPc off
      upd fun s' => bif isIret then flagsWrite s' fl (iretMask s) else s'
    else do
      let nesp ← accRead (s.stackLin sp1) s.osz.bytes
      let nss32 ← accRead (s.stackLin (sp1 + n)) s.osz.bytes
      let nss : W16 := nss32.setWidth 16
      let sd ← returnStack nss (selRpl csel)
      markAccessed d
      markAccessed sd
      setSegFrom .ss nss sd
      setSegFrom .cs csel d
      upd fun s' => s'.setCpl (selRpl csel)
      upd fun s' => s'.setReg .w32 .esp (maskedInto (maskOfRights sd.e2) s.regs.esp (nesp + imm))
      upd fun s' => s'.setPc off
      upd fun s' => bif isIret then flagsWrite s' fl (iretMask s) else s'
      upd State.clearDataSegs

/-- The return from an exception or an interrupt in real-address mode (46_segment_far.md R591), with the abort on
a popped image that has VM set (10_state.md R47; 92_eei_decisions.md D21). That the abort comes after the three pops and
before any register is written is DEDUCED from R582, log 19. -/
def returnReal : M Unit := do
  let s ← get
  let n := BitVec.ofNat 32 s.osz.bytes
  let sp := s.regs.esp
  let off ← accRead (s.stackLin sp) s.osz.bytes
  let sel ← accRead (s.stackLin (sp + n)) s.osz.bytes
  let fl ← accRead (s.stackLin (sp + n + n)) s.osz.bytes
  bif s.entersVm86 fl then abort .unsupportedVm86
  else do
    upd fun s' => s'.setReg .w32 .esp (maskedInto s.stackMask s.regs.esp (sp + n + n + n))
    loadSegReal .cs (sel.setWidth 16)
    upd fun s' => s'.setPc off
    upd fun s' => flagsWrite s' fl (bif s.osz == .w32 then 0x00247300#32 else 0x00007300#32)

/-- RETURNING FROM AN EXCEPTION: IRET (46_segment_far.md R589 to R592). -/
def returnFromException : M Unit := do
  let s ← get
  bif !s.pe then returnReal
  else bif s.eflagsSys.getLsbD 14 then abort .unsupportedTaskSwitch
  else returnProt true 0#32

end Sys2Proof.Machine
end

