-- ==== Sys2Proof/Machine/Fetch.lean ====
section
/-! DEFINITION. Fetching an instruction's bytes (30_encoding.md R220 to R227): the decoder run on the machine's own
memory, through segmentation and translation, with the 15-byte limit. -/

namespace Sys2Proof.Machine

/-- Fetch8(), Fetch16(), Fetch32(): the next n bytes at the fetch pointer (R221). -/
def fetchPart (n : Nat) : M W32 := do
  let s ← get
  bif Nat.blt Config.maxInsnLen (s.dec.len + n) then raise .ud
  else do
    let v ← accRead (s.lin .cs s.dec.fp) n
    upd fun s => s.setDec { s.dec with fp := s.dec.fp + BitVec.ofNat 32 n, len := s.dec.len + n }
    pure v

/-- Run a decoding on the bytes at the fetch pointer (R220, R221). -/
def fetchRun {α : Type} : Fetch α → M α
  | .done a => pure a
  | .byte k => do
    let v ← fetchPart 1
    fetchRun (k (v.setWidth 8))
  | .word k => do
    let v ← fetchPart 2
    fetchRun (k (v.setWidth 16))
  | .dword k => do
    let v ← fetchPart 4
    fetchRun (k v)

/-- What decoding depends on beside the bytes (R226, R227, R600). -/
def State.mode (s : State) : Mode :=
  { osz32 := s.osz == .w32, asz32 := s.asz == .w32, pe := s.pe }

/-- Fetch and decode the next item, an instruction or a prefix, at the fetch pointer (R223). -/
def fetchItem : M Instr := do
  let s ← get
  fetchRun (decode s.mode)

/-- The start of an instruction: the decode state is set anew at pc (R221, R223). -/
def State.startDecode (s : State) : State := s.setDec (DecodeState.start s.pc)

/-- An attempt to execute an instruction counts before its fetch (60_exceptions.md R700, R703). -/
def State.beginInstr (s : State) : State := (s.setCycle (s.cycleCount + 1#64)).startDecode

end Sys2Proof.Machine
end

