-- ==== Sys2Proof/Machine/Operands.lean ====
section
/-! DEFINITION. The operands (30_encoding.md R230 to R241, R246): effective addresses, the r/m operand read, read for
a write, and written, immediates, branch targets. -/

namespace Sys2Proof.Machine

/-- The displacement of a 16-bit form; one byte is sign-extended (R233). -/
def dispVal16 : Disp 16 → W32
  | .none => 0#32
  | .d8 d => d.signExtend 32
  | .dn d => d.setWidth 32

/-- The displacement of a 32-bit form; one byte is sign-extended (R231). -/
def dispVal32 : Disp 32 → W32
  | .none => 0#32
  | .d8 d => d.signExtend 32
  | .dn d => d

/-- The base of a 16-bit form (R233). -/
def base16Val (g : Regs) : Base16 → W32
  | .bxsi => g.ebx + g.esi
  | .bxdi => g.ebx + g.edi
  | .bpsi => g.ebp + g.esi
  | .bpdi => g.ebp + g.edi
  | .si => g.esi
  | .di => g.edi
  | .bp => g.ebp
  | .bx => g.ebx

/-- The default segment of a 16-bit form with a base (R233). -/
def base16Seg : Base16 → Sreg
  | .bpsi => .ss
  | .bpdi => .ss
  | .bp => .ss
  | _ => .ds

/-- The default segment of a 32-bit form with a base: SS for ESP and EBP (R231, R232). -/
def base32Seg : Reg → Sreg
  | .esp => .ss
  | .ebp => .ss
  | _ => .ds

/-- The scaled index; index 4 means none (R232). -/
def sibIndex (g : Regs) (scale : BitVec 2) (index : Reg) : W32 :=
  match index with
  | .esp => 0#32
  | r => g.get r <<< scale.toNat

/-- The effective address and the default segment of a memory form; none for a register (R231 to R233, R235). -/
def effAddr (g : Regs) : Rm → Option (W32 × Sreg)
  | .reg _ => none
  | .abs16 d => some (d.setWidth 32, .ds)
  | .ind16 b d => some (truncW .w16 (base16Val g b + dispVal16 d), base16Seg b)
  | .abs32 d => some (d, .ds)
  | .ind32 b d => some (g.get b + dispVal32 d, base32Seg b)
  | .sib sc ix b d => some (g.get b + sibIndex g sc ix + dispVal32 d, base32Seg b)
  | .sibAbs sc ix d => some (d + sibIndex g sc ix, .ds)
  | .cut _ _ => none
  | .absent => none

/-- eseg: the override, else the default segment (R239). -/
def State.eseg (s : State) (dflt : Sreg) : Sreg := s.dec.segOvr.getD dflt

/-- An offset formed with the address size: modulo 2^16 when it is 16 (R236). -/
def State.reduce (s : State) (off : W32) : W32 := truncW s.asz off

/-- Where an r/m operand is: a register, or a segment and an offset in it. -/
inductive Loc where
  | reg (r : Reg)
  | mem (seg : Sreg) (off : W32)
deriving DecidableEq, Repr

/-- Where the r/m operand is, from the registers of the state; none where decoding ended early (R240, R262). -/
def State.locOf (s : State) (rm : Rm) : Option Loc :=
  match rm with
  | .reg r => some (.reg r)
  | m =>
    match effAddr s.regs m with
    | some (off, dflt) => some (.mem (s.eseg dflt) off)
    | none => none

/-- The r/m operand's place; an encoding that ended early raises the invalid-opcode exception (R262). -/
def locate (rm : Rm) : M Loc := do
  let s ← get
  match s.locOf rm with
  | some l => pure l
  | none => raise .ud

/-- The segment and offset of a memory-only operand; a register form raises the invalid-opcode exception (R241). -/
def locateMem (rm : Rm) : M (Sreg × W32) := do
  let l ← locate rm
  match l with
  | .reg _ => raise .ud
  | .mem seg off => pure (seg, off)

/-- The register of a register-only operand; another form raises the invalid-opcode exception (R241). -/
def locateReg (rm : Rm) : M Reg := do
  let l ← locate rm
  match l with
  | .reg r => pure r
  | .mem _ _ => raise .ud

/-- RM(w) (R240). -/
def readLoc (w : Width) : Loc → M W32
  | .reg r => do
    let s ← get
    pure (s.regs.read w r)
  | .mem seg off => do
    let s ← get
    accRead (s.lin seg off) w.bytes

/-- RMW(w): the read of a read-modify-write (R240). -/
def readLocW (w : Width) : Loc → M Held
  | .reg r => do
    let s ← get
    pure { val := s.regs.read w r, places := [] }
  | .mem seg off => do
    let s ← get
    accReadW (s.lin seg off) w.bytes

/-- RM(w) <- v (R240). -/
def writeLoc (w : Width) (l : Loc) (v : W32) : M Unit :=
  match l with
  | .reg r => upd fun s => s.setReg w r v
  | .mem seg off => do
    let s ← get
    accWrite (s.lin seg off) w.bytes v

/-- RM(w) <- v after RMW(w) of the same place: the write cannot fault (R130, R240). -/
def writeBack (w : Width) (l : Loc) (h : Held) (v : W32) : M Unit :=
  match l with
  | .reg r => upd fun s => s.setReg w r v
  | .mem seg off => do
    let s ← get
    accWriteProbed (s.lin seg off) w.bytes h.places v

/-- RM(w) of an r/m operand (R240). -/
def readRm (w : Width) (rm : Rm) : M W32 := do
  let l ← locate rm
  readLoc w l

/-- RM(w) <- v of an r/m operand (R240). -/
def writeRm (w : Width) (rm : Rm) (v : W32) : M Unit := do
  let l ← locate rm
  writeLoc w l v

/-- A selector or machine status word goes to a register at the operand size, zero-extended, and to memory always as 16
bits (46_segment_far.md R561, 47_system.md R610, R617). -/
def storeWord (w : Width) (rm : Rm) (v : W32) : M Unit := do
  let l ← locate rm
  match l with
  | .reg r => upd fun s => s.setReg w r v
  | .mem seg off => writeLoc .w16 (.mem seg off) v

/-- Reg(w, i). -/
def readReg (w : Width) (r : Reg) : M W32 := do
  let s ← get
  pure (s.regs.read w r)

/-- Reg(w, i) <- v. -/
def writeReg (w : Width) (r : Reg) (v : W32) : M Unit := upd fun s => s.setReg w r v

/-- pc <- v. -/
def jumpTo (v : W32) : M Unit := upd fun s => s.setPc v

/-- pc <- nextpc (R246, R300). -/
def advance : M Unit := upd fun s => s.setPc s.nextpc

/-- CC <- f(CC). -/
def updCc (f : CC → CC) : M Unit := upd fun s => s.setCc (f s.cc)

/-- sext_32 of an 8-bit immediate (R237). -/
def sext8 (b : Byte) : W32 := b.signExtend 32

/-- The value of a displacement of the operand size, sign-extended (R237, RELV). -/
def relVal : ImmV → W32
  | .i16 v => v.signExtend 32
  | .i32 v => v

/-- RelTarget(d) (43_control_transfer.md R440). -/
def State.relTarget (s : State) (d : W32) : W32 := truncW s.osz (s.nextpc + d)

/-- The linear address of an operand part at an offset, reduced by the address size (R236, R239). -/
def State.linAt (s : State) (seg : Sreg) (off : W32) : W32 := s.lin seg (s.reduce off)

end Sys2Proof.Machine
end

