-- ==== Sys2Proof/Machine/Boundary.lean ====
section
/-! DEFINITION. The parts of a step beside the instruction itself (60_exceptions.md R700 to R703): the boundary where a
hardware interrupt is accepted and delivered, and how a fetch that did not complete ends the step. -/

namespace Sys2Proof.Machine

/-- A hardware interrupt is delivered at the boundary: the halted state ends, the return address is pc, and the latch is
emptied when the first delivery completes (R700, R701). -/
def State.deliverInterrupt (s : State) (v : Byte) : State :=
  match deliver v false none true s.pc (s.setHalted false) with
  | .ok _ s' => s'.setPending none
  | .error (.raise e) s' => deliverChain 2 e s.pc s'
  | .error (.abort r) s' => s'.setAborted r

/-- The boundary: a latched vector is delivered, or the line is sampled, acknowledged and its vector latched and
delivered (R700, R701). -/
def State.boundary (s : State) : State :=
  let s := s.setStepFaulted false
  match s.pendingVector with
  | some v => s.deliverInterrupt v
  | none =>
    bif s.irqLine && s.ifFlag then (s.intAck.1.setPending (some s.intAck.2)).deliverInterrupt s.intAck.2
    else s

/-- No interrupt is due at the boundary (R701). -/
def State.quiet (s : State) : Bool := s.pendingVector.isNone && !(s.irqLine && s.ifFlag)

/-- A fetch that stopped ends the step: its exception is taken, or the abort is recorded (R221, R663, R700). -/
def fetchStopped (st : Stop) (s : State) : Answer :=
  match st with
  | .raise e => .next (takeException e s)
  | .abort r => .next (s.setAborted r)

/-- The fifteen instruction bytes stored where the fetch at pc reads them: at the physical place to which each byte's
linear address translates (R221); a byte whose address does not translate is not stored. -/
def State.storeInstrBytes (s : State) (w : Nat) : State :=
  ((List.range Config.maxInsnLen).zip (tableBytes w)).foldl
    (fun t kb =>
      match translate (s.lin .cs (s.pc + BitVec.ofNat 32 kb.1)) .read s.user s with
      | .ok pa _ => t.setMem (memWrite t.mem pa.toNat kb.2)
      | .error _ _ => t) s

end Sys2Proof.Machine
end

