-- ==== Sys2Proof/Machine/Arith.lean ====
section
/-! DEFINITION. The meanings of the arithmetic and logic instructions (41_arithmetic_logic.md). -/

namespace Sys2Proof.Machine

/-- The eight operations of the two-operand forms (R350). -/
inductive AluOp where
  | addOp | orOp | adcOp | sbbOp | andOp | subOp | xorOp | cmpOp
deriving DecidableEq, Repr

/-- The result r of f_k(a, b) (R351 to R358). -/
def aluResult (op : AluOp) (w : Width) (cf : Bool) (a b : W32) : W32 :=
  match op with
  | .addOp => truncW w (a + b)
  | .orOp => truncW w (a ||| b)
  | .adcOp => truncW w (a + b + atBit cf 0)
  | .sbbOp => truncW w (a - b - atBit cf 0)
  | .andOp => truncW w (a &&& b)
  | .subOp => truncW w (a - b)
  | .xorOp => truncW w (a ^^^ b)
  | .cmpOp => truncW w (a - b)

/-- The flag record f_k(a, b) makes (R351 to R358). -/
def aluRecord (op : AluOp) (w : Width) (c : CC) (a b : W32) : CC :=
  let r := aluResult op w c.cf a b
  match op with
  | .addOp => c.record .add w r b
  | .orOp => c.recordLogic w r
  | .adcOp => c.record (bif c.cf then .adc else .add) w r b
  | .sbbOp => c.record (bif c.cf then .sbb else .sub) w r b
  | .andOp => c.recordLogic w r
  | .subOp => c.record .sub w r b
  | .xorOp => c.recordLogic w r
  | .cmpOp => c.record .sub w r b

/-- The operation writes its result back: all but CMP (R350). -/
def AluOp.writes : AluOp → Bool
  | .cmpOp => false
  | _ => true

/-- op r/m, src: the operand is read with write intent, but for CMP; the result is written; then the flags are
recorded (R350). -/
def aluToRm (op : AluOp) (w : Width) (rm : Rm) (src : M W32) : M Unit := do
  let l ← locate rm
  bif op.writes then do
    let a ← readLocW w l
    let b ← src
    let s ← get
    writeBack w l a (aluResult op w s.cc.cf a.val b)
    updCc fun c => aluRecord op w c a.val b
    advance
  else do
    let a ← readLoc w l
    let b ← src
    updCc fun c => aluRecord op w c a b
    advance

/-- op r, src (R350). -/
def aluToReg (op : AluOp) (w : Width) (r : Reg) (src : M W32) : M Unit := do
  let a ← readReg w r
  let b ← src
  let s ← get
  bif op.writes then writeReg w r (aluResult op w s.cc.cf a b) else pure ()
  updCc fun c => aluRecord op w c a b
  advance

/-- TEST (R359). -/
def testWith (w : Width) (x y : M W32) : M Unit := do
  let a ← x
  let b ← y
  updCc fun c => c.recordLogic w (truncW w (a &&& b))
  advance

/-- a + 1 for INC, a - 1 for DEC (R360, R361). -/
def incDecResult (f : Family) (w : Width) (a : W32) : W32 :=
  bif f == .inc then truncW w (a + 1#32) else truncW w (a - 1#32)

/-- INC and DEC at a place (R360, R361). -/
def incDecLoc (f : Family) (w : Width) (l : Loc) : M Unit := do
  let a ← readLocW w l
  writeBack w l a (incDecResult f w a.val)
  updCc fun c => c.recordIncDec f w (incDecResult f w a.val)
  advance

/-- INC and DEC of an r/m operand (R360, R361). -/
def incDecRm (f : Family) (w : Width) (rm : Rm) : M Unit := do
  let l ← locate rm
  incDecLoc f w l

/-- NEG, the subtraction 0 - a (R362). -/
def negate (w : Width) (rm : Rm) : M Unit := do
  let l ← locate rm
  let a ← readLocW w l
  writeBack w l a (truncW w (0#32 - a.val))
  updCc fun c => c.record .sub w (truncW w (0#32 - a.val)) a.val
  advance

/-- NOT (R363). -/
def complement (w : Width) (rm : Rm) : M Unit := do
  let l ← locate rm
  let a ← readLocW w l
  writeBack w l a (truncW w (~~~a.val))
  advance

/-- The double-width result of a multiplication to its registers: AX, DX:AX or EDX:EAX (R364, R365). -/
def Regs.writeProduct (g : Regs) (w : Width) (p : BitVec 64) : Regs :=
  match w with
  | .w8 => g.write .w16 .eax (p.setWidth 32)
  | .w16 => (g.write .w16 .eax (p.setWidth 32)).write .w16 .edx ((p >>> 16).setWidth 32)
  | .w32 => (g.write .w32 .eax (p.setWidth 32)).write .w32 .edx ((p >>> 32).setWidth 32)

/-- The low w bits of a product. -/
def productLow (w : Width) (p : BitVec 64) : W32 := truncW w (p.setWidth 32)

/-- The high w bits of a product of w-bit operands. -/
def productHigh (w : Width) (p : BitVec 64) : W32 := truncW w ((p >>> w.bits).setWidth 32)

/-- The exact unsigned product (R364). -/
def mulU (w : Width) (a b : W32) : BitVec 64 := BitVec.ofNat 64 (unsignedW w a * unsignedW w b)

/-- The exact signed product (R365, R366). -/
def mulS (w : Width) (a b : W32) : BitVec 64 := BitVec.ofInt 64 (signedW w a * signedW w b)

/-- The signed product does not fit in w bits: 1, else 0 (R365, R366). -/
def mulOverflow (w : Width) (a b : W32) : W32 :=
  bif signedW w a * signedW w b == signedW w (productLow w (mulS w a b)) then 0#32 else 1#32

/-- MUL (R364). -/
def mulUnsigned (w : Width) (rm : Rm) : M Unit := do
  let b ← readRm w rm
  let a ← readReg w .eax
  let p := mulU w a b
  upd fun s => s.setRegs (s.regs.writeProduct w p)
  updCc fun c => c.record .mul w (productLow w p) (productHigh w p)
  advance

/-- IMUL, one operand (R365). -/
def mulSigned (w : Width) (rm : Rm) : M Unit := do
  let b ← readRm w rm
  let a ← readReg w .eax
  upd fun s => s.setRegs (s.regs.writeProduct w (mulS w a b))
  updCc fun c => c.record .mul w (productLow w (mulS w a b)) (mulOverflow w a b)
  advance

/-- IMUL, two and three operands (R366). -/
def mulInto (w : Width) (r : Reg) (x y : M W32) : M Unit := do
  let a ← x
  let b ← y
  writeReg w r (productLow w (mulS w a b))
  updCc fun c => c.record .mul w (productLow w (mulS w a b)) (mulOverflow w a b)
  advance

/-- The dividend AX, DX:AX or EDX:EAX as an unsigned integer (R367). -/
def Regs.dividend (g : Regs) (w : Width) : Nat :=
  match w with
  | .w8 => (g.read .w16 .eax).toNat
  | .w16 => (g.read .w16 .edx).toNat * 2 ^ 16 + (g.read .w16 .eax).toNat
  | .w32 => g.edx.toNat * 2 ^ 32 + g.eax.toNat

/-- The dividend as a signed integer of 2w bits (R368). -/
def Regs.dividendS (g : Regs) (w : Width) : Int := (BitVec.ofNat (2 * w.bits) (g.dividend w)).toInt

/-- Quotient and remainder to AL and AH, AX and DX, or EAX and EDX (R367, R368). -/
def Regs.writeQuotient (g : Regs) (w : Width) (q r : W32) : Regs :=
  match w with
  | .w8 => (g.write .w8 .eax q).write .w8 .esp r
  | .w16 => (g.write .w16 .eax q).write .w16 .edx r
  | .w32 => (g.write .w32 .eax q).write .w32 .edx r

/-- DIV (R367). -/
def divUnsigned (w : Width) (rm : Rm) : M Unit := do
  let b ← readRm w rm
  let s ← get
  let n := s.regs.dividend w
  let d := unsignedW w b
  raiseIf (d == 0) .de
  raiseIf (Nat.ble (2 ^ w.bits) (n / d)) .de
  upd fun s => s.setRegs (s.regs.writeQuotient w (BitVec.ofNat 32 (n / d)) (BitVec.ofNat 32 (n % d)))
  advance

/-- A signed quotient does not fit in w bits (R368). -/
def quotientOut (w : Width) (q : Int) : Bool :=
  decide (q > 2 ^ (w.bits - 1) - 1) || decide (q < -(2 ^ (w.bits - 1)))

/-- IDIV: the quotient is rounded toward zero and the remainder has the sign of the dividend (R10, R368). -/
def divSigned (w : Width) (rm : Rm) : M Unit := do
  let b ← readRm w rm
  let s ← get
  let n := s.regs.dividendS w
  let d := signedW w b
  raiseIf (d == 0) .de
  raiseIf (quotientOut w (n.tdiv d)) .de
  upd fun s => s.setRegs (s.regs.writeQuotient w (BitVec.ofInt 32 (n.tdiv d)) (BitVec.ofInt 32 (n.tmod d)))
  advance

/-- The flag image of DAA and DAS: SF, ZF, PF from the new AL, OF 0 (R369, R370). -/
def decimalImage (al : W32) (ncf naf : Bool) : W32 :=
  atBit ncf 0 ||| atBit (parity8 al) 2 ||| atBit naf 4 ||| atBit (al == 0#32) 6 ||| atBit (al.getLsbD 7) 7

/-- DAA adds, DAS subtracts. -/
def decimalStep (isSub : Bool) (al k : W32) : W32 := truncW .w8 (bif isSub then al - k else al + k)

/-- DAA and DAS (R369, R370). -/
def decimalAdjust (isSub : Bool) : M Unit := do
  let s ← get
  let al := s.regs.read .w8 .eax
  let low := (9#4).ult (al.extractLsb' 0 4) || s.cc.af
  let al1 := bif low then decimalStep isSub al 6#32 else al
  let carryLow := low && (s.cc.cf || (bif isSub then al.ult 6#32 else (0xF9#32).ult al))
  let high := (0x99#32).ult al || s.cc.cf
  let al2 := bif high then decimalStep isSub al1 0x60#32 else al1
  writeReg .w8 .eax al2
  updCc fun c => c.setImage (decimalImage al2 (carryLow || high) low)
  advance

/-- AAA and AAS (R371, R372). -/
def asciiAdjust (isSub : Bool) : M Unit := do
  let s ← get
  let al := s.regs.read .w8 .eax
  let n := (9#4).ult (al.extractLsb' 0 4) || s.cc.af
  let ax := s.regs.read .w16 .eax
  writeReg .w16 .eax (bif n then (bif isSub then ax - 0x106#32 else ax + 0x106#32) else ax)
  upd fun s => s.setReg .w8 .eax (s.regs.read .w8 .eax &&& 0x0F#32)
  updCc fun c => c.setImage ((c.image &&& ~~~0x11#32) ||| (bif n then 0x11#32 else 0#32))
  advance

/-- AAM (R373). -/
def asciiMul (base : Byte) : M Unit := do
  raiseIf (base == 0#8) .de
  let t ← readReg .w8 .eax
  let q : W32 := BitVec.ofNat 32 (t.toNat / base.toNat)
  let r : W32 := BitVec.ofNat 32 (t.toNat % base.toNat)
  writeReg .w8 .esp q
  writeReg .w8 .eax r
  updCc fun c => c.recordLogic .w8 r
  advance

/-- AAD (R374). -/
def asciiDiv (base : Byte) : M Unit := do
  let al ← readReg .w8 .eax
  let ah ← readReg .w8 .esp
  let r := truncW .w8 (al + ah * base.setWidth 32)
  writeReg .w8 .eax r
  writeReg .w8 .esp 0#32
  updCc fun c => c.recordLogic .w8 r
  advance

/-- CMPXCHG: the operand is translated for writing even when no write follows (R375). -/
def compareExchange (w : Width) (rm : Rm) (r : Reg) : M Unit := do
  let l ← locate rm
  let d ← readLocW w l
  let acc ← readReg w .eax
  let g ← readReg w r
  bif truncW w (acc - d.val) == 0#32 then writeBack w l d g else writeReg w .eax d.val
  updCc fun c => c.record .sub w (truncW w (acc - d.val)) d.val
  advance

/-- XADD: with two registers the sum is written last (R376); a memory operand is written before the register, as every
rule writes registers after its last access (R660), and its write cannot fault (R130), so no order of the two can be
seen. -/
def exchangeAdd (w : Width) (rm : Rm) (r : Reg) : M Unit := do
  let l ← locate rm
  let a ← readLocW w l
  let b ← readReg w r
  match l with
  | .reg q => do
    writeReg w r a.val
    writeReg w q (truncW w (a.val + b))
  | .mem seg off => do
    writeBack w (.mem seg off) a (truncW w (a.val + b))
    writeReg w r a.val
  updCc fun c => c.record .add w (truncW w (a.val + b)) b
  advance

/-! ### One meaning for each constructor -/

/-- ADD r/m8, r8 (R350, R351). -/
def execAddRm8R8 (rm : Rm) (r : Reg) (s : State) : Answer :=
  complete (aluToRm .addOp .w8 rm (readReg .w8 r)) s

/-- ADD r/mv, rv (R350, R351). -/
def execAddRmvRv (rm : Rm) (r : Reg) (s : State) : Answer :=
  complete (aluToRm .addOp s.osz rm (readReg s.osz r)) s

/-- ADD r8, r/m8 (R350, R351). -/
def execAddR8Rm8 (r : Reg) (rm : Rm) (s : State) : Answer :=
  complete (aluToReg .addOp .w8 r (readRm .w8 rm)) s

/-- ADD rv, r/mv (R350, R351). -/
def execAddRvRmv (r : Reg) (rm : Rm) (s : State) : Answer :=
  complete (aluToReg .addOp s.osz r (readRm s.osz rm)) s

/-- ADD AL, imm8 (R350, R351). -/
def execAddAlImm8 (ib : Byte) (s : State) : Answer :=
  complete (aluToReg .addOp .w8 .eax (pure (ib.setWidth 32))) s

/-- ADD eAX, immv (R350, R351). -/
def execAddEaxImmv (iv : ImmV) (s : State) : Answer :=
  complete (aluToReg .addOp s.osz .eax (pure iv.val)) s

/-- ADD r/m8, imm8, opcodes 80 and 82 (R350, R351). -/
def execAddRm8Imm8 (_x82 : Bool) (rm : Rm) (ib : Byte) (s : State) : Answer :=
  complete (aluToRm .addOp .w8 rm (pure (ib.setWidth 32))) s

/-- ADD r/mv, immv (R350, R351). -/
def execAddRmvImmv (rm : Rm) (iv : ImmV) (s : State) : Answer :=
  complete (aluToRm .addOp s.osz rm (pure iv.val)) s

/-- ADD r/mv, imm8 sign-extended (R350, R351). -/
def execAddRmvImm8 (rm : Rm) (ib : Byte) (s : State) : Answer :=
  complete (aluToRm .addOp s.osz rm (pure (truncW s.osz (sext8 ib)))) s

/-- OR r/m8, r8 (R350, R357). -/
def execOrRm8R8 (rm : Rm) (r : Reg) (s : State) : Answer :=
  complete (aluToRm .orOp .w8 rm (readReg .w8 r)) s

/-- OR r/mv, rv (R350, R357). -/
def execOrRmvRv (rm : Rm) (r : Reg) (s : State) : Answer :=
  complete (aluToRm .orOp s.osz rm (readReg s.osz r)) s

/-- OR r8, r/m8 (R350, R357). -/
def execOrR8Rm8 (r : Reg) (rm : Rm) (s : State) : Answer :=
  complete (aluToReg .orOp .w8 r (readRm .w8 rm)) s

/-- OR rv, r/mv (R350, R357). -/
def execOrRvRmv (r : Reg) (rm : Rm) (s : State) : Answer :=
  complete (aluToReg .orOp s.osz r (readRm s.osz rm)) s

/-- OR AL, imm8 (R350, R357). -/
def execOrAlImm8 (ib : Byte) (s : State) : Answer :=
  complete (aluToReg .orOp .w8 .eax (pure (ib.setWidth 32))) s

/-- OR eAX, immv (R350, R357). -/
def execOrEaxImmv (iv : ImmV) (s : State) : Answer :=
  complete (aluToReg .orOp s.osz .eax (pure iv.val)) s

/-- OR r/m8, imm8, opcodes 80 and 82 (R350, R357). -/
def execOrRm8Imm8 (_x82 : Bool) (rm : Rm) (ib : Byte) (s : State) : Answer :=
  complete (aluToRm .orOp .w8 rm (pure (ib.setWidth 32))) s

/-- OR r/mv, immv (R350, R357). -/
def execOrRmvImmv (rm : Rm) (iv : ImmV) (s : State) : Answer :=
  complete (aluToRm .orOp s.osz rm (pure iv.val)) s

/-- OR r/mv, imm8 sign-extended (R350, R357). -/
def execOrRmvImm8 (rm : Rm) (ib : Byte) (s : State) : Answer :=
  complete (aluToRm .orOp s.osz rm (pure (truncW s.osz (sext8 ib)))) s

/-- ADC r/m8, r8 (R350, R352). -/
def execAdcRm8R8 (rm : Rm) (r : Reg) (s : State) : Answer :=
  complete (aluToRm .adcOp .w8 rm (readReg .w8 r)) s

/-- ADC r/mv, rv (R350, R352). -/
def execAdcRmvRv (rm : Rm) (r : Reg) (s : State) : Answer :=
  complete (aluToRm .adcOp s.osz rm (readReg s.osz r)) s

/-- ADC r8, r/m8 (R350, R352). -/
def execAdcR8Rm8 (r : Reg) (rm : Rm) (s : State) : Answer :=
  complete (aluToReg .adcOp .w8 r (readRm .w8 rm)) s

/-- ADC rv, r/mv (R350, R352). -/
def execAdcRvRmv (r : Reg) (rm : Rm) (s : State) : Answer :=
  complete (aluToReg .adcOp s.osz r (readRm s.osz rm)) s

/-- ADC AL, imm8 (R350, R352). -/
def execAdcAlImm8 (ib : Byte) (s : State) : Answer :=
  complete (aluToReg .adcOp .w8 .eax (pure (ib.setWidth 32))) s

/-- ADC eAX, immv (R350, R352). -/
def execAdcEaxImmv (iv : ImmV) (s : State) : Answer :=
  complete (aluToReg .adcOp s.osz .eax (pure iv.val)) s

/-- ADC r/m8, imm8, opcodes 80 and 82 (R350, R352). -/
def execAdcRm8Imm8 (_x82 : Bool) (rm : Rm) (ib : Byte) (s : State) : Answer :=
  complete (aluToRm .adcOp .w8 rm (pure (ib.setWidth 32))) s

/-- ADC r/mv, immv (R350, R352). -/
def execAdcRmvImmv (rm : Rm) (iv : ImmV) (s : State) : Answer :=
  complete (aluToRm .adcOp s.osz rm (pure iv.val)) s

/-- ADC r/mv, imm8 sign-extended (R350, R352). -/
def execAdcRmvImm8 (rm : Rm) (ib : Byte) (s : State) : Answer :=
  complete (aluToRm .adcOp s.osz rm (pure (truncW s.osz (sext8 ib)))) s

/-- SBB r/m8, r8 (R350, R353). -/
def execSbbRm8R8 (rm : Rm) (r : Reg) (s : State) : Answer :=
  complete (aluToRm .sbbOp .w8 rm (readReg .w8 r)) s

/-- SBB r/mv, rv (R350, R353). -/
def execSbbRmvRv (rm : Rm) (r : Reg) (s : State) : Answer :=
  complete (aluToRm .sbbOp s.osz rm (readReg s.osz r)) s

/-- SBB r8, r/m8 (R350, R353). -/
def execSbbR8Rm8 (r : Reg) (rm : Rm) (s : State) : Answer :=
  complete (aluToReg .sbbOp .w8 r (readRm .w8 rm)) s

/-- SBB rv, r/mv (R350, R353). -/
def execSbbRvRmv (r : Reg) (rm : Rm) (s : State) : Answer :=
  complete (aluToReg .sbbOp s.osz r (readRm s.osz rm)) s

/-- SBB AL, imm8 (R350, R353). -/
def execSbbAlImm8 (ib : Byte) (s : State) : Answer :=
  complete (aluToReg .sbbOp .w8 .eax (pure (ib.setWidth 32))) s

/-- SBB eAX, immv (R350, R353). -/
def execSbbEaxImmv (iv : ImmV) (s : State) : Answer :=
  complete (aluToReg .sbbOp s.osz .eax (pure iv.val)) s

/-- SBB r/m8, imm8, opcodes 80 and 82 (R350, R353). -/
def execSbbRm8Imm8 (_x82 : Bool) (rm : Rm) (ib : Byte) (s : State) : Answer :=
  complete (aluToRm .sbbOp .w8 rm (pure (ib.setWidth 32))) s

/-- SBB r/mv, immv (R350, R353). -/
def execSbbRmvImmv (rm : Rm) (iv : ImmV) (s : State) : Answer :=
  complete (aluToRm .sbbOp s.osz rm (pure iv.val)) s

/-- SBB r/mv, imm8 sign-extended (R350, R353). -/
def execSbbRmvImm8 (rm : Rm) (ib : Byte) (s : State) : Answer :=
  complete (aluToRm .sbbOp s.osz rm (pure (truncW s.osz (sext8 ib)))) s

/-- AND r/m8, r8 (R350, R356). -/
def execAndRm8R8 (rm : Rm) (r : Reg) (s : State) : Answer :=
  complete (aluToRm .andOp .w8 rm (readReg .w8 r)) s

/-- AND r/mv, rv (R350, R356). -/
def execAndRmvRv (rm : Rm) (r : Reg) (s : State) : Answer :=
  complete (aluToRm .andOp s.osz rm (readReg s.osz r)) s

/-- AND r8, r/m8 (R350, R356). -/
def execAndR8Rm8 (r : Reg) (rm : Rm) (s : State) : Answer :=
  complete (aluToReg .andOp .w8 r (readRm .w8 rm)) s

/-- AND rv, r/mv (R350, R356). -/
def execAndRvRmv (r : Reg) (rm : Rm) (s : State) : Answer :=
  complete (aluToReg .andOp s.osz r (readRm s.osz rm)) s

/-- AND AL, imm8 (R350, R356). -/
def execAndAlImm8 (ib : Byte) (s : State) : Answer :=
  complete (aluToReg .andOp .w8 .eax (pure (ib.setWidth 32))) s

/-- AND eAX, immv (R350, R356). -/
def execAndEaxImmv (iv : ImmV) (s : State) : Answer :=
  complete (aluToReg .andOp s.osz .eax (pure iv.val)) s

/-- AND r/m8, imm8, opcodes 80 and 82 (R350, R356). -/
def execAndRm8Imm8 (_x82 : Bool) (rm : Rm) (ib : Byte) (s : State) : Answer :=
  complete (aluToRm .andOp .w8 rm (pure (ib.setWidth 32))) s

/-- AND r/mv, immv (R350, R356). -/
def execAndRmvImmv (rm : Rm) (iv : ImmV) (s : State) : Answer :=
  complete (aluToRm .andOp s.osz rm (pure iv.val)) s

/-- AND r/mv, imm8 sign-extended (R350, R356). -/
def execAndRmvImm8 (rm : Rm) (ib : Byte) (s : State) : Answer :=
  complete (aluToRm .andOp s.osz rm (pure (truncW s.osz (sext8 ib)))) s

/-- SUB r/m8, r8 (R350, R354). -/
def execSubRm8R8 (rm : Rm) (r : Reg) (s : State) : Answer :=
  complete (aluToRm .subOp .w8 rm (readReg .w8 r)) s

/-- SUB r/mv, rv (R350, R354). -/
def execSubRmvRv (rm : Rm) (r : Reg) (s : State) : Answer :=
  complete (aluToRm .subOp s.osz rm (readReg s.osz r)) s

/-- SUB r8, r/m8 (R350, R354). -/
def execSubR8Rm8 (r : Reg) (rm : Rm) (s : State) : Answer :=
  complete (aluToReg .subOp .w8 r (readRm .w8 rm)) s

/-- SUB rv, r/mv (R350, R354). -/
def execSubRvRmv (r : Reg) (rm : Rm) (s : State) : Answer :=
  complete (aluToReg .subOp s.osz r (readRm s.osz rm)) s

/-- SUB AL, imm8 (R350, R354). -/
def execSubAlImm8 (ib : Byte) (s : State) : Answer :=
  complete (aluToReg .subOp .w8 .eax (pure (ib.setWidth 32))) s

/-- SUB eAX, immv (R350, R354). -/
def execSubEaxImmv (iv : ImmV) (s : State) : Answer :=
  complete (aluToReg .subOp s.osz .eax (pure iv.val)) s

/-- SUB r/m8, imm8, opcodes 80 and 82 (R350, R354). -/
def execSubRm8Imm8 (_x82 : Bool) (rm : Rm) (ib : Byte) (s : State) : Answer :=
  complete (aluToRm .subOp .w8 rm (pure (ib.setWidth 32))) s

/-- SUB r/mv, immv (R350, R354). -/
def execSubRmvImmv (rm : Rm) (iv : ImmV) (s : State) : Answer :=
  complete (aluToRm .subOp s.osz rm (pure iv.val)) s

/-- SUB r/mv, imm8 sign-extended (R350, R354). -/
def execSubRmvImm8 (rm : Rm) (ib : Byte) (s : State) : Answer :=
  complete (aluToRm .subOp s.osz rm (pure (truncW s.osz (sext8 ib)))) s

/-- XOR r/m8, r8 (R350, R358). -/
def execXorRm8R8 (rm : Rm) (r : Reg) (s : State) : Answer :=
  complete (aluToRm .xorOp .w8 rm (readReg .w8 r)) s

/-- XOR r/mv, rv (R350, R358). -/
def execXorRmvRv (rm : Rm) (r : Reg) (s : State) : Answer :=
  complete (aluToRm .xorOp s.osz rm (readReg s.osz r)) s

/-- XOR r8, r/m8 (R350, R358). -/
def execXorR8Rm8 (r : Reg) (rm : Rm) (s : State) : Answer :=
  complete (aluToReg .xorOp .w8 r (readRm .w8 rm)) s

/-- XOR rv, r/mv (R350, R358). -/
def execXorRvRmv (r : Reg) (rm : Rm) (s : State) : Answer :=
  complete (aluToReg .xorOp s.osz r (readRm s.osz rm)) s

/-- XOR AL, imm8 (R350, R358). -/
def execXorAlImm8 (ib : Byte) (s : State) : Answer :=
  complete (aluToReg .xorOp .w8 .eax (pure (ib.setWidth 32))) s

/-- XOR eAX, immv (R350, R358). -/
def execXorEaxImmv (iv : ImmV) (s : State) : Answer :=
  complete (aluToReg .xorOp s.osz .eax (pure iv.val)) s

/-- XOR r/m8, imm8, opcodes 80 and 82 (R350, R358). -/
def execXorRm8Imm8 (_x82 : Bool) (rm : Rm) (ib : Byte) (s : State) : Answer :=
  complete (aluToRm .xorOp .w8 rm (pure (ib.setWidth 32))) s

/-- XOR r/mv, immv (R350, R358). -/
def execXorRmvImmv (rm : Rm) (iv : ImmV) (s : State) : Answer :=
  complete (aluToRm .xorOp s.osz rm (pure iv.val)) s

/-- XOR r/mv, imm8 sign-extended (R350, R358). -/
def execXorRmvImm8 (rm : Rm) (ib : Byte) (s : State) : Answer :=
  complete (aluToRm .xorOp s.osz rm (pure (truncW s.osz (sext8 ib)))) s

/-- CMP r/m8, r8 (R350, R355). -/
def execCmpRm8R8 (rm : Rm) (r : Reg) (s : State) : Answer :=
  complete (aluToRm .cmpOp .w8 rm (readReg .w8 r)) s

/-- CMP r/mv, rv (R350, R355). -/
def execCmpRmvRv (rm : Rm) (r : Reg) (s : State) : Answer :=
  complete (aluToRm .cmpOp s.osz rm (readReg s.osz r)) s

/-- CMP r8, r/m8 (R350, R355). -/
def execCmpR8Rm8 (r : Reg) (rm : Rm) (s : State) : Answer :=
  complete (aluToReg .cmpOp .w8 r (readRm .w8 rm)) s

/-- CMP rv, r/mv (R350, R355). -/
def execCmpRvRmv (r : Reg) (rm : Rm) (s : State) : Answer :=
  complete (aluToReg .cmpOp s.osz r (readRm s.osz rm)) s

/-- CMP AL, imm8 (R350, R355). -/
def execCmpAlImm8 (ib : Byte) (s : State) : Answer :=
  complete (aluToReg .cmpOp .w8 .eax (pure (ib.setWidth 32))) s

/-- CMP eAX, immv (R350, R355). -/
def execCmpEaxImmv (iv : ImmV) (s : State) : Answer :=
  complete (aluToReg .cmpOp s.osz .eax (pure iv.val)) s

/-- CMP r/m8, imm8, opcodes 80 and 82 (R350, R355). -/
def execCmpRm8Imm8 (_x82 : Bool) (rm : Rm) (ib : Byte) (s : State) : Answer :=
  complete (aluToRm .cmpOp .w8 rm (pure (ib.setWidth 32))) s

/-- CMP r/mv, immv (R350, R355). -/
def execCmpRmvImmv (rm : Rm) (iv : ImmV) (s : State) : Answer :=
  complete (aluToRm .cmpOp s.osz rm (pure iv.val)) s

/-- CMP r/mv, imm8 sign-extended (R350, R355). -/
def execCmpRmvImm8 (rm : Rm) (ib : Byte) (s : State) : Answer :=
  complete (aluToRm .cmpOp s.osz rm (pure (truncW s.osz (sext8 ib)))) s

/-- TEST r/m8, r8 (R359). -/
def execTestRm8R8 (rm : Rm) (r : Reg) (s : State) : Answer :=
  complete (testWith .w8 (readRm .w8 rm) (readReg .w8 r)) s

/-- TEST r/mv, rv (R359). -/
def execTestRmvRv (rm : Rm) (r : Reg) (s : State) : Answer :=
  complete (testWith s.osz (readRm s.osz rm) (readReg s.osz r)) s

/-- TEST AL, imm8 (R359). -/
def execTestAlImm8 (ib : Byte) (s : State) : Answer :=
  complete (testWith .w8 (readReg .w8 .eax) (pure (ib.setWidth 32))) s

/-- TEST eAX, immv (R359). -/
def execTestEaxImmv (iv : ImmV) (s : State) : Answer :=
  complete (testWith s.osz (readReg s.osz .eax) (pure iv.val)) s

/-- TEST r/m8, imm8 (R359). -/
def execTestRm8Imm8 (rm : Rm) (ib : Byte) (s : State) : Answer :=
  complete (testWith .w8 (readRm .w8 rm) (pure (ib.setWidth 32))) s

/-- TEST r/mv, immv (R359). -/
def execTestRmvImmv (rm : Rm) (iv : ImmV) (s : State) : Answer :=
  complete (testWith s.osz (readRm s.osz rm) (pure iv.val)) s

/-- INC rv, opcode 40: EAX (R360). -/
def execIncEax (s : State) : Answer :=
  complete (incDecLoc .inc s.osz (.reg .eax)) s

/-- INC rv, opcode 41: ECX (R360). -/
def execIncEcx (s : State) : Answer :=
  complete (incDecLoc .inc s.osz (.reg .ecx)) s

/-- INC rv, opcode 42: EDX (R360). -/
def execIncEdx (s : State) : Answer :=
  complete (incDecLoc .inc s.osz (.reg .edx)) s

/-- INC rv, opcode 43: EBX (R360). -/
def execIncEbx (s : State) : Answer :=
  complete (incDecLoc .inc s.osz (.reg .ebx)) s

/-- INC rv, opcode 44: ESP (R360). -/
def execIncEsp (s : State) : Answer :=
  complete (incDecLoc .inc s.osz (.reg .esp)) s

/-- INC rv, opcode 45: EBP (R360). -/
def execIncEbp (s : State) : Answer :=
  complete (incDecLoc .inc s.osz (.reg .ebp)) s

/-- INC rv, opcode 46: ESI (R360). -/
def execIncEsi (s : State) : Answer :=
  complete (incDecLoc .inc s.osz (.reg .esi)) s

/-- INC rv, opcode 47: EDI (R360). -/
def execIncEdi (s : State) : Answer :=
  complete (incDecLoc .inc s.osz (.reg .edi)) s

/-- DEC rv, opcode 48: EAX (R361). -/
def execDecEax (s : State) : Answer :=
  complete (incDecLoc .dec s.osz (.reg .eax)) s

/-- DEC rv, opcode 49: ECX (R361). -/
def execDecEcx (s : State) : Answer :=
  complete (incDecLoc .dec s.osz (.reg .ecx)) s

/-- DEC rv, opcode 4A: EDX (R361). -/
def execDecEdx (s : State) : Answer :=
  complete (incDecLoc .dec s.osz (.reg .edx)) s

/-- DEC rv, opcode 4B: EBX (R361). -/
def execDecEbx (s : State) : Answer :=
  complete (incDecLoc .dec s.osz (.reg .ebx)) s

/-- DEC rv, opcode 4C: ESP (R361). -/
def execDecEsp (s : State) : Answer :=
  complete (incDecLoc .dec s.osz (.reg .esp)) s

/-- DEC rv, opcode 4D: EBP (R361). -/
def execDecEbp (s : State) : Answer :=
  complete (incDecLoc .dec s.osz (.reg .ebp)) s

/-- DEC rv, opcode 4E: ESI (R361). -/
def execDecEsi (s : State) : Answer :=
  complete (incDecLoc .dec s.osz (.reg .esi)) s

/-- DEC rv, opcode 4F: EDI (R361). -/
def execDecEdi (s : State) : Answer :=
  complete (incDecLoc .dec s.osz (.reg .edi)) s

/-- INC r/m8 (R360). -/
def execIncRm8 (rm : Rm) (s : State) : Answer :=
  complete (incDecRm .inc .w8 rm) s

/-- INC r/mv (R360). -/
def execIncRmv (rm : Rm) (s : State) : Answer :=
  complete (incDecRm .inc s.osz rm) s

/-- DEC r/m8 (R361). -/
def execDecRm8 (rm : Rm) (s : State) : Answer :=
  complete (incDecRm .dec .w8 rm) s

/-- DEC r/mv (R361). -/
def execDecRmv (rm : Rm) (s : State) : Answer :=
  complete (incDecRm .dec s.osz rm) s

/-- NEG r/m8 (R362). -/
def execNegRm8 (rm : Rm) (s : State) : Answer :=
  complete (negate .w8 rm) s

/-- NOT r/m8 (R363). -/
def execNotRm8 (rm : Rm) (s : State) : Answer :=
  complete (complement .w8 rm) s

/-- MUL r/m8 (R364). -/
def execMulRm8 (rm : Rm) (s : State) : Answer :=
  complete (mulUnsigned .w8 rm) s

/-- IMUL r/m8 (R365). -/
def execImulRm8 (rm : Rm) (s : State) : Answer :=
  complete (mulSigned .w8 rm) s

/-- DIV r/m8 (R367). -/
def execDivRm8 (rm : Rm) (s : State) : Answer :=
  complete (divUnsigned .w8 rm) s

/-- IDIV r/m8 (R368). -/
def execIdivRm8 (rm : Rm) (s : State) : Answer :=
  complete (divSigned .w8 rm) s

/-- NEG r/mv (R362). -/
def execNegRmv (rm : Rm) (s : State) : Answer :=
  complete (negate s.osz rm) s

/-- NOT r/mv (R363). -/
def execNotRmv (rm : Rm) (s : State) : Answer :=
  complete (complement s.osz rm) s

/-- MUL r/mv (R364). -/
def execMulRmv (rm : Rm) (s : State) : Answer :=
  complete (mulUnsigned s.osz rm) s

/-- IMUL r/mv (R365). -/
def execImulRmv (rm : Rm) (s : State) : Answer :=
  complete (mulSigned s.osz rm) s

/-- DIV r/mv (R367). -/
def execDivRmv (rm : Rm) (s : State) : Answer :=
  complete (divUnsigned s.osz rm) s

/-- IDIV r/mv (R368). -/
def execIdivRmv (rm : Rm) (s : State) : Answer :=
  complete (divSigned s.osz rm) s

/-- IMUL rv, r/mv (R366). -/
def execImulRvRmv (r : Reg) (rm : Rm) (s : State) : Answer :=
  complete (mulInto s.osz r (readReg s.osz r) (readRm s.osz rm)) s

/-- IMUL rv, r/mv, immv (R366). -/
def execImulRvRmvImmv (r : Reg) (rm : Rm) (iv : ImmV) (s : State) : Answer :=
  complete (mulInto s.osz r (readRm s.osz rm) (pure iv.val)) s

/-- IMUL rv, r/mv, imm8 sign-extended (R366). -/
def execImulRvRmvImm8 (r : Reg) (rm : Rm) (ib : Byte) (s : State) : Answer :=
  complete (mulInto s.osz r (readRm s.osz rm) (pure (truncW s.osz (sext8 ib)))) s

/-- DAA (R369). -/
def execDaa (s : State) : Answer :=
  complete (decimalAdjust false) s

/-- DAS (R370). -/
def execDas (s : State) : Answer :=
  complete (decimalAdjust true) s

/-- AAA (R371). -/
def execAaa (s : State) : Answer :=
  complete (asciiAdjust false) s

/-- AAS (R372). -/
def execAas (s : State) : Answer :=
  complete (asciiAdjust true) s

/-- AAM imm8 (R373). -/
def execAam (ib : Byte) (s : State) : Answer :=
  complete (asciiMul ib) s

/-- AAD imm8 (R374). -/
def execAad (ib : Byte) (s : State) : Answer :=
  complete (asciiDiv ib) s

/-- CMPXCHG r/m8, r8 (R375). -/
def execCmpxchgRm8R8 (rm : Rm) (r : Reg) (s : State) : Answer :=
  complete (compareExchange .w8 rm r) s

/-- XADD r/m8, r8 (R376). -/
def execXaddRm8R8 (rm : Rm) (r : Reg) (s : State) : Answer :=
  complete (exchangeAdd .w8 rm r) s

/-- CMPXCHG r/mv, rv (R375). -/
def execCmpxchgRmvRv (rm : Rm) (r : Reg) (s : State) : Answer :=
  complete (compareExchange s.osz rm r) s

/-- XADD r/mv, rv (R376). -/
def execXaddRmvRv (rm : Rm) (r : Reg) (s : State) : Answer :=
  complete (exchangeAdd s.osz rm r) s

end Sys2Proof.Machine
end

