-- ==== Sys2Proof/Machine/Control.lean ====
section
/-! DEFINITION. The meanings of the near control transfer instructions (43_control_transfer.md). -/

namespace Sys2Proof.Machine

/-- A relative branch that is taken when a condition holds (R440 to R444, R453). -/
def branchIf (c : Bool) (d : W32) : M Unit := do
  let s ← get
  jumpTo (bif c then s.relTarget d else s.nextpc)

/-- CALL near: the target is read before the push (R446, R447). -/
def callNear (w : Width) (target : M W32) : M Unit := do
  let t ← target
  let s ← get
  push w s.nextpc
  jumpTo t

/-- RET near, releasing a byte count above the return address (R448, R449). -/
def retNear (w : Width) (imm : W32) : M Unit := do
  let s ← get
  let t ← accRead (s.stackLin s.regs.esp) w.bytes
  upd fun s' => s'.setReg .w32 .esp
    (maskedInto s.stackMask s.regs.esp (s.regs.esp + BitVec.ofNat 32 w.bytes + imm))
  jumpTo t

/-- LOOP, LOOPE, LOOPNE: a test of ZF beside the count (R450 to R452). -/
def countLoop (test : Bool → Bool) (d : W32) : M Unit := do
  let s ← get
  let c := truncW s.asz (s.regs.read s.asz .ecx - 1#32)
  writeReg s.asz .ecx c
  jumpTo (bif c != 0#32 && test s.cc.zf then s.relTarget d else s.nextpc)

/-- The copies of ENTER: `k` words read below the frame pointer `bp`, each pushed below `sp`; the last `sp` (R454). -/
def enterCopies (w : Width) : Nat → W32 → W32 → M W32
  | 0, _, sp => pure sp
  | k + 1, bp, sp => do
    let s ← get
    let n := BitVec.ofNat 32 w.bytes
    let v ← accRead (s.stackLin (bp - n)) w.bytes
    accWrite (s.stackLin (sp - n)) w.bytes v
    enterCopies w k (bp - n) (sp - n)

/-- ENTER (R454). -/
def enterFrame (w : Width) (size : W32) (lvl : Byte) : M Unit := do
  let s ← get
  let n := BitVec.ofNat 32 w.bytes
  let level := lvl.toNat % 32
  let frame := (s.regs.esp - n) &&& s.stackMask
  accWrite (s.stackLin frame) w.bytes (s.regs.read w .ebp)
  let sp ← bif level == 0 then pure frame
    else do
      let sp ← enterCopies w (level - 1) s.regs.ebp frame
      accWrite (s.stackLin (sp - n)) w.bytes frame
      pure (sp - n)
  upd fun s' => s'.setReg w .ebp frame
  upd fun s' => s'.setReg .w32 .esp (maskedInto s.stackMask s.regs.esp (sp - size))
  advance

/-- LEAVE (R455). -/
def leaveFrame (w : Width) : M Unit := do
  let s ← get
  let v ← accRead (s.stackLin s.regs.ebp) w.bytes
  upd fun s' => s'.setReg .w32 .esp (maskedInto s.stackMask s.regs.esp (s.regs.ebp + BitVec.ofNat 32 w.bytes))
  writeReg w .ebp v
  advance

/-- INT n, INT3 and a taken INTO: a delivery that returns to the next instruction (R456 to R458, 60_exceptions.md
R672). -/
def softInterrupt (vector : Byte) : M Unit := do
  let s ← get
  deliver vector true none false s.nextpc

/-- BOUND (R459). -/
def boundCheck (w : Width) (r : Reg) (rm : Rm) : M Unit := do
  let (seg, off) ← locateMem rm
  let s ← get
  let lo ← accRead (s.lin seg off) w.bytes
  let hi ← accRead (s.linAt seg (off + BitVec.ofNat 32 w.bytes)) w.bytes
  let i := signedW w (s.regs.read w r)
  raiseIf (decide (i < signedW w lo) || decide (signedW w hi < i)) .br
  advance

/-! ### One meaning for each constructor -/

/-- Jcc rel8 (R441). -/
def execJccRel8 (cc : Cond) (d8 : Byte) (s : State) : Answer :=
  complete (branchIf (s.cc.cond cc) (sext8 d8)) s

/-- Jcc relv (R442). -/
def execJccRelv (cc : Cond) (dv : ImmV) (s : State) : Answer :=
  complete (branchIf (s.cc.cond cc) (relVal dv)) s

/-- JMP rel8 (R443). -/
def execJmpRel8 (d8 : Byte) (s : State) : Answer :=
  complete (branchIf true (sext8 d8)) s

/-- JMP relv (R444). -/
def execJmpRelv (dv : ImmV) (s : State) : Answer :=
  complete (branchIf true (relVal dv)) s

/-- JMP r/mv (R445). -/
def execJmpRmv (rm : Rm) (s : State) : Answer :=
  complete (do
    let t ← readRm s.osz rm
    jumpTo t) s

/-- CALL relv (R446). -/
def execCallRelv (dv : ImmV) (s : State) : Answer :=
  complete (callNear s.osz (pure (s.relTarget (relVal dv)))) s

/-- CALL r/mv (R447). -/
def execCallRmv (rm : Rm) (s : State) : Answer :=
  complete (callNear s.osz (readRm s.osz rm)) s

/-- RET (R448). -/
def execRet (s : State) : Answer :=
  complete (retNear s.osz 0#32) s

/-- RET imm16 (R449). -/
def execRetImm16 (iw : W16) (s : State) : Answer :=
  complete (retNear s.osz (iw.setWidth 32)) s

/-- LOOP rel8 (R450). -/
def execLoopRel8 (d8 : Byte) (s : State) : Answer :=
  complete (countLoop (fun _ => true) (sext8 d8)) s

/-- LOOPE rel8 (R451). -/
def execLoopeRel8 (d8 : Byte) (s : State) : Answer :=
  complete (countLoop (fun z => z) (sext8 d8)) s

/-- LOOPNE rel8 (R452). -/
def execLoopneRel8 (d8 : Byte) (s : State) : Answer :=
  complete (countLoop (fun z => !z) (sext8 d8)) s

/-- JCXZ and JECXZ rel8 (R453). -/
def execJcxzRel8 (d8 : Byte) (s : State) : Answer :=
  complete (branchIf (s.regs.read s.asz .ecx == 0#32) (sext8 d8)) s

/-- ENTER imm16, imm8 (R454). -/
def execEnter (iw : W16) (lvl : Byte) (s : State) : Answer :=
  complete (enterFrame s.osz (iw.setWidth 32) lvl) s

/-- LEAVE (R455). -/
def execLeave (s : State) : Answer :=
  complete (leaveFrame s.osz) s

/-- INT imm8 (R456). -/
def execIntImm8 (ib : Byte) (s : State) : Answer :=
  complete (softInterrupt ib) s

/-- INT3 (R457). -/
def execInt3 (s : State) : Answer :=
  complete (softInterrupt 3#8) s

/-- INTO (R458). -/
def execInto (s : State) : Answer :=
  complete (bif s.cc.of then softInterrupt 4#8 else advance) s

/-- BOUND rv, m (R459). -/
def execBoundRvM (r : Reg) (rm : Rm) (s : State) : Answer :=
  complete (boundCheck s.osz r rm) s

end Sys2Proof.Machine
end

