-- ==== Sys2Proof/Machine/DataMovement.lean ====
section
/-! DEFINITION. The meanings of the data movement instructions (40_data_movement.md). -/

namespace Sys2Proof.Machine

/-- Push the values of a register list at descending offsets, reading none of them again (R323). -/
def pushRegs (w : Width) : List Reg → W32 → M Unit
  | [], _ => pure ()
  | r :: rs, off => do
    let s ← get
    accWrite (s.stackLin off) w.bytes (s.regs.read w r)
    pushRegs w rs (off - BitVec.ofNat 32 w.bytes)

/-- The registers of PUSHA in the order pushed (R323). -/
def pushaOrder : List Reg := [.eax, .ecx, .edx, .ebx, .esp, .ebp, .esi, .edi]

/-- PUSHA, PUSHAD: the original stack pointer is pushed and it is written once, at the end (R323). -/
def pushAll (w : Width) : M Unit := do
  let s ← get
  pushRegs w pushaOrder (s.regs.esp - BitVec.ofNat 32 w.bytes)
  upd fun s' => s'.setReg .w32 .esp (maskedInto s.stackMask s.regs.esp (s.regs.esp - BitVec.ofNat 32 (8 * w.bytes)))
  advance

/-- The stack items of POPA, the lowest first (R324). -/
def popItems (w : Width) : Nat → W32 → M (List W32)
  | 0, _ => pure []
  | k + 1, off => do
    let s ← get
    let v ← accRead (s.stackLin off) w.bytes
    let vs ← popItems w k (off + BitVec.ofNat 32 w.bytes)
    pure (v :: vs)

/-- Write a list of values to a list of registers at a width. -/
def writeRegs (w : Width) : List Reg → List W32 → Regs → Regs
  | r :: rs, v :: vs, g => writeRegs w rs vs (g.write w r v)
  | _, _, g => g

/-- POPA, POPAD: EDI first, EAX last; the stacked stack pointer is discarded (R324). -/
def popAll (w : Width) : M Unit := do
  let s ← get
  let vs ← popItems w 8 s.regs.esp
  upd fun s' => s'.setRegs (writeRegs w [.edi, .esi, .ebp] vs s'.regs)
  upd fun s' => s'.setRegs (writeRegs w [.ebx, .edx, .ecx, .eax] (vs.drop 4) s'.regs)
  upd fun s' => s'.setReg .w32 .esp (maskedInto s.stackMask s.regs.esp (s.regs.esp + BitVec.ofNat 32 (8 * w.bytes)))
  advance

/-- MOV to an r/m operand (R301, R304). -/
def moveTo (w : Width) (rm : Rm) (v : M W32) : M Unit := do
  let x ← v
  writeRm w rm x
  advance

/-- MOV from an r/m operand to a register, through a conversion (R302, R307, R308). -/
def moveFrom (wd : Width) (r : Reg) (ws : Width) (rm : Rm) (conv : W32 → W32) : M Unit := do
  let v ← readRm ws rm
  writeReg wd r (conv v)
  advance

/-- XCHG of an r/m operand and a register (R309). -/
def exchange (w : Width) (rm : Rm) (r : Reg) : M Unit := do
  let l ← locate rm
  let a ← readLocW w l
  let b ← readReg w r
  writeBack w l a b
  writeReg w r a.val
  advance

/-- XCHG of the accumulator and a register (R310). -/
def exchangeAcc (w : Width) (r : Reg) : M Unit := do
  let a ← readReg w .eax
  let b ← readReg w r
  writeReg w .eax b
  writeReg w r a
  advance

/-- MOV from a direct offset to the accumulator (R305). -/
def loadMoffs (w : Width) (ia : ImmV) : M Unit := do
  let s ← get
  let v ← accRead (s.lin (s.eseg .ds) ia.val) w.bytes
  writeReg w .eax v
  advance

/-- MOV from the accumulator to a direct offset (R306). -/
def storeMoffs (w : Width) (ia : ImmV) : M Unit := do
  let s ← get
  accWrite (s.lin (s.eseg .ds) ia.val) w.bytes (s.regs.read w .eax)
  advance

/-- LEA: the offset itself, no segment base, no access (R311). -/
def loadEffAddr (w : Width) (r : Reg) (rm : Rm) : M Unit := do
  let (_, off) ← locateMem rm
  writeReg w r off
  advance

/-- XLAT (R314). -/
def translateByte : M Unit := do
  let s ← get
  let off := s.reduce (s.regs.ebx + s.regs.read .w8 .eax)
  let v ← accRead (s.lin (s.eseg .ds) off) 1
  writeReg .w8 .eax v
  advance

/-- The bytes of a dword in the opposite order (R315). -/
def swapBytes (v : W32) : W32 :=
  ((v.extractLsb' 0 8 ++ v.extractLsb' 8 8 : BitVec 16) ++ v.extractLsb' 16 8 : BitVec 24) ++ v.extractLsb' 24 8

/-- PUSH of a value read before the push (R318 to R320). -/
def pushValue (w : Width) (v : M W32) : M Unit := do
  let x ← v
  push w x
  advance

/-- POP to a register: the increment first, then the popped value (R321). -/
def popReg (w : Width) (r : Reg) : M Unit := do
  let v ← pop w
  writeReg w r v
  advance

/-- POP to an r/m operand: a memory operand's address is formed with the stack pointer after its increment, which is
written only when the operand has been (R322). -/
def popRm (w : Width) (rm : Rm) : M Unit := do
  let _ ← locate rm
  let s ← get
  let v ← accRead (s.stackLin s.regs.esp) w.bytes
  let new := maskedInto s.stackMask s.regs.esp (s.regs.esp + BitVec.ofNat 32 w.bytes)
  match (s.setReg .w32 .esp new).locOf rm with
  | some (.reg r) =>
    upd fun s' => s'.setReg .w32 .esp new
    writeReg w r v
    advance
  | some (.mem seg off) =>
    writeLoc w (.mem seg off) v
    upd fun s' => s'.setReg .w32 .esp new
    advance
  | none => raise .ud

/-- CMOVcc: the source is read whether or not the condition holds (R325). -/
def condMove (w : Width) (c : Cond) (r : Reg) (rm : Rm) : M Unit := do
  let v ← readRm w rm
  upd fun s => bif s.cc.cond c then s.setReg w r v else s
  advance

/-- SETcc (R326). -/
def condSet (c : Cond) (rm : Rm) : M Unit := do
  let s ← get
  writeRm .w8 rm (atBit (s.cc.cond c) 0)
  advance

/-! ### One meaning for each constructor -/

/-- MOV r/m8, r8 (R301). -/
def execMovRm8R8 (rm : Rm) (r : Reg) (s : State) : Answer :=
  complete (moveTo .w8 rm (readReg .w8 r)) s

/-- MOV r/mv, rv (R301). -/
def execMovRmvRv (rm : Rm) (r : Reg) (s : State) : Answer :=
  complete (moveTo s.osz rm (readReg s.osz r)) s

/-- MOV r8, r/m8 (R302). -/
def execMovR8Rm8 (r : Reg) (rm : Rm) (s : State) : Answer :=
  complete (moveFrom .w8 r .w8 rm id) s

/-- MOV rv, r/mv (R302). -/
def execMovRvRmv (r : Reg) (rm : Rm) (s : State) : Answer :=
  complete (moveFrom s.osz r s.osz rm id) s

/-- MOV r8, imm8 (R303). -/
def execMovR8Imm8 (r : Reg) (ib : Byte) (s : State) : Answer :=
  complete (do writeReg .w8 r (ib.setWidth 32); advance) s

/-- MOV rv, immv (R303). -/
def execMovRvImmv (r : Reg) (iv : ImmV) (s : State) : Answer :=
  complete (do writeReg s.osz r iv.val; advance) s

/-- MOV r/m8, imm8 (R304). -/
def execMovRm8Imm8 (rm : Rm) (ib : Byte) (s : State) : Answer :=
  complete (moveTo .w8 rm (pure (ib.setWidth 32))) s

/-- MOV r/mv, immv (R304). -/
def execMovRmvImmv (rm : Rm) (iv : ImmV) (s : State) : Answer :=
  complete (moveTo s.osz rm (pure iv.val)) s

/-- MOV AL, moffs8 (R305). -/
def execMovAlMoffs (ia : ImmV) (s : State) : Answer :=
  complete (loadMoffs .w8 ia) s

/-- MOV eAX, moffsv (R305). -/
def execMovEaxMoffs (ia : ImmV) (s : State) : Answer :=
  complete (loadMoffs s.osz ia) s

/-- MOV moffs8, AL (R306). -/
def execMovMoffsAl (ia : ImmV) (s : State) : Answer :=
  complete (storeMoffs .w8 ia) s

/-- MOV moffsv, eAX (R306). -/
def execMovMoffsEax (ia : ImmV) (s : State) : Answer :=
  complete (storeMoffs s.osz ia) s

/-- MOVZX rv, r/m8 (R307). -/
def execMovzxRvRm8 (r : Reg) (rm : Rm) (s : State) : Answer :=
  complete (moveFrom s.osz r .w8 rm (truncW .w8)) s

/-- MOVZX rv, r/m16 (R307). -/
def execMovzxRvRm16 (r : Reg) (rm : Rm) (s : State) : Answer :=
  complete (moveFrom s.osz r .w16 rm (truncW .w16)) s

/-- MOVSX rv, r/m8 (R308). -/
def execMovsxRvRm8 (r : Reg) (rm : Rm) (s : State) : Answer :=
  complete (moveFrom s.osz r .w8 rm (sextW .w8)) s

/-- MOVSX rv, r/m16 (R308). -/
def execMovsxRvRm16 (r : Reg) (rm : Rm) (s : State) : Answer :=
  complete (moveFrom s.osz r .w16 rm (sextW .w16)) s

/-- XCHG r/m8, r8 (R309). -/
def execXchgRm8R8 (rm : Rm) (r : Reg) (s : State) : Answer :=
  complete (exchange .w8 rm r) s

/-- XCHG r/mv, rv (R309). -/
def execXchgRmvRv (rm : Rm) (r : Reg) (s : State) : Answer :=
  complete (exchange s.osz rm r) s

/-- XCHG eAX, rv with rv = ECX (R310). -/
def execXchgEaxEcx (s : State) : Answer :=
  complete (exchangeAcc s.osz .ecx) s

/-- XCHG eAX, rv with rv = EDX (R310). -/
def execXchgEaxEdx (s : State) : Answer :=
  complete (exchangeAcc s.osz .edx) s

/-- XCHG eAX, rv with rv = EBX (R310). -/
def execXchgEaxEbx (s : State) : Answer :=
  complete (exchangeAcc s.osz .ebx) s

/-- XCHG eAX, rv with rv = ESP (R310). -/
def execXchgEaxEsp (s : State) : Answer :=
  complete (exchangeAcc s.osz .esp) s

/-- XCHG eAX, rv with rv = EBP (R310). -/
def execXchgEaxEbp (s : State) : Answer :=
  complete (exchangeAcc s.osz .ebp) s

/-- XCHG eAX, rv with rv = ESI (R310). -/
def execXchgEaxEsi (s : State) : Answer :=
  complete (exchangeAcc s.osz .esi) s

/-- XCHG eAX, rv with rv = EDI (R310). -/
def execXchgEaxEdi (s : State) : Answer :=
  complete (exchangeAcc s.osz .edi) s

/-- LEA rv, m (R311). -/
def execLeaRvM (r : Reg) (rm : Rm) (s : State) : Answer :=
  complete (loadEffAddr s.osz r rm) s

/-- CBW and CWDE (R312). -/
def execCbw (s : State) : Answer :=
  complete (do
    let v ← readReg (bif s.osz == .w32 then .w16 else .w8) .eax
    writeReg s.osz .eax (bif s.osz == .w32 then sextW .w16 v else sextW .w8 v)
    advance) s

/-- CWD and CDQ (R313). -/
def execCwd (s : State) : Answer :=
  complete (do
    let v ← readReg s.osz .eax
    writeReg s.osz .edx (bif msbW s.osz v then 0xFFFFFFFF#32 else 0#32)
    advance) s

/-- XLAT (R314). -/
def execXlat (s : State) : Answer :=
  complete (translateByte) s

/-- BSWAP r32, on all 32 bits whatever the operand size (R315). -/
def execBswapR32 (r : Reg) (s : State) : Answer :=
  complete (do
    let v ← readReg .w32 r
    writeReg .w32 r (swapBytes v)
    advance) s

/-- PUSH rv (R318). -/
def execPushRv (r : Reg) (s : State) : Answer :=
  complete (pushValue s.osz (readReg s.osz r)) s

/-- PUSH immv (R319). -/
def execPushImmv (iv : ImmV) (s : State) : Answer :=
  complete (pushValue s.osz (pure iv.val)) s

/-- PUSH imm8, sign-extended (R319). -/
def execPushImm8 (ib : Byte) (s : State) : Answer :=
  complete (pushValue s.osz (pure (sext8 ib))) s

/-- PUSH r/mv (R320). -/
def execPushRmv (rm : Rm) (s : State) : Answer :=
  complete (pushValue s.osz (readRm s.osz rm)) s

/-- POP rv (R321). -/
def execPopRv (r : Reg) (s : State) : Answer :=
  complete (popReg s.osz r) s

/-- POP r/mv (R322). -/
def execPopRmv (rm : Rm) (s : State) : Answer :=
  complete (popRm s.osz rm) s

/-- PUSHA and PUSHAD (R323). -/
def execPusha (s : State) : Answer :=
  complete (pushAll s.osz) s

/-- POPA and POPAD (R324). -/
def execPopa (s : State) : Answer :=
  complete (popAll s.osz) s

/-- CMOVcc rv, r/mv (R325). -/
def execCmovRvRmv (cc : Cond) (r : Reg) (rm : Rm) (s : State) : Answer :=
  complete (condMove s.osz cc r rm) s

/-- SETcc r/m8; the reg field is ignored (R326). -/
def execSetccRm8 (cc : Cond) (_n : BitVec 3) (rm : Rm) (s : State) : Answer :=
  complete (condSet cc rm) s

/-- LAHF (R335). -/
def execLahf (s : State) : Answer :=
  complete (do writeReg .w8 .esp (truncW .w8 (flagsRead s)); advance) s

/-- SAHF (R336). -/
def execSahf (s : State) : Answer :=
  complete (do
    let ah ← readReg .w8 .esp
    updCc fun c => c.setImage ((c.image &&& 0x800#32) ||| (ah &&& 0xD5#32))
    advance) s

end Sys2Proof.Machine
end

