-- ==== Sys2Proof/Machine/FlagMisc.lean ====
section
/-! DEFINITION. The meanings of the flag control and miscellaneous instructions (45_flag_misc.md). -/

namespace Sys2Proof.Machine

/-- Privileged: the first action is this check (47_system.md R600, R534). -/
def privileged : M Unit := do
  let s ← get
  raiseIf (s.cpl != 0#2) (.gp 0#32)

/-- The system flags POPF may change, from the state before it (R530). -/
def popfMask (s : State) : W32 :=
  let m := bif !s.pe || s.cpl == 0#2 then 0x00247300#32
    else bif s.iopl.ult s.cpl then 0x00244100#32 else 0x00244300#32
  bif s.osz == .w16 then m &&& 0x0000FFFF#32 else m

/-- What CPUID leaves in EAX, EBX, ECX and EDX (R536). -/
def cpuidRegs (g : Regs) : Regs :=
  bif g.eax == 0#32 then
    { g with eax := 0x00000001#32, ebx := 0x756E6547#32, edx := 0x49656E69#32, ecx := 0x6C65746E#32 }
  else
    { g with eax := 0x00000543#32, ebx := 0x00000800#32, ecx := 0#32, edx := 0x00000010#32 }

/-! ### One meaning for each constructor -/

/-- CLC (R520). -/
def execClc (s : State) : Answer :=
  complete (do updCc fun c => c.setImage (c.image &&& ~~~0x001#32); advance) s

/-- STC (R521). -/
def execStc (s : State) : Answer :=
  complete (do updCc fun c => c.setImage (c.image ||| 0x001#32); advance) s

/-- CMC (R522). -/
def execCmc (s : State) : Answer :=
  complete (do updCc fun c => c.setImage (c.image ^^^ 0x001#32); advance) s

/-- CLD (R523). -/
def execCld (s : State) : Answer :=
  complete (do upd fun s => s.setDf false; advance) s

/-- STD (R524). -/
def execStd (s : State) : Answer :=
  complete (do upd fun s => s.setDf true; advance) s

/-- CLI (R525). -/
def execCli (s : State) : Answer :=
  complete (do
    ioCheck
    upd fun s => s.setSys (s.eflagsSys &&& ~~~0x00000200#32)
    advance) s

/-- STI (R526). -/
def execSti (s : State) : Answer :=
  complete (do
    ioCheck
    upd fun s => s.setSys (s.eflagsSys ||| 0x00000200#32)
    advance) s

/-- PUSHF and PUSHFD (R527). -/
def execPushf (s : State) : Answer :=
  complete (do push s.osz (flagsRead s); advance) s

/-- POPF and POPFD (R530). -/
def execPopf (s : State) : Answer :=
  complete (do
    let v ← pop s.osz
    upd fun t => flagsWrite t v (popfMask s)
    advance) s

/-- NOP (R533). -/
def execNop (s : State) : Answer :=
  complete (advance) s

/-- HLT (R534). -/
def execHlt (s : State) : Answer :=
  complete (do privileged; upd fun s => s.setHalted true; advance) s

/-- CPUID (R536). -/
def execCpuid (s : State) : Answer :=
  complete (do upd fun s => s.setRegs (cpuidRegs s.regs); advance) s

/-- RDTSC (R537). -/
def execRdtsc (s : State) : Answer :=
  complete (do
    raiseIf (s.cr4.getLsbD 2 && s.cpl != 0#2) (.gp 0#32)
    writeReg .w32 .eax (s.cycleCount.extractLsb' 0 32)
    writeReg .w32 .edx (s.cycleCount.extractLsb' 32 32)
    advance) s

/-- The escape opcodes D8 to DF, skipped unless CR0.EM or CR0.TS is set; the operand is not accessed (R538). -/
def execEsc (_esc : BitVec 3) (_n : BitVec 3) (_rm : Rm) (s : State) : Answer :=
  complete (do raiseIf (s.cr0.getLsbD 2 || s.cr0.getLsbD 3) .nm; advance) s

/-- FWAIT (R539). -/
def execFwait (s : State) : Answer :=
  complete (do raiseIf (s.cr0.getLsbD 1 && s.cr0.getLsbD 3) .nm; advance) s

end Sys2Proof.Machine
end

