-- ==== Sys2Proof/Machine/Pfx.lean ====
section
/-! DEFINITION. The meanings of the prefixes, each a change of the decode state (30_encoding.md R222 to R225). -/

namespace Sys2Proof.Machine

/-- A change of the decode state (R222). -/
def updDec (f : DecodeState → DecodeState) : M Unit := upd fun s => s.setDec (f s.dec)

/-! ### One meaning for each constructor -/

/-- 26: ES override (R222, R223). -/
def execPfxEs (s : State) : Answer :=
  complete (updDec fun d => { d with segOvr := some .es }) s

/-- 2E: CS override (R222, R223). -/
def execPfxCs (s : State) : Answer :=
  complete (updDec fun d => { d with segOvr := some .cs }) s

/-- 36: SS override (R222, R223). -/
def execPfxSs (s : State) : Answer :=
  complete (updDec fun d => { d with segOvr := some .ss }) s

/-- 3E: DS override (R222, R223). -/
def execPfxDs (s : State) : Answer :=
  complete (updDec fun d => { d with segOvr := some .ds }) s

/-- 64: FS override (R222, R223). -/
def execPfxFs (s : State) : Answer :=
  complete (updDec fun d => { d with segOvr := some .fs }) s

/-- 65: GS override (R222, R223). -/
def execPfxGs (s : State) : Answer :=
  complete (updDec fun d => { d with segOvr := some .gs }) s

/-- 66: operand-size override (R222, R223). -/
def execPfxOpsize (s : State) : Answer :=
  complete (updDec fun d => { d with opsizeOvr := true }) s

/-- 67: address-size override (R222, R223). -/
def execPfxAddrsize (s : State) : Answer :=
  complete (updDec fun d => { d with addrsizeOvr := true }) s

/-- F2: REPNE, REPNZ (R222, R223). -/
def execPfxRepne (s : State) : Answer :=
  complete (updDec fun d => { d with rep := some .repne }) s

/-- F3: REP, REPE, REPZ (R222, R223). -/
def execPfxRep (s : State) : Answer :=
  complete (updDec fun d => { d with rep := some .repe }) s

/-- F0: LOCK, which has no further effect (R225) (R222, R223). -/
def execPfxLock (s : State) : Answer :=
  complete (updDec fun d => { d with lock := true }) s

end Sys2Proof.Machine
end

