-- ==== Sys2Proof/Machine/SegFar.lean ====
section
/-! DEFINITION. The meanings of the segment register and far control transfer instructions (46_segment_far.md). -/

namespace Sys2Proof.Machine

/-- A selector to an r/m operand (R561; 47_system.md R610, R611). -/
def storeSelector (w : Width) (rm : Rm) (n : Sreg) : M Unit := do
  let s ← get
  storeWord w rm ((s.segs.get n).sel.setWidth 32)
  advance

/-- PUSH Sreg, zero-extended to the operand size (R563). -/
def pushSelector (w : Width) (n : Sreg) : M Unit := do
  let s ← get
  push w ((s.segs.get n).sel.setWidth 32)
  advance

/-- POP Sreg: the stack mask is taken before the load (R564). -/
def popSelector (w : Width) (n : Sreg) : M Unit := do
  let s ← get
  let v ← accRead (s.stackLin s.regs.esp) w.bytes
  loadSeg n (v.setWidth 16)
  upd fun s' => s'.setReg .w32 .esp (maskedInto s.stackMask s.regs.esp (s.regs.esp + BitVec.ofNat 32 w.bytes))
  advance

/-- A far pointer in memory: selector and offset; a register form raises the invalid-opcode exception (R560, R565). -/
def readFarPointer (w : Width) (rm : Rm) : M (W16 × W32) := do
  let (seg, off) ← locateMem rm
  let s ← get
  let o ← accRead (s.lin seg off) w.bytes
  let sel ← accRead (s.linAt seg (off + BitVec.ofNat 32 w.bytes)) 2
  pure (sel.setWidth 16, o)

/-- LDS, LES, LFS, LGS, LSS: the general register is written after the segment load (R565). -/
def loadFarPointer (w : Width) (n : Sreg) (r : Reg) (rm : Rm) : M Unit := do
  let p ← readFarPointer w rm
  loadSeg n p.1
  writeReg w r p.2
  advance

/-- A far JMP or CALL to a system descriptor that is not a call gate (R575). -/
def farSystem {α : Type} (sel : W16) (e2 : W32) : M α :=
  let ty := sysTypeOf e2
  bif ty == 5#4 then abort .unsupportedTaskGate
  else bif ty == 1#4 || ty == 3#4 || ty == 9#4 || ty == 11#4 then abort .unsupportedTaskSwitch
  else raise (.gp (ecSel sel))

/-- The checks on a code segment that a far JMP or CALL names directly, with the limit check (R574, R576). -/
def farCodeChecks (sel : W16) (off : W32) (d : Desc) : M Unit := do
  let s ← get
  raiseIf (!d.e2.getLsbD 11) (.gp (ecSel sel))
  raiseIf (bif d.e2.getLsbD 10 then s.cpl.ult (dplOf d.e2)
    else s.cpl.ult (selRpl sel) || dplOf d.e2 != s.cpl) (.gp (ecSel sel))
  raiseIf (!d.e2.getLsbD 15) (.np (ecSel sel))
  raiseIf ((descLimit d.e1 d.e2).ult off) (.gp 0#32)

/-- FarJmpProt(sel, off) (R574 to R576). -/
def farJumpProt (sel : W16) (off : W32) : M Unit := do
  let s ← get
  raiseIf (selNull sel) (.gp 0#32)
  let d ← descReadOr sel (.gp (ecSel sel))
  bif !d.e2.getLsbD 12 then
    (bif sysTypeOf d.e2 == 4#4 || sysTypeOf d.e2 == 12#4 then abort .unsupportedGateJump else farSystem sel d.e2)
  else do
    farCodeChecks sel off d
    markAccessed d
    setSegFrom .cs (selWithRpl sel s.cpl) d
    jumpTo off

/-- Far JMP (R568, R569, R573). -/
def farJump (sel : W16) (off : W32) : M Unit := do
  let s ← get
  bif !s.pe then do
    loadSegReal .cs sel
    jumpTo off
  else farJumpProt sel off

/-- The two pushes of a far CALL on the current stack, CS then the return offset, and the stack pointer after them
(R577 to R579). -/
def pushReturn (w : Width) : M Unit := do
  let s ← get
  let n := BitVec.ofNat 32 w.bytes
  accWrite (s.stackLin (s.regs.esp - n)) w.bytes (s.segs.cs.sel.setWidth 32)
  accWrite (s.stackLin (s.regs.esp - n - n)) w.bytes s.nextpc
  upd fun s' => s'.setReg .w32 .esp (maskedInto s.stackMask s.regs.esp (s.regs.esp - n - n))

/-- The parameters a call gate copies, read from the old stack, the one at the highest address first, each pushed on
the new stack as it is read (R580). -/
def copyParams (w : Width) (osp nb nm : W32) : Nat → W32 → M W32
  | 0, p => pure p
  | k + 1, p => do
    let s ← get
    let v ← accRead (s.stackLin (osp + BitVec.ofNat 32 (k * w.bytes))) w.bytes
    let p' ← pushList true nb nm w.bytes p [v]
    copyParams w osp nb nm k p'

/-- A far CALL through a call gate to an inner level (R580). -/
def callGateInner (gw : Width) (tsel : W16) (toff : W32) (count : Nat) (t : Desc) : M Unit := do
  let s ← get
  let i ← innerStack (dplOf t.e2)
  raiseIf ((descLimit t.e1 t.e2).ult toff) (.gp 0#32)
  markAccessed i.desc
  markAccessed t
  let nm := maskOfRights i.desc.e2
  let nb := descBase i.desc.e1 i.desc.e2
  let p1 ← pushList true nb nm gw.bytes (i.nesp &&& nm) [s.segs.ss.sel.setWidth 32, s.regs.esp]
  let p2 ← copyParams gw s.regs.esp nb nm count p1
  let p3 ← pushList true nb nm gw.bytes p2 [s.segs.cs.sel.setWidth 32, s.nextpc]
  setSegFrom .ss (selWithRpl i.nss (dplOf t.e2)) i.desc
  upd fun s' => s'.setReg .w32 .esp (maskedInto nm s.regs.esp p3)
  upd fun s' => s'.setCpl (dplOf t.e2)
  setSegFrom .cs (selWithRpl tsel (dplOf t.e2)) t
  jumpTo toff

/-- A far CALL through a call gate (R579); the widths come from the gate. -/
def callGate (sel : W16) (g : Desc) : M Unit := do
  let s ← get
  raiseIf ((dplOf g.e2).ult s.cpl || (dplOf g.e2).ult (selRpl sel)) (.gp (ecSel sel))
  raiseIf (!g.e2.getLsbD 15) (.np (ecSel sel))
  let gw : Width := bif sysTypeOf g.e2 == 12#4 then .w32 else .w16
  let tsel : W16 := g.e1.extractLsb' 16 16
  let toff : W32 := bif gw == .w32 then (g.e2.extractLsb' 16 16 ++ g.e1.extractLsb' 0 16) else truncW .w16 g.e1
  let t ← gateTarget tsel
  bif goesInner s t then callGateInner gw tsel toff (g.e2.extractLsb' 0 5).toNat t
  else do
    raiseIf ((descLimit t.e1 t.e2).ult toff) (.gp 0#32)
    markAccessed t
    pushReturn gw
    setSegFrom .cs (selWithRpl tsel s.cpl) t
    jumpTo toff

/-- FarCallProt(sel, off) (R575, R578). -/
def farCallProt (w : Width) (sel : W16) (off : W32) : M Unit := do
  let s ← get
  raiseIf (selNull sel) (.gp 0#32)
  let d ← descReadOr sel (.gp (ecSel sel))
  bif !d.e2.getLsbD 12 then
    (bif sysTypeOf d.e2 == 4#4 || sysTypeOf d.e2 == 12#4 then callGate sel d else farSystem sel d.e2)
  else do
    farCodeChecks sel off d
    markAccessed d
    pushReturn w
    setSegFrom .cs (selWithRpl sel s.cpl) d
    jumpTo off

/-- Far CALL (R570, R571, R577). -/
def farCall (w : Width) (sel : W16) (off : W32) : M Unit := do
  let s ← get
  bif !s.pe then do
    pushReturn w
    loadSegReal .cs sel
    jumpTo off
  else farCallProt w sel off

/-- Far RET (R572, R581, R582). -/
def farReturn (w : Width) (imm : W32) : M Unit := do
  let s ← get
  bif !s.pe then do
    let n := BitVec.ofNat 32 w.bytes
    let off ← accRead (s.stackLin s.regs.esp) w.bytes
    let sel ← accRead (s.stackLin (s.regs.esp + n)) w.bytes
    upd fun s' => s'.setReg .w32 .esp (maskedInto s.stackMask s.regs.esp (s.regs.esp + n + n + imm))
    loadSegReal .cs (sel.setWidth 16)
    jumpTo off
  else returnProt false imm

/-! ### One meaning for each constructor -/

/-- MOV r/m16, Sreg; a bad register number ended decoding (R561). -/
def execMovRm16Sreg (rm : Rm) (n : BitVec 3) (s : State) : Answer :=
  complete (storeSelector s.osz rm (Sreg.ofNum n)) s

/-- MOV Sreg, r/m16; a bad register number ended decoding (R562). -/
def execMovSregRm16 (n : BitVec 3) (rm : Rm) (s : State) : Answer :=
  complete (do
    let v ← readRm .w16 rm
    loadSeg (Sreg.ofNum n) (v.setWidth 16)
    advance) s

/-- PUSH ES (R563). -/
def execPushEs (s : State) : Answer :=
  complete (pushSelector s.osz .es) s

/-- PUSH CS (R563). -/
def execPushCs (s : State) : Answer :=
  complete (pushSelector s.osz .cs) s

/-- PUSH SS (R563). -/
def execPushSs (s : State) : Answer :=
  complete (pushSelector s.osz .ss) s

/-- PUSH DS (R563). -/
def execPushDs (s : State) : Answer :=
  complete (pushSelector s.osz .ds) s

/-- PUSH FS (R563). -/
def execPushFs (s : State) : Answer :=
  complete (pushSelector s.osz .fs) s

/-- PUSH GS (R563). -/
def execPushGs (s : State) : Answer :=
  complete (pushSelector s.osz .gs) s

/-- POP ES (R564). -/
def execPopEs (s : State) : Answer :=
  complete (popSelector s.osz .es) s

/-- POP SS (R564). -/
def execPopSs (s : State) : Answer :=
  complete (popSelector s.osz .ss) s

/-- POP DS (R564). -/
def execPopDs (s : State) : Answer :=
  complete (popSelector s.osz .ds) s

/-- POP FS (R564). -/
def execPopFs (s : State) : Answer :=
  complete (popSelector s.osz .fs) s

/-- POP GS (R564). -/
def execPopGs (s : State) : Answer :=
  complete (popSelector s.osz .gs) s

/-- LES rv, m16:v (R565). -/
def execLesRvM (r : Reg) (rm : Rm) (s : State) : Answer :=
  complete (loadFarPointer s.osz .es r rm) s

/-- LDS rv, m16:v (R565). -/
def execLdsRvM (r : Reg) (rm : Rm) (s : State) : Answer :=
  complete (loadFarPointer s.osz .ds r rm) s

/-- LFS rv, m16:v (R565). -/
def execLfsRvM (r : Reg) (rm : Rm) (s : State) : Answer :=
  complete (loadFarPointer s.osz .fs r rm) s

/-- LGS rv, m16:v (R565). -/
def execLgsRvM (r : Reg) (rm : Rm) (s : State) : Answer :=
  complete (loadFarPointer s.osz .gs r rm) s

/-- LSS rv, m16:v (R565). -/
def execLssRvM (r : Reg) (rm : Rm) (s : State) : Answer :=
  complete (loadFarPointer s.osz .ss r rm) s

/-- JMP ptr16:v (R568). -/
def execJmpPtr (off : ImmV) (sel : W16) (s : State) : Answer :=
  complete (farJump sel off.val) s

/-- JMP m16:v (R569). -/
def execJmpM (rm : Rm) (s : State) : Answer :=
  complete (do
    let p ← readFarPointer s.osz rm
    farJump p.1 p.2) s

/-- CALL ptr16:v (R570). -/
def execCallPtr (off : ImmV) (sel : W16) (s : State) : Answer :=
  complete (farCall s.osz sel off.val) s

/-- CALL m16:v (R571). -/
def execCallM (rm : Rm) (s : State) : Answer :=
  complete (do
    let p ← readFarPointer s.osz rm
    farCall s.osz p.1 p.2) s

/-- RETF (R572). -/
def execRetf (s : State) : Answer :=
  complete (farReturn s.osz 0#32) s

/-- RETF imm16 (R572). -/
def execRetfImm16 (iw : W16) (s : State) : Answer :=
  complete (farReturn s.osz (iw.setWidth 32)) s

/-- IRET and IRETD (R589 to R592). -/
def execIret (s : State) : Answer :=
  complete (returnFromException) s

end Sys2Proof.Machine
end

