-- ==== Sys2Proof/Machine/Shift.lean ====
section
/-! DEFINITION. The meanings of the shift, rotate and bit instructions (42_shift_rotate_bit.md). -/

namespace Sys2Proof.Machine

/-- The seven operations of group 2 (R400). -/
inductive ShiftOp where
  | rol | ror | rcl | rcr | shl | shr | sar
deriving DecidableEq, Repr

/-- n: the raw count modulo 32 (R400). -/
def shiftCount (raw : W32) : Nat := (raw &&& 0x1F#32).toNat

/-- The count of a rotation: modulo w for ROL and ROR, modulo w + 1 for RCL and RCR at widths 8 and 16
(R401 to R404). -/
def rotateCount (op : ShiftOp) (w : Width) (n : Nat) : Nat :=
  match op with
  | .rol => n % w.bits
  | .ror => n % w.bits
  | .rcl => n % (w.bits + 1)
  | .rcr => n % (w.bits + 1)
  | _ => n

/-- A shift or rotation that has no effect, on the operand or on any flag (R401 to R407). -/
def shiftIdle (op : ShiftOp) (w : Width) (n : Nat) : Bool :=
  match op with
  | .rcl => rotateCount op w n == 0
  | .rcr => rotateCount op w n == 0
  | _ => n == 0

/-- The w + 1 bits { CF, x } rotated left by m (R403). -/
def rotateThroughCarry (w : Width) (cf : Bool) (x : W32) (m : Nat) : BitVec 64 :=
  let t : BitVec 64 := (truncW w x).setWidth 64 ||| (bif cf then 1#64 <<< w.bits else 0#64)
  (t <<< m) ||| (t >>> (w.bits + 1 - m))

/-- The bits of { CF, x } rotated by a count, left for RCL and right for RCR (R403, R404). -/
def carryRotated (op : ShiftOp) (w : Width) (cf : Bool) (x : W32) (n : Nat) : BitVec 64 :=
  bif op == .rcl then rotateThroughCarry w cf x (rotateCount op w n)
  else rotateThroughCarry w cf x (w.bits + 1 - rotateCount op w n)

/-- The result r of a shift or rotation that has an effect (R401 to R407). -/
def shiftResult (op : ShiftOp) (w : Width) (cf : Bool) (x : W32) (n : Nat) : W32 :=
  let m := rotateCount op w n
  match op with
  | .rol => truncW w ((truncW w x <<< m) ||| (truncW w x >>> (w.bits - m)))
  | .ror => truncW w ((truncW w x >>> m) ||| (truncW w x <<< (w.bits - m)))
  | .rcl => truncW w ((carryRotated .rcl w cf x n).setWidth 32)
  | .rcr => truncW w ((carryRotated .rcr w cf x n).setWidth 32)
  | .shl => truncW w (x <<< n)
  | .shr => truncW w x >>> n
  | .sar => truncW w ((sextW w x).sshiftRight n)

/-- A rotation changes CF and OF alone (R401 to R404). -/
def rotateFlags (c : CC) (cf ovf : Bool) : CC :=
  c.setImage ((c.image &&& ~~~0x801#32) ||| atBit cf 0 ||| atBit ovf 11)

/-- The flags a shift or rotation that has an effect leaves (R401 to R407). -/
def shiftFlags (op : ShiftOp) (w : Width) (c : CC) (x : W32) (n : Nat) : CC :=
  let r := shiftResult op w c.cf x n
  match op with
  | .rol => rotateFlags c (r.getLsbD 0) (msbW w r ^^ r.getLsbD 0)
  | .ror => rotateFlags c (msbW w r) (msbW w r ^^ r.getLsbD (w.bits - 2))
  | .rcl =>
    let cf := (carryRotated .rcl w c.cf x n).getLsbD w.bits
    rotateFlags c cf (msbW w r ^^ cf)
  | .rcr => rotateFlags c ((carryRotated .rcr w c.cf x n).getLsbD w.bits) (msbW w r ^^ r.getLsbD (w.bits - 2))
  | .shl => c.record .shl w r (truncW w x <<< (n - 1))
  | .shr => c.record .shr w r (truncW w x >>> (n - 1))
  | .sar => c.record .sar w r ((sextW w x).sshiftRight (n - 1))

/-- A shift or rotation of an r/m operand; it is written back also when the count is 0 (R400). -/
def shiftRm (op : ShiftOp) (w : Width) (rm : Rm) (count : M W32) : M Unit := do
  let l ← locate rm
  let x ← readLocW w l
  let raw ← count
  let s ← get
  let n := shiftCount raw
  bif shiftIdle op w n then do
    writeBack w l x x.val
    advance
  else do
    writeBack w l x (shiftResult op w s.cc.cf x.val n)
    updCc fun c => shiftFlags op w c x.val n
    advance

/-- T of the 16-bit double shifts, { a, b, a } (R408, R409). -/
def doubleTriple (a b : W32) : BitVec 48 := (a.setWidth 16 ++ b.setWidth 16 : BitVec 32) ++ a.setWidth 16

/-- The result of SHLD (left) or SHRD by n, 1 to 31, at width 32 or 16 (R408, R409). -/
def doubleResult (left : Bool) (w : Width) (a b : W32) (n : Nat) : W32 :=
  bif w == .w32 then
    (bif left then (a <<< n) ||| (b >>> (32 - n)) else (a >>> n) ||| (b <<< (32 - n)))
  else
    (bif left then truncW .w16 ((doubleTriple a b >>> (32 - n)).setWidth 32)
     else truncW .w16 ((doubleTriple a b >>> n).setWidth 32))

/-- CF of SHLD or SHRD by n, 1 to 31 (R408, R409). -/
def doubleCarry (left : Bool) (w : Width) (a b : W32) (n : Nat) : Bool :=
  bif w == .w32 then (bif left then a.getLsbD (32 - n) else a.getLsbD (n - 1))
  else (bif left then (doubleTriple a b).getLsbD (48 - n) else (doubleTriple a b).getLsbD (n - 1))

/-- The flag image SHLD and SHRD leave: AF 0, OF the change of sign (R408). -/
def doubleImage (w : Width) (a r : W32) (cf : Bool) : W32 :=
  atBit cf 0 ||| atBit (parity8 r) 2 ||| atBit (r == 0#32) 6 ||| atBit (msbW w r) 7
    ||| atBit (msbW w r ^^ msbW w a) 11

/-- SHLD and SHRD (R408, R409). -/
def doubleShift (left : Bool) (w : Width) (rm : Rm) (r : Reg) (count : M W32) : M Unit := do
  let raw ← count
  let l ← locate rm
  let a ← readLocW w l
  let b ← readReg w r
  let n := shiftCount raw
  bif n == 0 then do
    writeBack w l a a.val
    advance
  else do
    let v := doubleResult left w a.val b n
    writeBack w l a v
    updCc fun c => c.setImage (doubleImage w a.val v (doubleCarry left w a.val b n))
    advance

/-- The word that a bit instruction with an immediate index acts on, and the bit in it (R414). -/
def bitByImm (w : Width) (rm : Rm) (ib : Byte) : M (Loc × Nat) := do
  let l ← locate rm
  pure (l, ib.toNat % w.bits)

/-- log2 of the width. -/
def widthLog2 : Width → Nat
  | .w8 => 3
  | .w16 => 4
  | .w32 => 5

/-- The word that a bit instruction with a register index acts on, and the bit in it: in memory the signed index selects
the word (R414). -/
def bitByReg (w : Width) (rm : Rm) (r : Reg) : M (Loc × Nat) := do
  let l ← locate rm
  let s ← get
  let b := s.regs.read w r
  match l with
  | .reg q => pure (.reg q, b.toNat % w.bits)
  | .mem seg off =>
    let k : W32 := (sextW w b).sshiftRight (widthLog2 w)
    pure (.mem seg (s.reduce (off + k * BitVec.ofNat 32 w.bytes)), b.toNat % w.bits)

/-- CF <- v[i], the other five flags unchanged (R410). -/
def bitFlags (c : CC) (bit : Bool) : CC := c.setImage ((c.image &&& ~~~1#32) ||| atBit bit 0)

/-- BT (R410). -/
def bitTest (w : Width) (place : M (Loc × Nat)) : M Unit := do
  let (l, i) ← place
  let v ← readLoc w l
  updCc fun c => bitFlags c (v.getLsbD i)
  advance

/-- What BTS, BTR and BTC do to the bit (R411 to R413). -/
inductive BitOp where
  | put | clear | flip
deriving DecidableEq, Repr

/-- The word with the bit set, cleared or complemented (R411 to R413). -/
def bitResult (op : BitOp) (v : W32) (i : Nat) : W32 :=
  match op with
  | .put => v ||| (1#32 <<< i)
  | .clear => v &&& ~~~(1#32 <<< i)
  | .flip => v ^^^ (1#32 <<< i)

/-- BTS, BTR, BTC (R411 to R413). -/
def bitModify (op : BitOp) (w : Width) (place : M (Loc × Nat)) : M Unit := do
  let (l, i) ← place
  let v ← readLocW w l
  writeBack w l v (bitResult op v.val i)
  updCc fun c => bitFlags c (v.val.getLsbD i)
  advance

/-- The least bit position below k that is set, else the answer for none. -/
def lowestFrom (v : W32) : Nat → Nat → Nat
  | 0, i => i
  | k + 1, i => bif v.getLsbD i then i else lowestFrom v k (i + 1)

/-- The least i with v[i] = 1, v not 0 (R415). -/
def lowestBit (v : W32) : Nat := lowestFrom v 31 0

/-- The greatest bit position at or below k that is set. -/
def highestFrom (v : W32) : Nat → Nat
  | 0 => 0
  | k + 1 => bif v.getLsbD (k + 1) then k + 1 else highestFrom v k

/-- The greatest i with v[i] = 1, v not 0 (R416). -/
def highestBit (v : W32) : Nat := highestFrom v 31

/-- BSF and BSR: a source of 0 sets ZF and leaves the destination (R415, R416). -/
def bitScan (pick : W32 → Nat) (w : Width) (r : Reg) (rm : Rm) : M Unit := do
  let v ← readRm w rm
  bif v == 0#32 then do
    updCc fun c => c.setImage (c.image ||| 0x40#32)
    advance
  else do
    writeReg w r (BitVec.ofNat 32 (pick v))
    updCc fun c => c.setImage (c.image &&& ~~~0x40#32)
    advance

/-! ### One meaning for each constructor -/

/-- ROL r/m8, imm8 (R400, R401). -/
def execRolRm8Imm8 (rm : Rm) (ib : Byte) (s : State) : Answer :=
  complete (shiftRm .rol .w8 rm (pure (ib.setWidth 32))) s

/-- ROL r/mv, imm8 (R400, R401). -/
def execRolRmvImm8 (rm : Rm) (ib : Byte) (s : State) : Answer :=
  complete (shiftRm .rol s.osz rm (pure (ib.setWidth 32))) s

/-- ROL r/m8, 1 (R400, R401). -/
def execRolRm8One (rm : Rm) (s : State) : Answer :=
  complete (shiftRm .rol .w8 rm (pure 1#32)) s

/-- ROL r/mv, 1 (R400, R401). -/
def execRolRmvOne (rm : Rm) (s : State) : Answer :=
  complete (shiftRm .rol s.osz rm (pure 1#32)) s

/-- ROL r/m8, CL (R400, R401). -/
def execRolRm8Cl (rm : Rm) (s : State) : Answer :=
  complete (shiftRm .rol .w8 rm (readReg .w8 .ecx)) s

/-- ROL r/mv, CL (R400, R401). -/
def execRolRmvCl (rm : Rm) (s : State) : Answer :=
  complete (shiftRm .rol s.osz rm (readReg .w8 .ecx)) s

/-- ROR r/m8, imm8 (R400, R402). -/
def execRorRm8Imm8 (rm : Rm) (ib : Byte) (s : State) : Answer :=
  complete (shiftRm .ror .w8 rm (pure (ib.setWidth 32))) s

/-- ROR r/mv, imm8 (R400, R402). -/
def execRorRmvImm8 (rm : Rm) (ib : Byte) (s : State) : Answer :=
  complete (shiftRm .ror s.osz rm (pure (ib.setWidth 32))) s

/-- ROR r/m8, 1 (R400, R402). -/
def execRorRm8One (rm : Rm) (s : State) : Answer :=
  complete (shiftRm .ror .w8 rm (pure 1#32)) s

/-- ROR r/mv, 1 (R400, R402). -/
def execRorRmvOne (rm : Rm) (s : State) : Answer :=
  complete (shiftRm .ror s.osz rm (pure 1#32)) s

/-- ROR r/m8, CL (R400, R402). -/
def execRorRm8Cl (rm : Rm) (s : State) : Answer :=
  complete (shiftRm .ror .w8 rm (readReg .w8 .ecx)) s

/-- ROR r/mv, CL (R400, R402). -/
def execRorRmvCl (rm : Rm) (s : State) : Answer :=
  complete (shiftRm .ror s.osz rm (readReg .w8 .ecx)) s

/-- RCL r/m8, imm8 (R400, R403). -/
def execRclRm8Imm8 (rm : Rm) (ib : Byte) (s : State) : Answer :=
  complete (shiftRm .rcl .w8 rm (pure (ib.setWidth 32))) s

/-- RCL r/mv, imm8 (R400, R403). -/
def execRclRmvImm8 (rm : Rm) (ib : Byte) (s : State) : Answer :=
  complete (shiftRm .rcl s.osz rm (pure (ib.setWidth 32))) s

/-- RCL r/m8, 1 (R400, R403). -/
def execRclRm8One (rm : Rm) (s : State) : Answer :=
  complete (shiftRm .rcl .w8 rm (pure 1#32)) s

/-- RCL r/mv, 1 (R400, R403). -/
def execRclRmvOne (rm : Rm) (s : State) : Answer :=
  complete (shiftRm .rcl s.osz rm (pure 1#32)) s

/-- RCL r/m8, CL (R400, R403). -/
def execRclRm8Cl (rm : Rm) (s : State) : Answer :=
  complete (shiftRm .rcl .w8 rm (readReg .w8 .ecx)) s

/-- RCL r/mv, CL (R400, R403). -/
def execRclRmvCl (rm : Rm) (s : State) : Answer :=
  complete (shiftRm .rcl s.osz rm (readReg .w8 .ecx)) s

/-- RCR r/m8, imm8 (R400, R404). -/
def execRcrRm8Imm8 (rm : Rm) (ib : Byte) (s : State) : Answer :=
  complete (shiftRm .rcr .w8 rm (pure (ib.setWidth 32))) s

/-- RCR r/mv, imm8 (R400, R404). -/
def execRcrRmvImm8 (rm : Rm) (ib : Byte) (s : State) : Answer :=
  complete (shiftRm .rcr s.osz rm (pure (ib.setWidth 32))) s

/-- RCR r/m8, 1 (R400, R404). -/
def execRcrRm8One (rm : Rm) (s : State) : Answer :=
  complete (shiftRm .rcr .w8 rm (pure 1#32)) s

/-- RCR r/mv, 1 (R400, R404). -/
def execRcrRmvOne (rm : Rm) (s : State) : Answer :=
  complete (shiftRm .rcr s.osz rm (pure 1#32)) s

/-- RCR r/m8, CL (R400, R404). -/
def execRcrRm8Cl (rm : Rm) (s : State) : Answer :=
  complete (shiftRm .rcr .w8 rm (readReg .w8 .ecx)) s

/-- RCR r/mv, CL (R400, R404). -/
def execRcrRmvCl (rm : Rm) (s : State) : Answer :=
  complete (shiftRm .rcr s.osz rm (readReg .w8 .ecx)) s

/-- SHL r/m8, imm8 (R400, R405). -/
def execShlRm8Imm8 (rm : Rm) (ib : Byte) (s : State) : Answer :=
  complete (shiftRm .shl .w8 rm (pure (ib.setWidth 32))) s

/-- SHL r/mv, imm8 (R400, R405). -/
def execShlRmvImm8 (rm : Rm) (ib : Byte) (s : State) : Answer :=
  complete (shiftRm .shl s.osz rm (pure (ib.setWidth 32))) s

/-- SHL r/m8, 1 (R400, R405). -/
def execShlRm8One (rm : Rm) (s : State) : Answer :=
  complete (shiftRm .shl .w8 rm (pure 1#32)) s

/-- SHL r/mv, 1 (R400, R405). -/
def execShlRmvOne (rm : Rm) (s : State) : Answer :=
  complete (shiftRm .shl s.osz rm (pure 1#32)) s

/-- SHL r/m8, CL (R400, R405). -/
def execShlRm8Cl (rm : Rm) (s : State) : Answer :=
  complete (shiftRm .shl .w8 rm (readReg .w8 .ecx)) s

/-- SHL r/mv, CL (R400, R405). -/
def execShlRmvCl (rm : Rm) (s : State) : Answer :=
  complete (shiftRm .shl s.osz rm (readReg .w8 .ecx)) s

/-- SHR r/m8, imm8 (R400, R406). -/
def execShrRm8Imm8 (rm : Rm) (ib : Byte) (s : State) : Answer :=
  complete (shiftRm .shr .w8 rm (pure (ib.setWidth 32))) s

/-- SHR r/mv, imm8 (R400, R406). -/
def execShrRmvImm8 (rm : Rm) (ib : Byte) (s : State) : Answer :=
  complete (shiftRm .shr s.osz rm (pure (ib.setWidth 32))) s

/-- SHR r/m8, 1 (R400, R406). -/
def execShrRm8One (rm : Rm) (s : State) : Answer :=
  complete (shiftRm .shr .w8 rm (pure 1#32)) s

/-- SHR r/mv, 1 (R400, R406). -/
def execShrRmvOne (rm : Rm) (s : State) : Answer :=
  complete (shiftRm .shr s.osz rm (pure 1#32)) s

/-- SHR r/m8, CL (R400, R406). -/
def execShrRm8Cl (rm : Rm) (s : State) : Answer :=
  complete (shiftRm .shr .w8 rm (readReg .w8 .ecx)) s

/-- SHR r/mv, CL (R400, R406). -/
def execShrRmvCl (rm : Rm) (s : State) : Answer :=
  complete (shiftRm .shr s.osz rm (readReg .w8 .ecx)) s

/-- SHL r/m8, imm8, the /6 encoding (R400, R405). -/
def execSalRm8Imm8 (rm : Rm) (ib : Byte) (s : State) : Answer :=
  complete (shiftRm .shl .w8 rm (pure (ib.setWidth 32))) s

/-- SHL r/mv, imm8, the /6 encoding (R400, R405). -/
def execSalRmvImm8 (rm : Rm) (ib : Byte) (s : State) : Answer :=
  complete (shiftRm .shl s.osz rm (pure (ib.setWidth 32))) s

/-- SHL r/m8, 1, the /6 encoding (R400, R405). -/
def execSalRm8One (rm : Rm) (s : State) : Answer :=
  complete (shiftRm .shl .w8 rm (pure 1#32)) s

/-- SHL r/mv, 1, the /6 encoding (R400, R405). -/
def execSalRmvOne (rm : Rm) (s : State) : Answer :=
  complete (shiftRm .shl s.osz rm (pure 1#32)) s

/-- SHL r/m8, CL, the /6 encoding (R400, R405). -/
def execSalRm8Cl (rm : Rm) (s : State) : Answer :=
  complete (shiftRm .shl .w8 rm (readReg .w8 .ecx)) s

/-- SHL r/mv, CL, the /6 encoding (R400, R405). -/
def execSalRmvCl (rm : Rm) (s : State) : Answer :=
  complete (shiftRm .shl s.osz rm (readReg .w8 .ecx)) s

/-- SAR r/m8, imm8 (R400, R407). -/
def execSarRm8Imm8 (rm : Rm) (ib : Byte) (s : State) : Answer :=
  complete (shiftRm .sar .w8 rm (pure (ib.setWidth 32))) s

/-- SAR r/mv, imm8 (R400, R407). -/
def execSarRmvImm8 (rm : Rm) (ib : Byte) (s : State) : Answer :=
  complete (shiftRm .sar s.osz rm (pure (ib.setWidth 32))) s

/-- SAR r/m8, 1 (R400, R407). -/
def execSarRm8One (rm : Rm) (s : State) : Answer :=
  complete (shiftRm .sar .w8 rm (pure 1#32)) s

/-- SAR r/mv, 1 (R400, R407). -/
def execSarRmvOne (rm : Rm) (s : State) : Answer :=
  complete (shiftRm .sar s.osz rm (pure 1#32)) s

/-- SAR r/m8, CL (R400, R407). -/
def execSarRm8Cl (rm : Rm) (s : State) : Answer :=
  complete (shiftRm .sar .w8 rm (readReg .w8 .ecx)) s

/-- SAR r/mv, CL (R400, R407). -/
def execSarRmvCl (rm : Rm) (s : State) : Answer :=
  complete (shiftRm .sar s.osz rm (readReg .w8 .ecx)) s

/-- SHLD r/mv, rv, imm8 (R408). -/
def execShldImm8 (rm : Rm) (r : Reg) (ib : Byte) (s : State) : Answer :=
  complete (doubleShift true s.osz rm r (pure (ib.setWidth 32))) s

/-- SHLD r/mv, rv, CL (R408). -/
def execShldCl (rm : Rm) (r : Reg) (s : State) : Answer :=
  complete (doubleShift true s.osz rm r (readReg .w8 .ecx)) s

/-- SHRD r/mv, rv, imm8 (R409). -/
def execShrdImm8 (rm : Rm) (r : Reg) (ib : Byte) (s : State) : Answer :=
  complete (doubleShift false s.osz rm r (pure (ib.setWidth 32))) s

/-- SHRD r/mv, rv, CL (R409). -/
def execShrdCl (rm : Rm) (r : Reg) (s : State) : Answer :=
  complete (doubleShift false s.osz rm r (readReg .w8 .ecx)) s

/-- BT r/mv, rv (R410, R414). -/
def execBtRmvRv (rm : Rm) (r : Reg) (s : State) : Answer :=
  complete (bitTest s.osz (bitByReg s.osz rm r)) s

/-- BT r/mv, imm8 (R410, R414). -/
def execBtRmvImm8 (rm : Rm) (ib : Byte) (s : State) : Answer :=
  complete (bitTest s.osz (bitByImm s.osz rm ib)) s

/-- BTS r/mv, rv (R411, R414). -/
def execBtsRmvRv (rm : Rm) (r : Reg) (s : State) : Answer :=
  complete (bitModify .put s.osz (bitByReg s.osz rm r)) s

/-- BTS r/mv, imm8 (R411, R414). -/
def execBtsRmvImm8 (rm : Rm) (ib : Byte) (s : State) : Answer :=
  complete (bitModify .put s.osz (bitByImm s.osz rm ib)) s

/-- BTR r/mv, rv (R412, R414). -/
def execBtrRmvRv (rm : Rm) (r : Reg) (s : State) : Answer :=
  complete (bitModify .clear s.osz (bitByReg s.osz rm r)) s

/-- BTR r/mv, imm8 (R412, R414). -/
def execBtrRmvImm8 (rm : Rm) (ib : Byte) (s : State) : Answer :=
  complete (bitModify .clear s.osz (bitByImm s.osz rm ib)) s

/-- BTC r/mv, rv (R413, R414). -/
def execBtcRmvRv (rm : Rm) (r : Reg) (s : State) : Answer :=
  complete (bitModify .flip s.osz (bitByReg s.osz rm r)) s

/-- BTC r/mv, imm8 (R413, R414). -/
def execBtcRmvImm8 (rm : Rm) (ib : Byte) (s : State) : Answer :=
  complete (bitModify .flip s.osz (bitByImm s.osz rm ib)) s

/-- BSF rv, r/mv (R415). -/
def execBsfRvRmv (r : Reg) (rm : Rm) (s : State) : Answer :=
  complete (bitScan lowestBit s.osz r rm) s

/-- BSR rv, r/mv (R416). -/
def execBsrRvRmv (r : Reg) (rm : Rm) (s : State) : Answer :=
  complete (bitScan highestBit s.osz r rm) s

end Sys2Proof.Machine
end

