-- ==== Sys2Proof/Machine/StringIo.lean ====
section
/-! DEFINITION. The meanings of the string and port instructions (44_string_io.md). -/

namespace Sys2Proof.Machine

/-- delta: the element size, negative when DF is 1 (R480). -/
def State.strDelta (s : State) (w : Width) : W32 :=
  bif s.df then 0#32 - BitVec.ofNat 32 w.bytes else BitVec.ofNat 32 w.bytes

/-- Adv(r): the index register moves by delta at the address size (R480). -/
def State.strAdvance (s : State) (w : Width) (r : Reg) : State :=
  s.setReg s.asz r (s.regs.read s.asz r + s.strDelta w)

/-- SrcAddr (R480). -/
def State.strSrc (s : State) : W32 := s.lin (s.eseg .ds) (s.regs.read s.asz .esi)

/-- DstAddr (R480). -/
def State.strDst (s : State) : W32 := s.lin .es (s.regs.read s.asz .edi)

/-- The repeat ends after this element (R481). -/
def repeatDone (isCompare : Bool) (rp : Rep) (count : W32) (zf : Bool) : Bool :=
  count == 0#32 || (isCompare && (match rp with | .repe => !zf | .repne => zf))

/-- A string instruction with its repeat prefix: one step does at most one element (R481). -/
def repeated (isCompare : Bool) (elem : M Unit) : M Unit := do
  let s ← get
  match s.dec.rep with
  | none => do
    elem
    advance
  | some rp =>
    bif s.regs.read s.asz .ecx == 0#32 then advance
    else do
      elem
      let c := truncW s.asz (s.regs.read s.asz .ecx - 1#32)
      writeReg s.asz .ecx c
      let s' ← get
      bif repeatDone isCompare rp c s'.cc.zf then advance else pure ()

/-- The element of MOVS (R482). -/
def movsElem (w : Width) : M Unit := do
  let s ← get
  let v ← accRead s.strSrc w.bytes
  accWrite s.strDst w.bytes v
  upd fun s => s.strAdvance w .esi
  upd fun s => s.strAdvance w .edi

/-- The element of CMPS: the source element is the minuend (R483). -/
def cmpsElem (w : Width) : M Unit := do
  let s ← get
  let a ← accRead s.strSrc w.bytes
  let b ← accRead s.strDst w.bytes
  updCc fun c => c.record .sub w (truncW w (a - b)) b
  upd fun s => s.strAdvance w .esi
  upd fun s => s.strAdvance w .edi

/-- The element of STOS (R484). -/
def stosElem (w : Width) : M Unit := do
  let s ← get
  accWrite s.strDst w.bytes (s.regs.read w .eax)
  upd fun s => s.strAdvance w .edi

/-- The element of LODS (R485). -/
def lodsElem (w : Width) : M Unit := do
  let s ← get
  let v ← accRead s.strSrc w.bytes
  writeReg w .eax v
  upd fun s => s.strAdvance w .esi

/-- The element of SCAS: the accumulator is the minuend (R486). -/
def scasElem (w : Width) : M Unit := do
  let s ← get
  let b ← accRead s.strDst w.bytes
  let a := s.regs.read w .eax
  updCc fun c => c.record .sub w (truncW w (a - b)) b
  upd fun s => s.strAdvance w .edi

/-- The element of INS: the destination is translated for writing before the port is read, and the MemWrite after that
cannot fault (R504). -/
def insElem (w : Width) : M Unit := do
  ioCheck
  let s ← get
  let as ← accProbe s.strDst w.bytes
  let v ← portRead (s.regs.edx.setWidth 16) w
  accWriteProbed s.strDst w.bytes as v
  upd fun s => s.strAdvance w .edi

/-- The element of OUTS (R505). -/
def outsElem (w : Width) : M Unit := do
  ioCheck
  let s ← get
  let v ← accRead s.strSrc w.bytes
  portWrite (s.regs.edx.setWidth 16) w v
  upd fun s => s.strAdvance w .esi

/-- IN (R500, R501). -/
def portIn (w : Width) (port : W16) : M Unit := do
  ioCheck
  let v ← portRead port w
  writeReg w .eax v
  advance

/-- OUT (R502, R503). -/
def portOut (w : Width) (port : W16) : M Unit := do
  ioCheck
  let s ← get
  portWrite port w (s.regs.read w .eax)
  advance

/-! ### One meaning for each constructor -/

/-- MOVSB (R481, R482). -/
def execMovsb (s : State) : Answer :=
  complete (repeated false (movsElem .w8)) s

/-- CMPSB (R481, R483). -/
def execCmpsb (s : State) : Answer :=
  complete (repeated true (cmpsElem .w8)) s

/-- STOSB (R481, R484). -/
def execStosb (s : State) : Answer :=
  complete (repeated false (stosElem .w8)) s

/-- LODSB (R481, R485). -/
def execLodsb (s : State) : Answer :=
  complete (repeated false (lodsElem .w8)) s

/-- SCASB (R481, R486). -/
def execScasb (s : State) : Answer :=
  complete (repeated true (scasElem .w8)) s

/-- INSB (R481, R504, R506). -/
def execInsb (s : State) : Answer :=
  complete (repeated false (insElem .w8)) s

/-- OUTSB (R481, R505, R506). -/
def execOutsb (s : State) : Answer :=
  complete (repeated false (outsElem .w8)) s

/-- MOVSW and MOVSD (R481, R482). -/
def execMovsv (s : State) : Answer :=
  complete (repeated false (movsElem s.osz)) s

/-- CMPSW and CMPSD (R481, R483). -/
def execCmpsv (s : State) : Answer :=
  complete (repeated true (cmpsElem s.osz)) s

/-- STOSW and STOSD (R481, R484). -/
def execStosv (s : State) : Answer :=
  complete (repeated false (stosElem s.osz)) s

/-- LODSW and LODSD (R481, R485). -/
def execLodsv (s : State) : Answer :=
  complete (repeated false (lodsElem s.osz)) s

/-- SCASW and SCASD (R481, R486). -/
def execScasv (s : State) : Answer :=
  complete (repeated true (scasElem s.osz)) s

/-- INSW and INSD (R481, R504, R506). -/
def execInsv (s : State) : Answer :=
  complete (repeated false (insElem s.osz)) s

/-- OUTSW and OUTSD (R481, R505, R506). -/
def execOutsv (s : State) : Answer :=
  complete (repeated false (outsElem s.osz)) s

/-- IN AL, imm8 (R500). -/
def execInAlImm8 (ib : Byte) (s : State) : Answer :=
  complete (portIn .w8 (ib.setWidth 16)) s

/-- IN AL, DX (R501). -/
def execInAlDx (s : State) : Answer :=
  complete (portIn .w8 (s.regs.edx.setWidth 16)) s

/-- OUT imm8, AL (R502). -/
def execOutImm8Al (ib : Byte) (s : State) : Answer :=
  complete (portOut .w8 (ib.setWidth 16)) s

/-- OUT DX, AL (R503). -/
def execOutDxAl (s : State) : Answer :=
  complete (portOut .w8 (s.regs.edx.setWidth 16)) s

/-- IN eAX, imm8 (R500). -/
def execInEaxImm8 (ib : Byte) (s : State) : Answer :=
  complete (portIn s.osz (ib.setWidth 16)) s

/-- IN eAX, DX (R501). -/
def execInEaxDx (s : State) : Answer :=
  complete (portIn s.osz (s.regs.edx.setWidth 16)) s

/-- OUT imm8, eAX (R502). -/
def execOutImm8Eax (ib : Byte) (s : State) : Answer :=
  complete (portOut s.osz (ib.setWidth 16)) s

/-- OUT DX, eAX (R503). -/
def execOutDxEax (s : State) : Answer :=
  complete (portOut s.osz (s.regs.edx.setWidth 16)) s

end Sys2Proof.Machine
end

