-- ==== Sys2Proof/Machine/System.lean ====
section
/-! DEFINITION. The meanings of the system instructions (47_system.md). -/

namespace Sys2Proof.Machine

/-- Protected mode only (R600). -/
def protectedOnly : M Unit := do
  let s ← get
  raiseIf (!s.pe) .ud

/-- ZF <- b, the other flags unchanged (R600). -/
def setZf (b : Bool) : M Unit := updCc fun c => c.setImage ((c.image &&& ~~~0x40#32) ||| atBit b 6)

/-- SGDT and SIDT (R601, R602). -/
def storeTable (rm : Rm) (t : TableReg) : M Unit := do
  let (seg, off) ← locateMem rm
  let s ← get
  accWrite (s.lin seg off) 2 t.limit
  accWrite (s.linAt seg (off + 2#32)) 4 t.base
  advance

/-- LGDT and LIDT: the register-form test comes before the privilege test (R600, R603, R604). -/
def loadTable (w : Width) (rm : Rm) (put : State → TableReg → State) : M Unit := do
  let (seg, off) ← locateMem rm
  privileged
  let s ← get
  let lim ← accRead (s.lin seg off) 2
  let b ← accRead (s.linAt seg (off + 2#32)) 4
  upd fun s => put s { base := bif w == .w16 then b &&& 0x00FFFFFF#32 else b, limit := lim }
  advance

/-- LLDT after its mode and privilege tests (R612). -/
def loadLdtr (rm : Rm) : M Unit := do
  let v ← readRm .w16 rm
  let sel : W16 := v.setWidth 16
  bif selNull sel then do
    setSeg .ldtr sel 0#32 0#32 0#32
    advance
  else do
    raiseIf (sel.getLsbD 2) (.gp (ecSel sel))
    let d ← descReadOr sel (.gp (ecSel sel))
    raiseIf (d.e2.getLsbD 12 || sysTypeOf d.e2 != 2#4) (.gp (ecSel sel))
    raiseIf (!d.e2.getLsbD 15) (.np (ecSel sel))
    setSeg .ldtr sel (descBase d.e1 d.e2) (descLimit d.e1 d.e2) d.e2
    advance

/-- LTR after its mode and privilege tests (R613). -/
def loadTr (rm : Rm) : M Unit := do
  let v ← readRm .w16 rm
  let sel : W16 := v.setWidth 16
  raiseIf (selNull sel) (.gp 0#32)
  raiseIf (sel.getLsbD 2) (.gp (ecSel sel))
  let d ← descReadOr sel (.gp (ecSel sel))
  raiseIf (d.e2.getLsbD 12 || (sysTypeOf d.e2 != 1#4 && sysTypeOf d.e2 != 9#4)) (.gp (ecSel sel))
  raiseIf (!d.e2.getLsbD 15) (.np (ecSel sel))
  sysWrite (d.addr + 4#32) 4 (d.e2 ||| 0x200#32)
  setSeg .tr sel (descBase d.e1 d.e2) (descLimit d.e1 d.e2) (d.e2 ||| 0x200#32)
  advance

/-- DPL >= CPL and DPL >= RPL (R614, R615, R625). -/
def visibleAt (cpl : BitVec 2) (sel : W16) (e2 : W32) : Bool :=
  !(dplOf e2).ult cpl && !(dplOf e2).ult (selRpl sel)

/-- The segment is readable at this level (R614). -/
def readable (cpl : BitVec 2) (sel : W16) (e2 : W32) : Bool :=
  e2.getLsbD 12 && (bif e2.getLsbD 11 then e2.getLsbD 9 && (e2.getLsbD 10 || visibleAt cpl sel e2)
    else visibleAt cpl sel e2)

/-- The segment is writable at this level (R615). -/
def writable (cpl : BitVec 2) (sel : W16) (e2 : W32) : Bool :=
  e2.getLsbD 12 && !e2.getLsbD 11 && e2.getLsbD 9 && visibleAt cpl sel e2

/-- DescRead, or none at once for a null selector (R614, R625). -/
def descIfAny (sel : W16) : M (Option Desc) :=
  bif selNull sel then pure none else descRead sel

/-- VERR and VERW after the mode test (R614, R615). -/
def verify (test : BitVec 2 → W16 → W32 → Bool) (rm : Rm) : M Unit := do
  let v ← readRm .w16 rm
  let sel : W16 := v.setWidth 16
  let s ← get
  let d ← descIfAny sel
  setZf (match d with | some d => test s.cpl sel d.e2 | none => false)
  advance

/-- ARPL after the mode test: the operand is translated for writing even when it is not changed (R616). -/
def adjustRpl (rm : Rm) (r : Reg) : M Unit := do
  let l ← locate rm
  let d ← readLocW .w16 l
  let g ← readReg .w16 r
  bif (d.val.extractLsb' 0 2).ult (g.extractLsb' 0 2) then do
    writeBack .w16 l d ((d.val &&& 0xFFFC#32) ||| (g &&& 3#32))
    setZf true
    advance
  else do
    setZf false
    advance

/-- The system types LAR accepts (R625). -/
def larTypes (ty : BitVec 4) : Bool :=
  ty == 1#4 || ty == 2#4 || ty == 3#4 || ty == 4#4 || ty == 5#4 || ty == 9#4 || ty == 11#4 || ty == 12#4

/-- The system types LSL accepts (R626). -/
def lslTypes (ty : BitVec 4) : Bool :=
  ty == 1#4 || ty == 2#4 || ty == 3#4 || ty == 9#4 || ty == 11#4

/-- LAR and LSL may answer for this descriptor (R625, R626). -/
def descVisible (types : BitVec 4 → Bool) (cpl : BitVec 2) (sel : W16) (e2 : W32) : Bool :=
  bif e2.getLsbD 12 then (e2.getLsbD 11 && e2.getLsbD 10) || visibleAt cpl sel e2
  else visibleAt cpl sel e2 && types (sysTypeOf e2)

/-- LAR and LSL after the mode test (R625, R626). -/
def loadDescInfo (w : Width) (r : Reg) (rm : Rm) (types : BitVec 4 → Bool) (info : Desc → W32) : M Unit := do
  let v ← readRm .w16 rm
  let sel : W16 := v.setWidth 16
  let s ← get
  let d ← descIfAny sel
  match d with
  | some d =>
    bif descVisible types s.cpl sel d.e2 then do
      writeReg w r (info d)
      setZf true
      advance
    else do
      setZf false
      advance
  | none => do
    setZf false
    advance

/-- WriteCR0(v): ET reads 1; a change of PG, WP or PE flushes the TLB (R621, 20_memory.md R172). -/
def State.writeCr0 (s : State) (v : W32) : State :=
  let new := v ||| 0x00000010#32
  (bif (new ^^^ s.cr0) &&& 0x80010001#32 == 0#32 then s else s.tlbFlushAll).setCr0 new

/-- The control register exists (R61, R620). -/
def controlExists (n : BitVec 3) : Bool := n == 0#3 || n == 2#3 || n == 3#3 || n == 4#3

/-- cr[n] (R620). -/
def State.readCr (s : State) (n : BitVec 3) : W32 :=
  bif n == 0#3 then s.cr0 else bif n == 2#3 then s.cr2 else bif n == 3#3 then s.cr3 else s.cr4

/-- cr[n] <- v with its effects (R621). -/
def State.writeCr (s : State) (n : BitVec 3) (v : W32) : State :=
  bif n == 0#3 then s.writeCr0 v
  else bif n == 2#3 then s.setCr2 v
  else bif n == 3#3 then (s.setCr3 v).tlbFlushAll
  else s.setCr4 v

/-- MOV r32, CRn (R620). -/
def readControl (rm : Rm) (n : BitVec 3) : M Unit := do
  let r ← locateReg rm
  raiseIf (!controlExists n) .ud
  privileged
  upd fun s => s.setReg .w32 r (s.readCr n)
  advance

/-- MOV CRn, r32 (R621). -/
def writeControl (rm : Rm) (n : BitVec 3) : M Unit := do
  let r ← locateReg rm
  raiseIf (!controlExists n) .ud
  privileged
  upd fun s => s.writeCr n (s.regs.get r)
  advance

/-! ### One meaning for each constructor -/

/-- SGDT m (R601). -/
def execSgdtM (rm : Rm) (s : State) : Answer :=
  complete (storeTable rm s.gdtr) s

/-- SIDT m (R602). -/
def execSidtM (rm : Rm) (s : State) : Answer :=
  complete (storeTable rm s.idtr) s

/-- LGDT m (R603). -/
def execLgdtM (rm : Rm) (s : State) : Answer :=
  complete (loadTable s.osz rm State.setGdtr) s

/-- LIDT m (R604). -/
def execLidtM (rm : Rm) (s : State) : Answer :=
  complete (loadTable s.osz rm State.setIdtr) s

/-- SLDT r/m16 (R610). -/
def execSldtRm16 (rm : Rm) (s : State) : Answer :=
  complete (do protectedOnly; storeSelector s.osz rm .ldtr) s

/-- STR r/m16 (R611). -/
def execStrRm16 (rm : Rm) (s : State) : Answer :=
  complete (do protectedOnly; storeSelector s.osz rm .tr) s

/-- LLDT r/m16 (R612). -/
def execLldtRm16 (rm : Rm) (s : State) : Answer :=
  complete (do protectedOnly; privileged; loadLdtr rm) s

/-- LTR r/m16 (R613). -/
def execLtrRm16 (rm : Rm) (s : State) : Answer :=
  complete (do protectedOnly; privileged; loadTr rm) s

/-- VERR r/m16 (R614). -/
def execVerrRm16 (rm : Rm) (s : State) : Answer :=
  complete (do protectedOnly; verify readable rm) s

/-- VERW r/m16 (R615). -/
def execVerwRm16 (rm : Rm) (s : State) : Answer :=
  complete (do protectedOnly; verify writable rm) s

/-- ARPL r/m16, r16 (R616). -/
def execArplRm16R16 (rm : Rm) (r : Reg) (s : State) : Answer :=
  complete (do protectedOnly; adjustRpl rm r) s

/-- SMSW r/m16 (R617). -/
def execSmswRm16 (rm : Rm) (s : State) : Answer :=
  complete (do storeWord s.osz rm s.cr0; advance) s

/-- LMSW r/m16 (R618). -/
def execLmswRm16 (rm : Rm) (s : State) : Answer :=
  complete (do
    privileged
    let v ← readRm .w16 rm
    upd fun s => s.writeCr0 ((s.cr0 &&& 0xFFFFFFF0#32) ||| (v &&& 0xE#32) ||| ((s.cr0 ||| v) &&& 1#32))
    advance) s

/-- CLTS (R619). -/
def execClts (s : State) : Answer :=
  complete (do privileged; upd fun s => s.setCr0 (s.cr0 &&& ~~~0x8#32); advance) s

/-- MOV r32, CRn (R620). -/
def execMovR32Cr (rm : Rm) (n : BitVec 3) (s : State) : Answer :=
  complete (readControl rm n) s

/-- MOV CRn, r32 (R621). -/
def execMovCrR32 (n : BitVec 3) (rm : Rm) (s : State) : Answer :=
  complete (writeControl rm n) s

/-- MOV DRn, r32: the value is discarded for every n (R622). -/
def execMovDrR32 (_n : BitVec 3) (rm : Rm) (s : State) : Answer :=
  complete (do
    let _ ← locateReg rm
    privileged
    advance) s

/-- INVLPG m (R623). -/
def execInvlpgM (rm : Rm) (s : State) : Answer :=
  complete (do
    let (seg, off) ← locateMem rm
    privileged
    upd fun s => s.tlbFlushPage (vpnOf (s.lin seg off))
    advance) s

/-- INVD (R624). -/
def execInvd (s : State) : Answer :=
  complete (do privileged; advance) s

/-- WBINVD (R624). -/
def execWbinvd (s : State) : Answer :=
  complete (do privileged; advance) s

/-- LAR rv, r/m16 (R625). -/
def execLarRvRm16 (r : Reg) (rm : Rm) (s : State) : Answer :=
  complete (do protectedOnly; loadDescInfo s.osz r rm larTypes fun d => d.e2 &&& (bif s.osz == .w32 then 0x00F0FF00#32 else 0xFF00#32)) s

/-- LSL rv, r/m16 (R626). -/
def execLslRvRm16 (r : Reg) (rm : Rm) (s : State) : Answer :=
  complete (do protectedOnly; loadDescInfo s.osz r rm lslTypes fun d => descLimit d.e1 d.e2) s

end Sys2Proof.Machine
end

