-- ==== Sys2Proof/Machine/Undefined.lean ====
section
/-! DEFINITION. The meanings of the opcodes the core does not admit (30_encoding.md R262): each raises the invalid-opcode exception. -/

namespace Sys2Proof.Machine

/-! ### One meaning for each constructor -/

/-- Opcode D6 is not admitted (R262). -/
def execUdD6 (s : State) : Answer :=
  complete (raise .ud) s

/-- Opcode F1 is not admitted (R262). -/
def execUdF1 (s : State) : Answer :=
  complete (raise .ud) s

/-- Opcode F6 /1 is not admitted (R262). -/
def execUdF6Ext1 (s : State) : Answer :=
  complete (raise .ud) s

/-- Opcode F7 /1 is not admitted (R262). -/
def execUdF7Ext1 (s : State) : Answer :=
  complete (raise .ud) s

/-- Opcode FE /2 is not admitted (R262). -/
def execUdFEExt2 (s : State) : Answer :=
  complete (raise .ud) s

/-- Opcode FE /3 is not admitted (R262). -/
def execUdFEExt3 (s : State) : Answer :=
  complete (raise .ud) s

/-- Opcode FE /4 is not admitted (R262). -/
def execUdFEExt4 (s : State) : Answer :=
  complete (raise .ud) s

/-- Opcode FE /5 is not admitted (R262). -/
def execUdFEExt5 (s : State) : Answer :=
  complete (raise .ud) s

/-- Opcode FE /6 is not admitted (R262). -/
def execUdFEExt6 (s : State) : Answer :=
  complete (raise .ud) s

/-- Opcode FE /7 is not admitted (R262). -/
def execUdFEExt7 (s : State) : Answer :=
  complete (raise .ud) s

/-- Opcode FF /7 is not admitted (R262). -/
def execUdFFExt7 (s : State) : Answer :=
  complete (raise .ud) s

/-- Opcode 8F /1 is not admitted (R262). -/
def execUd8FExt1 (s : State) : Answer :=
  complete (raise .ud) s

/-- Opcode 8F /2 is not admitted (R262). -/
def execUd8FExt2 (s : State) : Answer :=
  complete (raise .ud) s

/-- Opcode 8F /3 is not admitted (R262). -/
def execUd8FExt3 (s : State) : Answer :=
  complete (raise .ud) s

/-- Opcode 8F /4 is not admitted (R262). -/
def execUd8FExt4 (s : State) : Answer :=
  complete (raise .ud) s

/-- Opcode 8F /5 is not admitted (R262). -/
def execUd8FExt5 (s : State) : Answer :=
  complete (raise .ud) s

/-- Opcode 8F /6 is not admitted (R262). -/
def execUd8FExt6 (s : State) : Answer :=
  complete (raise .ud) s

/-- Opcode 8F /7 is not admitted (R262). -/
def execUd8FExt7 (s : State) : Answer :=
  complete (raise .ud) s

/-- Opcode C6 /1 is not admitted (R262). -/
def execUdC6Ext1 (s : State) : Answer :=
  complete (raise .ud) s

/-- Opcode C6 /2 is not admitted (R262). -/
def execUdC6Ext2 (s : State) : Answer :=
  complete (raise .ud) s

/-- Opcode C6 /3 is not admitted (R262). -/
def execUdC6Ext3 (s : State) : Answer :=
  complete (raise .ud) s

/-- Opcode C6 /4 is not admitted (R262). -/
def execUdC6Ext4 (s : State) : Answer :=
  complete (raise .ud) s

/-- Opcode C6 /5 is not admitted (R262). -/
def execUdC6Ext5 (s : State) : Answer :=
  complete (raise .ud) s

/-- Opcode C6 /6 is not admitted (R262). -/
def execUdC6Ext6 (s : State) : Answer :=
  complete (raise .ud) s

/-- Opcode C6 /7 is not admitted (R262). -/
def execUdC6Ext7 (s : State) : Answer :=
  complete (raise .ud) s

/-- Opcode C7 /1 is not admitted (R262). -/
def execUdC7Ext1 (s : State) : Answer :=
  complete (raise .ud) s

/-- Opcode C7 /2 is not admitted (R262). -/
def execUdC7Ext2 (s : State) : Answer :=
  complete (raise .ud) s

/-- Opcode C7 /3 is not admitted (R262). -/
def execUdC7Ext3 (s : State) : Answer :=
  complete (raise .ud) s

/-- Opcode C7 /4 is not admitted (R262). -/
def execUdC7Ext4 (s : State) : Answer :=
  complete (raise .ud) s

/-- Opcode C7 /5 is not admitted (R262). -/
def execUdC7Ext5 (s : State) : Answer :=
  complete (raise .ud) s

/-- Opcode C7 /6 is not admitted (R262). -/
def execUdC7Ext6 (s : State) : Answer :=
  complete (raise .ud) s

/-- Opcode C7 /7 is not admitted (R262). -/
def execUdC7Ext7 (s : State) : Answer :=
  complete (raise .ud) s

/-- Opcode 0F 00 /6 is not admitted (R262). -/
def execUd0F00Ext6 (s : State) : Answer :=
  complete (raise .ud) s

/-- Opcode 0F 00 /7 is not admitted (R262). -/
def execUd0F00Ext7 (s : State) : Answer :=
  complete (raise .ud) s

/-- Opcode 0F 01 /5 is not admitted (R262). -/
def execUd0F01Ext5 (s : State) : Answer :=
  complete (raise .ud) s

/-- Opcode 0F BA /0 is not admitted (R262). -/
def execUd0FBAExt0 (s : State) : Answer :=
  complete (raise .ud) s

/-- Opcode 0F BA /1 is not admitted (R262). -/
def execUd0FBAExt1 (s : State) : Answer :=
  complete (raise .ud) s

/-- Opcode 0F BA /2 is not admitted (R262). -/
def execUd0FBAExt2 (s : State) : Answer :=
  complete (raise .ud) s

/-- Opcode 0F BA /3 is not admitted (R262). -/
def execUd0FBAExt3 (s : State) : Answer :=
  complete (raise .ud) s

/-- Opcode 0F 04 is not admitted (R262). -/
def execUd0F04 (s : State) : Answer :=
  complete (raise .ud) s

/-- Opcode 0F 05 is not admitted (R262). -/
def execUd0F05 (s : State) : Answer :=
  complete (raise .ud) s

/-- Opcode 0F 07 is not admitted (R262). -/
def execUd0F07 (s : State) : Answer :=
  complete (raise .ud) s

/-- Opcode 0F 0A is not admitted (R262). -/
def execUd0F0A (s : State) : Answer :=
  complete (raise .ud) s

/-- Opcode 0F 0B is not admitted (R262). -/
def execUd0F0B (s : State) : Answer :=
  complete (raise .ud) s

/-- Opcode 0F 0C is not admitted (R262). -/
def execUd0F0C (s : State) : Answer :=
  complete (raise .ud) s

/-- Opcode 0F 0D is not admitted (R262). -/
def execUd0F0D (s : State) : Answer :=
  complete (raise .ud) s

/-- Opcode 0F 0E is not admitted (R262). -/
def execUd0F0E (s : State) : Answer :=
  complete (raise .ud) s

/-- Opcode 0F 0F is not admitted (R262). -/
def execUd0F0F (s : State) : Answer :=
  complete (raise .ud) s

/-- Opcode 0F 10 is not admitted (R262). -/
def execUd0F10 (s : State) : Answer :=
  complete (raise .ud) s

/-- Opcode 0F 11 is not admitted (R262). -/
def execUd0F11 (s : State) : Answer :=
  complete (raise .ud) s

/-- Opcode 0F 12 is not admitted (R262). -/
def execUd0F12 (s : State) : Answer :=
  complete (raise .ud) s

/-- Opcode 0F 13 is not admitted (R262). -/
def execUd0F13 (s : State) : Answer :=
  complete (raise .ud) s

/-- Opcode 0F 14 is not admitted (R262). -/
def execUd0F14 (s : State) : Answer :=
  complete (raise .ud) s

/-- Opcode 0F 15 is not admitted (R262). -/
def execUd0F15 (s : State) : Answer :=
  complete (raise .ud) s

/-- Opcode 0F 16 is not admitted (R262). -/
def execUd0F16 (s : State) : Answer :=
  complete (raise .ud) s

/-- Opcode 0F 17 is not admitted (R262). -/
def execUd0F17 (s : State) : Answer :=
  complete (raise .ud) s

/-- Opcode 0F 18 is not admitted (R262). -/
def execUd0F18 (s : State) : Answer :=
  complete (raise .ud) s

/-- Opcode 0F 19 is not admitted (R262). -/
def execUd0F19 (s : State) : Answer :=
  complete (raise .ud) s

/-- Opcode 0F 1A is not admitted (R262). -/
def execUd0F1A (s : State) : Answer :=
  complete (raise .ud) s

/-- Opcode 0F 1B is not admitted (R262). -/
def execUd0F1B (s : State) : Answer :=
  complete (raise .ud) s

/-- Opcode 0F 1C is not admitted (R262). -/
def execUd0F1C (s : State) : Answer :=
  complete (raise .ud) s

/-- Opcode 0F 1D is not admitted (R262). -/
def execUd0F1D (s : State) : Answer :=
  complete (raise .ud) s

/-- Opcode 0F 1E is not admitted (R262). -/
def execUd0F1E (s : State) : Answer :=
  complete (raise .ud) s

/-- Opcode 0F 1F is not admitted (R262). -/
def execUd0F1F (s : State) : Answer :=
  complete (raise .ud) s

/-- Opcode 0F 21 is not admitted (R262). -/
def execUd0F21 (s : State) : Answer :=
  complete (raise .ud) s

/-- Opcode 0F 24 is not admitted (R262). -/
def execUd0F24 (s : State) : Answer :=
  complete (raise .ud) s

/-- Opcode 0F 25 is not admitted (R262). -/
def execUd0F25 (s : State) : Answer :=
  complete (raise .ud) s

/-- Opcode 0F 26 is not admitted (R262). -/
def execUd0F26 (s : State) : Answer :=
  complete (raise .ud) s

/-- Opcode 0F 27 is not admitted (R262). -/
def execUd0F27 (s : State) : Answer :=
  complete (raise .ud) s

/-- Opcode 0F 28 is not admitted (R262). -/
def execUd0F28 (s : State) : Answer :=
  complete (raise .ud) s

/-- Opcode 0F 29 is not admitted (R262). -/
def execUd0F29 (s : State) : Answer :=
  complete (raise .ud) s

/-- Opcode 0F 2A is not admitted (R262). -/
def execUd0F2A (s : State) : Answer :=
  complete (raise .ud) s

/-- Opcode 0F 2B is not admitted (R262). -/
def execUd0F2B (s : State) : Answer :=
  complete (raise .ud) s

/-- Opcode 0F 2C is not admitted (R262). -/
def execUd0F2C (s : State) : Answer :=
  complete (raise .ud) s

/-- Opcode 0F 2D is not admitted (R262). -/
def execUd0F2D (s : State) : Answer :=
  complete (raise .ud) s

/-- Opcode 0F 2E is not admitted (R262). -/
def execUd0F2E (s : State) : Answer :=
  complete (raise .ud) s

/-- Opcode 0F 2F is not admitted (R262). -/
def execUd0F2F (s : State) : Answer :=
  complete (raise .ud) s

/-- Opcode 0F 30 is not admitted (R262). -/
def execUd0F30 (s : State) : Answer :=
  complete (raise .ud) s

/-- Opcode 0F 32 is not admitted (R262). -/
def execUd0F32 (s : State) : Answer :=
  complete (raise .ud) s

/-- Opcode 0F 33 is not admitted (R262). -/
def execUd0F33 (s : State) : Answer :=
  complete (raise .ud) s

/-- Opcode 0F 34 is not admitted (R262). -/
def execUd0F34 (s : State) : Answer :=
  complete (raise .ud) s

/-- Opcode 0F 35 is not admitted (R262). -/
def execUd0F35 (s : State) : Answer :=
  complete (raise .ud) s

/-- Opcode 0F 36 is not admitted (R262). -/
def execUd0F36 (s : State) : Answer :=
  complete (raise .ud) s

/-- Opcode 0F 37 is not admitted (R262). -/
def execUd0F37 (s : State) : Answer :=
  complete (raise .ud) s

/-- Opcode 0F 38 is not admitted (R262). -/
def execUd0F38 (s : State) : Answer :=
  complete (raise .ud) s

/-- Opcode 0F 39 is not admitted (R262). -/
def execUd0F39 (s : State) : Answer :=
  complete (raise .ud) s

/-- Opcode 0F 3A is not admitted (R262). -/
def execUd0F3A (s : State) : Answer :=
  complete (raise .ud) s

/-- Opcode 0F 3B is not admitted (R262). -/
def execUd0F3B (s : State) : Answer :=
  complete (raise .ud) s

/-- Opcode 0F 3C is not admitted (R262). -/
def execUd0F3C (s : State) : Answer :=
  complete (raise .ud) s

/-- Opcode 0F 3D is not admitted (R262). -/
def execUd0F3D (s : State) : Answer :=
  complete (raise .ud) s

/-- Opcode 0F 3E is not admitted (R262). -/
def execUd0F3E (s : State) : Answer :=
  complete (raise .ud) s

/-- Opcode 0F 3F is not admitted (R262). -/
def execUd0F3F (s : State) : Answer :=
  complete (raise .ud) s

/-- Opcode 0F 50 is not admitted (R262). -/
def execUd0F50 (s : State) : Answer :=
  complete (raise .ud) s

/-- Opcode 0F 51 is not admitted (R262). -/
def execUd0F51 (s : State) : Answer :=
  complete (raise .ud) s

/-- Opcode 0F 52 is not admitted (R262). -/
def execUd0F52 (s : State) : Answer :=
  complete (raise .ud) s

/-- Opcode 0F 53 is not admitted (R262). -/
def execUd0F53 (s : State) : Answer :=
  complete (raise .ud) s

/-- Opcode 0F 54 is not admitted (R262). -/
def execUd0F54 (s : State) : Answer :=
  complete (raise .ud) s

/-- Opcode 0F 55 is not admitted (R262). -/
def execUd0F55 (s : State) : Answer :=
  complete (raise .ud) s

/-- Opcode 0F 56 is not admitted (R262). -/
def execUd0F56 (s : State) : Answer :=
  complete (raise .ud) s

/-- Opcode 0F 57 is not admitted (R262). -/
def execUd0F57 (s : State) : Answer :=
  complete (raise .ud) s

/-- Opcode 0F 58 is not admitted (R262). -/
def execUd0F58 (s : State) : Answer :=
  complete (raise .ud) s

/-- Opcode 0F 59 is not admitted (R262). -/
def execUd0F59 (s : State) : Answer :=
  complete (raise .ud) s

/-- Opcode 0F 5A is not admitted (R262). -/
def execUd0F5A (s : State) : Answer :=
  complete (raise .ud) s

/-- Opcode 0F 5B is not admitted (R262). -/
def execUd0F5B (s : State) : Answer :=
  complete (raise .ud) s

/-- Opcode 0F 5C is not admitted (R262). -/
def execUd0F5C (s : State) : Answer :=
  complete (raise .ud) s

/-- Opcode 0F 5D is not admitted (R262). -/
def execUd0F5D (s : State) : Answer :=
  complete (raise .ud) s

/-- Opcode 0F 5E is not admitted (R262). -/
def execUd0F5E (s : State) : Answer :=
  complete (raise .ud) s

/-- Opcode 0F 5F is not admitted (R262). -/
def execUd0F5F (s : State) : Answer :=
  complete (raise .ud) s

/-- Opcode 0F 60 is not admitted (R262). -/
def execUd0F60 (s : State) : Answer :=
  complete (raise .ud) s

/-- Opcode 0F 61 is not admitted (R262). -/
def execUd0F61 (s : State) : Answer :=
  complete (raise .ud) s

/-- Opcode 0F 62 is not admitted (R262). -/
def execUd0F62 (s : State) : Answer :=
  complete (raise .ud) s

/-- Opcode 0F 63 is not admitted (R262). -/
def execUd0F63 (s : State) : Answer :=
  complete (raise .ud) s

/-- Opcode 0F 64 is not admitted (R262). -/
def execUd0F64 (s : State) : Answer :=
  complete (raise .ud) s

/-- Opcode 0F 65 is not admitted (R262). -/
def execUd0F65 (s : State) : Answer :=
  complete (raise .ud) s

/-- Opcode 0F 66 is not admitted (R262). -/
def execUd0F66 (s : State) : Answer :=
  complete (raise .ud) s

/-- Opcode 0F 67 is not admitted (R262). -/
def execUd0F67 (s : State) : Answer :=
  complete (raise .ud) s

/-- Opcode 0F 68 is not admitted (R262). -/
def execUd0F68 (s : State) : Answer :=
  complete (raise .ud) s

/-- Opcode 0F 69 is not admitted (R262). -/
def execUd0F69 (s : State) : Answer :=
  complete (raise .ud) s

/-- Opcode 0F 6A is not admitted (R262). -/
def execUd0F6A (s : State) : Answer :=
  complete (raise .ud) s

/-- Opcode 0F 6B is not admitted (R262). -/
def execUd0F6B (s : State) : Answer :=
  complete (raise .ud) s

/-- Opcode 0F 6C is not admitted (R262). -/
def execUd0F6C (s : State) : Answer :=
  complete (raise .ud) s

/-- Opcode 0F 6D is not admitted (R262). -/
def execUd0F6D (s : State) : Answer :=
  complete (raise .ud) s

/-- Opcode 0F 6E is not admitted (R262). -/
def execUd0F6E (s : State) : Answer :=
  complete (raise .ud) s

/-- Opcode 0F 6F is not admitted (R262). -/
def execUd0F6F (s : State) : Answer :=
  complete (raise .ud) s

/-- Opcode 0F 70 is not admitted (R262). -/
def execUd0F70 (s : State) : Answer :=
  complete (raise .ud) s

/-- Opcode 0F 71 is not admitted (R262). -/
def execUd0F71 (s : State) : Answer :=
  complete (raise .ud) s

/-- Opcode 0F 72 is not admitted (R262). -/
def execUd0F72 (s : State) : Answer :=
  complete (raise .ud) s

/-- Opcode 0F 73 is not admitted (R262). -/
def execUd0F73 (s : State) : Answer :=
  complete (raise .ud) s

/-- Opcode 0F 74 is not admitted (R262). -/
def execUd0F74 (s : State) : Answer :=
  complete (raise .ud) s

/-- Opcode 0F 75 is not admitted (R262). -/
def execUd0F75 (s : State) : Answer :=
  complete (raise .ud) s

/-- Opcode 0F 76 is not admitted (R262). -/
def execUd0F76 (s : State) : Answer :=
  complete (raise .ud) s

/-- Opcode 0F 77 is not admitted (R262). -/
def execUd0F77 (s : State) : Answer :=
  complete (raise .ud) s

/-- Opcode 0F 78 is not admitted (R262). -/
def execUd0F78 (s : State) : Answer :=
  complete (raise .ud) s

/-- Opcode 0F 79 is not admitted (R262). -/
def execUd0F79 (s : State) : Answer :=
  complete (raise .ud) s

/-- Opcode 0F 7A is not admitted (R262). -/
def execUd0F7A (s : State) : Answer :=
  complete (raise .ud) s

/-- Opcode 0F 7B is not admitted (R262). -/
def execUd0F7B (s : State) : Answer :=
  complete (raise .ud) s

/-- Opcode 0F 7C is not admitted (R262). -/
def execUd0F7C (s : State) : Answer :=
  complete (raise .ud) s

/-- Opcode 0F 7D is not admitted (R262). -/
def execUd0F7D (s : State) : Answer :=
  complete (raise .ud) s

/-- Opcode 0F 7E is not admitted (R262). -/
def execUd0F7E (s : State) : Answer :=
  complete (raise .ud) s

/-- Opcode 0F 7F is not admitted (R262). -/
def execUd0F7F (s : State) : Answer :=
  complete (raise .ud) s

/-- Opcode 0F A6 is not admitted (R262). -/
def execUd0FA6 (s : State) : Answer :=
  complete (raise .ud) s

/-- Opcode 0F A7 is not admitted (R262). -/
def execUd0FA7 (s : State) : Answer :=
  complete (raise .ud) s

/-- Opcode 0F AA is not admitted (R262). -/
def execUd0FAA (s : State) : Answer :=
  complete (raise .ud) s

/-- Opcode 0F AE is not admitted (R262). -/
def execUd0FAE (s : State) : Answer :=
  complete (raise .ud) s

/-- Opcode 0F B8 is not admitted (R262). -/
def execUd0FB8 (s : State) : Answer :=
  complete (raise .ud) s

/-- Opcode 0F B9 is not admitted (R262). -/
def execUd0FB9 (s : State) : Answer :=
  complete (raise .ud) s

/-- Opcode 0F C2 is not admitted (R262). -/
def execUd0FC2 (s : State) : Answer :=
  complete (raise .ud) s

/-- Opcode 0F C3 is not admitted (R262). -/
def execUd0FC3 (s : State) : Answer :=
  complete (raise .ud) s

/-- Opcode 0F C4 is not admitted (R262). -/
def execUd0FC4 (s : State) : Answer :=
  complete (raise .ud) s

/-- Opcode 0F C5 is not admitted (R262). -/
def execUd0FC5 (s : State) : Answer :=
  complete (raise .ud) s

/-- Opcode 0F C6 is not admitted (R262). -/
def execUd0FC6 (s : State) : Answer :=
  complete (raise .ud) s

/-- Opcode 0F C7 is not admitted (R262). -/
def execUd0FC7 (s : State) : Answer :=
  complete (raise .ud) s

/-- Opcode 0F D0 is not admitted (R262). -/
def execUd0FD0 (s : State) : Answer :=
  complete (raise .ud) s

/-- Opcode 0F D1 is not admitted (R262). -/
def execUd0FD1 (s : State) : Answer :=
  complete (raise .ud) s

/-- Opcode 0F D2 is not admitted (R262). -/
def execUd0FD2 (s : State) : Answer :=
  complete (raise .ud) s

/-- Opcode 0F D3 is not admitted (R262). -/
def execUd0FD3 (s : State) : Answer :=
  complete (raise .ud) s

/-- Opcode 0F D4 is not admitted (R262). -/
def execUd0FD4 (s : State) : Answer :=
  complete (raise .ud) s

/-- Opcode 0F D5 is not admitted (R262). -/
def execUd0FD5 (s : State) : Answer :=
  complete (raise .ud) s

/-- Opcode 0F D6 is not admitted (R262). -/
def execUd0FD6 (s : State) : Answer :=
  complete (raise .ud) s

/-- Opcode 0F D7 is not admitted (R262). -/
def execUd0FD7 (s : State) : Answer :=
  complete (raise .ud) s

/-- Opcode 0F D8 is not admitted (R262). -/
def execUd0FD8 (s : State) : Answer :=
  complete (raise .ud) s

/-- Opcode 0F D9 is not admitted (R262). -/
def execUd0FD9 (s : State) : Answer :=
  complete (raise .ud) s

/-- Opcode 0F DA is not admitted (R262). -/
def execUd0FDA (s : State) : Answer :=
  complete (raise .ud) s

/-- Opcode 0F DB is not admitted (R262). -/
def execUd0FDB (s : State) : Answer :=
  complete (raise .ud) s

/-- Opcode 0F DC is not admitted (R262). -/
def execUd0FDC (s : State) : Answer :=
  complete (raise .ud) s

/-- Opcode 0F DD is not admitted (R262). -/
def execUd0FDD (s : State) : Answer :=
  complete (raise .ud) s

/-- Opcode 0F DE is not admitted (R262). -/
def execUd0FDE (s : State) : Answer :=
  complete (raise .ud) s

/-- Opcode 0F DF is not admitted (R262). -/
def execUd0FDF (s : State) : Answer :=
  complete (raise .ud) s

/-- Opcode 0F E0 is not admitted (R262). -/
def execUd0FE0 (s : State) : Answer :=
  complete (raise .ud) s

/-- Opcode 0F E1 is not admitted (R262). -/
def execUd0FE1 (s : State) : Answer :=
  complete (raise .ud) s

/-- Opcode 0F E2 is not admitted (R262). -/
def execUd0FE2 (s : State) : Answer :=
  complete (raise .ud) s

/-- Opcode 0F E3 is not admitted (R262). -/
def execUd0FE3 (s : State) : Answer :=
  complete (raise .ud) s

/-- Opcode 0F E4 is not admitted (R262). -/
def execUd0FE4 (s : State) : Answer :=
  complete (raise .ud) s

/-- Opcode 0F E5 is not admitted (R262). -/
def execUd0FE5 (s : State) : Answer :=
  complete (raise .ud) s

/-- Opcode 0F E6 is not admitted (R262). -/
def execUd0FE6 (s : State) : Answer :=
  complete (raise .ud) s

/-- Opcode 0F E7 is not admitted (R262). -/
def execUd0FE7 (s : State) : Answer :=
  complete (raise .ud) s

/-- Opcode 0F E8 is not admitted (R262). -/
def execUd0FE8 (s : State) : Answer :=
  complete (raise .ud) s

/-- Opcode 0F E9 is not admitted (R262). -/
def execUd0FE9 (s : State) : Answer :=
  complete (raise .ud) s

/-- Opcode 0F EA is not admitted (R262). -/
def execUd0FEA (s : State) : Answer :=
  complete (raise .ud) s

/-- Opcode 0F EB is not admitted (R262). -/
def execUd0FEB (s : State) : Answer :=
  complete (raise .ud) s

/-- Opcode 0F EC is not admitted (R262). -/
def execUd0FEC (s : State) : Answer :=
  complete (raise .ud) s

/-- Opcode 0F ED is not admitted (R262). -/
def execUd0FED (s : State) : Answer :=
  complete (raise .ud) s

/-- Opcode 0F EE is not admitted (R262). -/
def execUd0FEE (s : State) : Answer :=
  complete (raise .ud) s

/-- Opcode 0F EF is not admitted (R262). -/
def execUd0FEF (s : State) : Answer :=
  complete (raise .ud) s

/-- Opcode 0F F0 is not admitted (R262). -/
def execUd0FF0 (s : State) : Answer :=
  complete (raise .ud) s

/-- Opcode 0F F1 is not admitted (R262). -/
def execUd0FF1 (s : State) : Answer :=
  complete (raise .ud) s

/-- Opcode 0F F2 is not admitted (R262). -/
def execUd0FF2 (s : State) : Answer :=
  complete (raise .ud) s

/-- Opcode 0F F3 is not admitted (R262). -/
def execUd0FF3 (s : State) : Answer :=
  complete (raise .ud) s

/-- Opcode 0F F4 is not admitted (R262). -/
def execUd0FF4 (s : State) : Answer :=
  complete (raise .ud) s

/-- Opcode 0F F5 is not admitted (R262). -/
def execUd0FF5 (s : State) : Answer :=
  complete (raise .ud) s

/-- Opcode 0F F6 is not admitted (R262). -/
def execUd0FF6 (s : State) : Answer :=
  complete (raise .ud) s

/-- Opcode 0F F7 is not admitted (R262). -/
def execUd0FF7 (s : State) : Answer :=
  complete (raise .ud) s

/-- Opcode 0F F8 is not admitted (R262). -/
def execUd0FF8 (s : State) : Answer :=
  complete (raise .ud) s

/-- Opcode 0F F9 is not admitted (R262). -/
def execUd0FF9 (s : State) : Answer :=
  complete (raise .ud) s

/-- Opcode 0F FA is not admitted (R262). -/
def execUd0FFA (s : State) : Answer :=
  complete (raise .ud) s

/-- Opcode 0F FB is not admitted (R262). -/
def execUd0FFB (s : State) : Answer :=
  complete (raise .ud) s

/-- Opcode 0F FC is not admitted (R262). -/
def execUd0FFC (s : State) : Answer :=
  complete (raise .ud) s

/-- Opcode 0F FD is not admitted (R262). -/
def execUd0FFD (s : State) : Answer :=
  complete (raise .ud) s

/-- Opcode 0F FE is not admitted (R262). -/
def execUd0FFE (s : State) : Answer :=
  complete (raise .ud) s

/-- Opcode 0F FF is not admitted (R262). -/
def execUd0FFF (s : State) : Answer :=
  complete (raise .ud) s

end Sys2Proof.Machine
end

