-- ==== Sys2Proof/Machine/Dispatch.lean ====
section
/-! DEFINITION. The meaning of every instruction: one arm for each constructor, one call of its own definition. -/

namespace Sys2Proof.Machine

/-- What an instruction does to a state whose decode state is that of the instruction (00_scope.md R15). -/
def exec (i : Instr) (s : State) : Host.Outcome State Fault Refusal :=
  match i with
  | .addRm8R8 rm r => Sys2Proof.Machine.execAddRm8R8 rm r s
  | .addRmvRv rm r => Sys2Proof.Machine.execAddRmvRv rm r s
  | .addR8Rm8 r rm => Sys2Proof.Machine.execAddR8Rm8 r rm s
  | .addRvRmv r rm => Sys2Proof.Machine.execAddRvRmv r rm s
  | .addAlImm8 ib => Sys2Proof.Machine.execAddAlImm8 ib s
  | .addEaxImmv iv => Sys2Proof.Machine.execAddEaxImmv iv s
  | .orRm8R8 rm r => Sys2Proof.Machine.execOrRm8R8 rm r s
  | .orRmvRv rm r => Sys2Proof.Machine.execOrRmvRv rm r s
  | .orR8Rm8 r rm => Sys2Proof.Machine.execOrR8Rm8 r rm s
  | .orRvRmv r rm => Sys2Proof.Machine.execOrRvRmv r rm s
  | .orAlImm8 ib => Sys2Proof.Machine.execOrAlImm8 ib s
  | .orEaxImmv iv => Sys2Proof.Machine.execOrEaxImmv iv s
  | .adcRm8R8 rm r => Sys2Proof.Machine.execAdcRm8R8 rm r s
  | .adcRmvRv rm r => Sys2Proof.Machine.execAdcRmvRv rm r s
  | .adcR8Rm8 r rm => Sys2Proof.Machine.execAdcR8Rm8 r rm s
  | .adcRvRmv r rm => Sys2Proof.Machine.execAdcRvRmv r rm s
  | .adcAlImm8 ib => Sys2Proof.Machine.execAdcAlImm8 ib s
  | .adcEaxImmv iv => Sys2Proof.Machine.execAdcEaxImmv iv s
  | .sbbRm8R8 rm r => Sys2Proof.Machine.execSbbRm8R8 rm r s
  | .sbbRmvRv rm r => Sys2Proof.Machine.execSbbRmvRv rm r s
  | .sbbR8Rm8 r rm => Sys2Proof.Machine.execSbbR8Rm8 r rm s
  | .sbbRvRmv r rm => Sys2Proof.Machine.execSbbRvRmv r rm s
  | .sbbAlImm8 ib => Sys2Proof.Machine.execSbbAlImm8 ib s
  | .sbbEaxImmv iv => Sys2Proof.Machine.execSbbEaxImmv iv s
  | .andRm8R8 rm r => Sys2Proof.Machine.execAndRm8R8 rm r s
  | .andRmvRv rm r => Sys2Proof.Machine.execAndRmvRv rm r s
  | .andR8Rm8 r rm => Sys2Proof.Machine.execAndR8Rm8 r rm s
  | .andRvRmv r rm => Sys2Proof.Machine.execAndRvRmv r rm s
  | .andAlImm8 ib => Sys2Proof.Machine.execAndAlImm8 ib s
  | .andEaxImmv iv => Sys2Proof.Machine.execAndEaxImmv iv s
  | .subRm8R8 rm r => Sys2Proof.Machine.execSubRm8R8 rm r s
  | .subRmvRv rm r => Sys2Proof.Machine.execSubRmvRv rm r s
  | .subR8Rm8 r rm => Sys2Proof.Machine.execSubR8Rm8 r rm s
  | .subRvRmv r rm => Sys2Proof.Machine.execSubRvRmv r rm s
  | .subAlImm8 ib => Sys2Proof.Machine.execSubAlImm8 ib s
  | .subEaxImmv iv => Sys2Proof.Machine.execSubEaxImmv iv s
  | .xorRm8R8 rm r => Sys2Proof.Machine.execXorRm8R8 rm r s
  | .xorRmvRv rm r => Sys2Proof.Machine.execXorRmvRv rm r s
  | .xorR8Rm8 r rm => Sys2Proof.Machine.execXorR8Rm8 r rm s
  | .xorRvRmv r rm => Sys2Proof.Machine.execXorRvRmv r rm s
  | .xorAlImm8 ib => Sys2Proof.Machine.execXorAlImm8 ib s
  | .xorEaxImmv iv => Sys2Proof.Machine.execXorEaxImmv iv s
  | .cmpRm8R8 rm r => Sys2Proof.Machine.execCmpRm8R8 rm r s
  | .cmpRmvRv rm r => Sys2Proof.Machine.execCmpRmvRv rm r s
  | .cmpR8Rm8 r rm => Sys2Proof.Machine.execCmpR8Rm8 r rm s
  | .cmpRvRmv r rm => Sys2Proof.Machine.execCmpRvRmv r rm s
  | .cmpAlImm8 ib => Sys2Proof.Machine.execCmpAlImm8 ib s
  | .cmpEaxImmv iv => Sys2Proof.Machine.execCmpEaxImmv iv s
  | .pushRv r => Sys2Proof.Machine.execPushRv r s
  | .popRv r => Sys2Proof.Machine.execPopRv r s
  | .boundRvM r rm => Sys2Proof.Machine.execBoundRvM r rm s
  | .arplRm16R16 rm r => Sys2Proof.Machine.execArplRm16R16 rm r s
  | .pushImmv iv => Sys2Proof.Machine.execPushImmv iv s
  | .imulRvRmvImmv r rm iv => Sys2Proof.Machine.execImulRvRmvImmv r rm iv s
  | .pushImm8 ib => Sys2Proof.Machine.execPushImm8 ib s
  | .imulRvRmvImm8 r rm ib => Sys2Proof.Machine.execImulRvRmvImm8 r rm ib s
  | .jccRel8 cc d8 => Sys2Proof.Machine.execJccRel8 cc d8 s
  | .addRm8Imm8 x82 rm ib => Sys2Proof.Machine.execAddRm8Imm8 x82 rm ib s
  | .orRm8Imm8 x82 rm ib => Sys2Proof.Machine.execOrRm8Imm8 x82 rm ib s
  | .adcRm8Imm8 x82 rm ib => Sys2Proof.Machine.execAdcRm8Imm8 x82 rm ib s
  | .sbbRm8Imm8 x82 rm ib => Sys2Proof.Machine.execSbbRm8Imm8 x82 rm ib s
  | .andRm8Imm8 x82 rm ib => Sys2Proof.Machine.execAndRm8Imm8 x82 rm ib s
  | .subRm8Imm8 x82 rm ib => Sys2Proof.Machine.execSubRm8Imm8 x82 rm ib s
  | .xorRm8Imm8 x82 rm ib => Sys2Proof.Machine.execXorRm8Imm8 x82 rm ib s
  | .cmpRm8Imm8 x82 rm ib => Sys2Proof.Machine.execCmpRm8Imm8 x82 rm ib s
  | .addRmvImmv rm iv => Sys2Proof.Machine.execAddRmvImmv rm iv s
  | .orRmvImmv rm iv => Sys2Proof.Machine.execOrRmvImmv rm iv s
  | .adcRmvImmv rm iv => Sys2Proof.Machine.execAdcRmvImmv rm iv s
  | .sbbRmvImmv rm iv => Sys2Proof.Machine.execSbbRmvImmv rm iv s
  | .andRmvImmv rm iv => Sys2Proof.Machine.execAndRmvImmv rm iv s
  | .subRmvImmv rm iv => Sys2Proof.Machine.execSubRmvImmv rm iv s
  | .xorRmvImmv rm iv => Sys2Proof.Machine.execXorRmvImmv rm iv s
  | .cmpRmvImmv rm iv => Sys2Proof.Machine.execCmpRmvImmv rm iv s
  | .addRmvImm8 rm ib => Sys2Proof.Machine.execAddRmvImm8 rm ib s
  | .orRmvImm8 rm ib => Sys2Proof.Machine.execOrRmvImm8 rm ib s
  | .adcRmvImm8 rm ib => Sys2Proof.Machine.execAdcRmvImm8 rm ib s
  | .sbbRmvImm8 rm ib => Sys2Proof.Machine.execSbbRmvImm8 rm ib s
  | .andRmvImm8 rm ib => Sys2Proof.Machine.execAndRmvImm8 rm ib s
  | .subRmvImm8 rm ib => Sys2Proof.Machine.execSubRmvImm8 rm ib s
  | .xorRmvImm8 rm ib => Sys2Proof.Machine.execXorRmvImm8 rm ib s
  | .cmpRmvImm8 rm ib => Sys2Proof.Machine.execCmpRmvImm8 rm ib s
  | .testRm8R8 rm r => Sys2Proof.Machine.execTestRm8R8 rm r s
  | .testRmvRv rm r => Sys2Proof.Machine.execTestRmvRv rm r s
  | .xchgRm8R8 rm r => Sys2Proof.Machine.execXchgRm8R8 rm r s
  | .xchgRmvRv rm r => Sys2Proof.Machine.execXchgRmvRv rm r s
  | .movRm8R8 rm r => Sys2Proof.Machine.execMovRm8R8 rm r s
  | .movRmvRv rm r => Sys2Proof.Machine.execMovRmvRv rm r s
  | .movR8Rm8 r rm => Sys2Proof.Machine.execMovR8Rm8 r rm s
  | .movRvRmv r rm => Sys2Proof.Machine.execMovRvRmv r rm s
  | .movRm16Sreg rm n => Sys2Proof.Machine.execMovRm16Sreg rm n s
  | .leaRvM r rm => Sys2Proof.Machine.execLeaRvM r rm s
  | .movSregRm16 n rm => Sys2Proof.Machine.execMovSregRm16 n rm s
  | .popRmv rm => Sys2Proof.Machine.execPopRmv rm s
  | .callPtr off sel => Sys2Proof.Machine.execCallPtr off sel s
  | .movAlMoffs ia => Sys2Proof.Machine.execMovAlMoffs ia s
  | .movEaxMoffs ia => Sys2Proof.Machine.execMovEaxMoffs ia s
  | .movMoffsAl ia => Sys2Proof.Machine.execMovMoffsAl ia s
  | .movMoffsEax ia => Sys2Proof.Machine.execMovMoffsEax ia s
  | .testAlImm8 ib => Sys2Proof.Machine.execTestAlImm8 ib s
  | .testEaxImmv iv => Sys2Proof.Machine.execTestEaxImmv iv s
  | .movR8Imm8 r ib => Sys2Proof.Machine.execMovR8Imm8 r ib s
  | .movRvImmv r iv => Sys2Proof.Machine.execMovRvImmv r iv s
  | .rolRm8Imm8 rm ib => Sys2Proof.Machine.execRolRm8Imm8 rm ib s
  | .rorRm8Imm8 rm ib => Sys2Proof.Machine.execRorRm8Imm8 rm ib s
  | .rclRm8Imm8 rm ib => Sys2Proof.Machine.execRclRm8Imm8 rm ib s
  | .rcrRm8Imm8 rm ib => Sys2Proof.Machine.execRcrRm8Imm8 rm ib s
  | .shlRm8Imm8 rm ib => Sys2Proof.Machine.execShlRm8Imm8 rm ib s
  | .shrRm8Imm8 rm ib => Sys2Proof.Machine.execShrRm8Imm8 rm ib s
  | .salRm8Imm8 rm ib => Sys2Proof.Machine.execSalRm8Imm8 rm ib s
  | .sarRm8Imm8 rm ib => Sys2Proof.Machine.execSarRm8Imm8 rm ib s
  | .rolRmvImm8 rm ib => Sys2Proof.Machine.execRolRmvImm8 rm ib s
  | .rorRmvImm8 rm ib => Sys2Proof.Machine.execRorRmvImm8 rm ib s
  | .rclRmvImm8 rm ib => Sys2Proof.Machine.execRclRmvImm8 rm ib s
  | .rcrRmvImm8 rm ib => Sys2Proof.Machine.execRcrRmvImm8 rm ib s
  | .shlRmvImm8 rm ib => Sys2Proof.Machine.execShlRmvImm8 rm ib s
  | .shrRmvImm8 rm ib => Sys2Proof.Machine.execShrRmvImm8 rm ib s
  | .salRmvImm8 rm ib => Sys2Proof.Machine.execSalRmvImm8 rm ib s
  | .sarRmvImm8 rm ib => Sys2Proof.Machine.execSarRmvImm8 rm ib s
  | .rolRm8One rm => Sys2Proof.Machine.execRolRm8One rm s
  | .rorRm8One rm => Sys2Proof.Machine.execRorRm8One rm s
  | .rclRm8One rm => Sys2Proof.Machine.execRclRm8One rm s
  | .rcrRm8One rm => Sys2Proof.Machine.execRcrRm8One rm s
  | .shlRm8One rm => Sys2Proof.Machine.execShlRm8One rm s
  | .shrRm8One rm => Sys2Proof.Machine.execShrRm8One rm s
  | .salRm8One rm => Sys2Proof.Machine.execSalRm8One rm s
  | .sarRm8One rm => Sys2Proof.Machine.execSarRm8One rm s
  | .rolRmvOne rm => Sys2Proof.Machine.execRolRmvOne rm s
  | .rorRmvOne rm => Sys2Proof.Machine.execRorRmvOne rm s
  | .rclRmvOne rm => Sys2Proof.Machine.execRclRmvOne rm s
  | .rcrRmvOne rm => Sys2Proof.Machine.execRcrRmvOne rm s
  | .shlRmvOne rm => Sys2Proof.Machine.execShlRmvOne rm s
  | .shrRmvOne rm => Sys2Proof.Machine.execShrRmvOne rm s
  | .salRmvOne rm => Sys2Proof.Machine.execSalRmvOne rm s
  | .sarRmvOne rm => Sys2Proof.Machine.execSarRmvOne rm s
  | .rolRm8Cl rm => Sys2Proof.Machine.execRolRm8Cl rm s
  | .rorRm8Cl rm => Sys2Proof.Machine.execRorRm8Cl rm s
  | .rclRm8Cl rm => Sys2Proof.Machine.execRclRm8Cl rm s
  | .rcrRm8Cl rm => Sys2Proof.Machine.execRcrRm8Cl rm s
  | .shlRm8Cl rm => Sys2Proof.Machine.execShlRm8Cl rm s
  | .shrRm8Cl rm => Sys2Proof.Machine.execShrRm8Cl rm s
  | .salRm8Cl rm => Sys2Proof.Machine.execSalRm8Cl rm s
  | .sarRm8Cl rm => Sys2Proof.Machine.execSarRm8Cl rm s
  | .rolRmvCl rm => Sys2Proof.Machine.execRolRmvCl rm s
  | .rorRmvCl rm => Sys2Proof.Machine.execRorRmvCl rm s
  | .rclRmvCl rm => Sys2Proof.Machine.execRclRmvCl rm s
  | .rcrRmvCl rm => Sys2Proof.Machine.execRcrRmvCl rm s
  | .shlRmvCl rm => Sys2Proof.Machine.execShlRmvCl rm s
  | .shrRmvCl rm => Sys2Proof.Machine.execShrRmvCl rm s
  | .salRmvCl rm => Sys2Proof.Machine.execSalRmvCl rm s
  | .sarRmvCl rm => Sys2Proof.Machine.execSarRmvCl rm s
  | .retImm16 iw => Sys2Proof.Machine.execRetImm16 iw s
  | .lesRvM r rm => Sys2Proof.Machine.execLesRvM r rm s
  | .ldsRvM r rm => Sys2Proof.Machine.execLdsRvM r rm s
  | .movRm8Imm8 rm ib => Sys2Proof.Machine.execMovRm8Imm8 rm ib s
  | .movRmvImmv rm iv => Sys2Proof.Machine.execMovRmvImmv rm iv s
  | .enter iw lvl => Sys2Proof.Machine.execEnter iw lvl s
  | .retfImm16 iw => Sys2Proof.Machine.execRetfImm16 iw s
  | .intImm8 ib => Sys2Proof.Machine.execIntImm8 ib s
  | .aam ib => Sys2Proof.Machine.execAam ib s
  | .aad ib => Sys2Proof.Machine.execAad ib s
  | .esc esc n rm => Sys2Proof.Machine.execEsc esc n rm s
  | .loopneRel8 d8 => Sys2Proof.Machine.execLoopneRel8 d8 s
  | .loopeRel8 d8 => Sys2Proof.Machine.execLoopeRel8 d8 s
  | .loopRel8 d8 => Sys2Proof.Machine.execLoopRel8 d8 s
  | .jcxzRel8 d8 => Sys2Proof.Machine.execJcxzRel8 d8 s
  | .inAlImm8 ib => Sys2Proof.Machine.execInAlImm8 ib s
  | .inEaxImm8 ib => Sys2Proof.Machine.execInEaxImm8 ib s
  | .outImm8Al ib => Sys2Proof.Machine.execOutImm8Al ib s
  | .outImm8Eax ib => Sys2Proof.Machine.execOutImm8Eax ib s
  | .callRelv dv => Sys2Proof.Machine.execCallRelv dv s
  | .jmpRelv dv => Sys2Proof.Machine.execJmpRelv dv s
  | .jmpPtr off sel => Sys2Proof.Machine.execJmpPtr off sel s
  | .jmpRel8 d8 => Sys2Proof.Machine.execJmpRel8 d8 s
  | .testRm8Imm8 rm ib => Sys2Proof.Machine.execTestRm8Imm8 rm ib s
  | .notRm8 rm => Sys2Proof.Machine.execNotRm8 rm s
  | .negRm8 rm => Sys2Proof.Machine.execNegRm8 rm s
  | .mulRm8 rm => Sys2Proof.Machine.execMulRm8 rm s
  | .imulRm8 rm => Sys2Proof.Machine.execImulRm8 rm s
  | .divRm8 rm => Sys2Proof.Machine.execDivRm8 rm s
  | .idivRm8 rm => Sys2Proof.Machine.execIdivRm8 rm s
  | .testRmvImmv rm iv => Sys2Proof.Machine.execTestRmvImmv rm iv s
  | .notRmv rm => Sys2Proof.Machine.execNotRmv rm s
  | .negRmv rm => Sys2Proof.Machine.execNegRmv rm s
  | .mulRmv rm => Sys2Proof.Machine.execMulRmv rm s
  | .imulRmv rm => Sys2Proof.Machine.execImulRmv rm s
  | .divRmv rm => Sys2Proof.Machine.execDivRmv rm s
  | .idivRmv rm => Sys2Proof.Machine.execIdivRmv rm s
  | .incRm8 rm => Sys2Proof.Machine.execIncRm8 rm s
  | .decRm8 rm => Sys2Proof.Machine.execDecRm8 rm s
  | .incRmv rm => Sys2Proof.Machine.execIncRmv rm s
  | .decRmv rm => Sys2Proof.Machine.execDecRmv rm s
  | .callRmv rm => Sys2Proof.Machine.execCallRmv rm s
  | .callM rm => Sys2Proof.Machine.execCallM rm s
  | .jmpRmv rm => Sys2Proof.Machine.execJmpRmv rm s
  | .jmpM rm => Sys2Proof.Machine.execJmpM rm s
  | .pushRmv rm => Sys2Proof.Machine.execPushRmv rm s
  | .sldtRm16 rm => Sys2Proof.Machine.execSldtRm16 rm s
  | .strRm16 rm => Sys2Proof.Machine.execStrRm16 rm s
  | .lldtRm16 rm => Sys2Proof.Machine.execLldtRm16 rm s
  | .ltrRm16 rm => Sys2Proof.Machine.execLtrRm16 rm s
  | .verrRm16 rm => Sys2Proof.Machine.execVerrRm16 rm s
  | .verwRm16 rm => Sys2Proof.Machine.execVerwRm16 rm s
  | .sgdtM rm => Sys2Proof.Machine.execSgdtM rm s
  | .sidtM rm => Sys2Proof.Machine.execSidtM rm s
  | .lgdtM rm => Sys2Proof.Machine.execLgdtM rm s
  | .lidtM rm => Sys2Proof.Machine.execLidtM rm s
  | .smswRm16 rm => Sys2Proof.Machine.execSmswRm16 rm s
  | .lmswRm16 rm => Sys2Proof.Machine.execLmswRm16 rm s
  | .invlpgM rm => Sys2Proof.Machine.execInvlpgM rm s
  | .larRvRm16 r rm => Sys2Proof.Machine.execLarRvRm16 r rm s
  | .lslRvRm16 r rm => Sys2Proof.Machine.execLslRvRm16 r rm s
  | .movR32Cr rm n => Sys2Proof.Machine.execMovR32Cr rm n s
  | .movCrR32 n rm => Sys2Proof.Machine.execMovCrR32 n rm s
  | .movDrR32 n rm => Sys2Proof.Machine.execMovDrR32 n rm s
  | .cmovRvRmv cc r rm => Sys2Proof.Machine.execCmovRvRmv cc r rm s
  | .jccRelv cc dv => Sys2Proof.Machine.execJccRelv cc dv s
  | .setccRm8 cc n rm => Sys2Proof.Machine.execSetccRm8 cc n rm s
  | .btRmvRv rm r => Sys2Proof.Machine.execBtRmvRv rm r s
  | .shldImm8 rm r ib => Sys2Proof.Machine.execShldImm8 rm r ib s
  | .shldCl rm r => Sys2Proof.Machine.execShldCl rm r s
  | .btsRmvRv rm r => Sys2Proof.Machine.execBtsRmvRv rm r s
  | .shrdImm8 rm r ib => Sys2Proof.Machine.execShrdImm8 rm r ib s
  | .shrdCl rm r => Sys2Proof.Machine.execShrdCl rm r s
  | .imulRvRmv r rm => Sys2Proof.Machine.execImulRvRmv r rm s
  | .cmpxchgRm8R8 rm r => Sys2Proof.Machine.execCmpxchgRm8R8 rm r s
  | .cmpxchgRmvRv rm r => Sys2Proof.Machine.execCmpxchgRmvRv rm r s
  | .lssRvM r rm => Sys2Proof.Machine.execLssRvM r rm s
  | .btrRmvRv rm r => Sys2Proof.Machine.execBtrRmvRv rm r s
  | .lfsRvM r rm => Sys2Proof.Machine.execLfsRvM r rm s
  | .lgsRvM r rm => Sys2Proof.Machine.execLgsRvM r rm s
  | .movzxRvRm8 r rm => Sys2Proof.Machine.execMovzxRvRm8 r rm s
  | .movzxRvRm16 r rm => Sys2Proof.Machine.execMovzxRvRm16 r rm s
  | .btRmvImm8 rm ib => Sys2Proof.Machine.execBtRmvImm8 rm ib s
  | .btsRmvImm8 rm ib => Sys2Proof.Machine.execBtsRmvImm8 rm ib s
  | .btrRmvImm8 rm ib => Sys2Proof.Machine.execBtrRmvImm8 rm ib s
  | .btcRmvImm8 rm ib => Sys2Proof.Machine.execBtcRmvImm8 rm ib s
  | .btcRmvRv rm r => Sys2Proof.Machine.execBtcRmvRv rm r s
  | .bsfRvRmv r rm => Sys2Proof.Machine.execBsfRvRmv r rm s
  | .bsrRvRmv r rm => Sys2Proof.Machine.execBsrRvRmv r rm s
  | .movsxRvRm8 r rm => Sys2Proof.Machine.execMovsxRvRm8 r rm s
  | .movsxRvRm16 r rm => Sys2Proof.Machine.execMovsxRvRm16 r rm s
  | .xaddRm8R8 rm r => Sys2Proof.Machine.execXaddRm8R8 rm r s
  | .xaddRmvRv rm r => Sys2Proof.Machine.execXaddRmvRv rm r s
  | .bswapR32 r => Sys2Proof.Machine.execBswapR32 r s
  | .pfxEs => Sys2Proof.Machine.execPfxEs s
  | .pfxCs => Sys2Proof.Machine.execPfxCs s
  | .pfxSs => Sys2Proof.Machine.execPfxSs s
  | .pfxDs => Sys2Proof.Machine.execPfxDs s
  | .pfxFs => Sys2Proof.Machine.execPfxFs s
  | .pfxGs => Sys2Proof.Machine.execPfxGs s
  | .pfxOpsize => Sys2Proof.Machine.execPfxOpsize s
  | .pfxAddrsize => Sys2Proof.Machine.execPfxAddrsize s
  | .pfxRepne => Sys2Proof.Machine.execPfxRepne s
  | .pfxRep => Sys2Proof.Machine.execPfxRep s
  | .pfxLock => Sys2Proof.Machine.execPfxLock s
  | .pushEs => Sys2Proof.Machine.execPushEs s
  | .pushCs => Sys2Proof.Machine.execPushCs s
  | .pushSs => Sys2Proof.Machine.execPushSs s
  | .pushDs => Sys2Proof.Machine.execPushDs s
  | .popEs => Sys2Proof.Machine.execPopEs s
  | .popSs => Sys2Proof.Machine.execPopSs s
  | .popDs => Sys2Proof.Machine.execPopDs s
  | .daa => Sys2Proof.Machine.execDaa s
  | .das => Sys2Proof.Machine.execDas s
  | .aaa => Sys2Proof.Machine.execAaa s
  | .aas => Sys2Proof.Machine.execAas s
  | .incEax => Sys2Proof.Machine.execIncEax s
  | .incEcx => Sys2Proof.Machine.execIncEcx s
  | .incEdx => Sys2Proof.Machine.execIncEdx s
  | .incEbx => Sys2Proof.Machine.execIncEbx s
  | .incEsp => Sys2Proof.Machine.execIncEsp s
  | .incEbp => Sys2Proof.Machine.execIncEbp s
  | .incEsi => Sys2Proof.Machine.execIncEsi s
  | .incEdi => Sys2Proof.Machine.execIncEdi s
  | .decEax => Sys2Proof.Machine.execDecEax s
  | .decEcx => Sys2Proof.Machine.execDecEcx s
  | .decEdx => Sys2Proof.Machine.execDecEdx s
  | .decEbx => Sys2Proof.Machine.execDecEbx s
  | .decEsp => Sys2Proof.Machine.execDecEsp s
  | .decEbp => Sys2Proof.Machine.execDecEbp s
  | .decEsi => Sys2Proof.Machine.execDecEsi s
  | .decEdi => Sys2Proof.Machine.execDecEdi s
  | .pusha => Sys2Proof.Machine.execPusha s
  | .popa => Sys2Proof.Machine.execPopa s
  | .insb => Sys2Proof.Machine.execInsb s
  | .insv => Sys2Proof.Machine.execInsv s
  | .outsb => Sys2Proof.Machine.execOutsb s
  | .outsv => Sys2Proof.Machine.execOutsv s
  | .nop => Sys2Proof.Machine.execNop s
  | .xchgEaxEcx => Sys2Proof.Machine.execXchgEaxEcx s
  | .xchgEaxEdx => Sys2Proof.Machine.execXchgEaxEdx s
  | .xchgEaxEbx => Sys2Proof.Machine.execXchgEaxEbx s
  | .xchgEaxEsp => Sys2Proof.Machine.execXchgEaxEsp s
  | .xchgEaxEbp => Sys2Proof.Machine.execXchgEaxEbp s
  | .xchgEaxEsi => Sys2Proof.Machine.execXchgEaxEsi s
  | .xchgEaxEdi => Sys2Proof.Machine.execXchgEaxEdi s
  | .cbw => Sys2Proof.Machine.execCbw s
  | .cwd => Sys2Proof.Machine.execCwd s
  | .fwait => Sys2Proof.Machine.execFwait s
  | .pushf => Sys2Proof.Machine.execPushf s
  | .popf => Sys2Proof.Machine.execPopf s
  | .sahf => Sys2Proof.Machine.execSahf s
  | .lahf => Sys2Proof.Machine.execLahf s
  | .movsb => Sys2Proof.Machine.execMovsb s
  | .movsv => Sys2Proof.Machine.execMovsv s
  | .cmpsb => Sys2Proof.Machine.execCmpsb s
  | .cmpsv => Sys2Proof.Machine.execCmpsv s
  | .stosb => Sys2Proof.Machine.execStosb s
  | .stosv => Sys2Proof.Machine.execStosv s
  | .lodsb => Sys2Proof.Machine.execLodsb s
  | .lodsv => Sys2Proof.Machine.execLodsv s
  | .scasb => Sys2Proof.Machine.execScasb s
  | .scasv => Sys2Proof.Machine.execScasv s
  | .ret => Sys2Proof.Machine.execRet s
  | .leave => Sys2Proof.Machine.execLeave s
  | .retf => Sys2Proof.Machine.execRetf s
  | .int3 => Sys2Proof.Machine.execInt3 s
  | .into => Sys2Proof.Machine.execInto s
  | .iret => Sys2Proof.Machine.execIret s
  | .xlat => Sys2Proof.Machine.execXlat s
  | .inAlDx => Sys2Proof.Machine.execInAlDx s
  | .inEaxDx => Sys2Proof.Machine.execInEaxDx s
  | .outDxAl => Sys2Proof.Machine.execOutDxAl s
  | .outDxEax => Sys2Proof.Machine.execOutDxEax s
  | .hlt => Sys2Proof.Machine.execHlt s
  | .cmc => Sys2Proof.Machine.execCmc s
  | .clc => Sys2Proof.Machine.execClc s
  | .stc => Sys2Proof.Machine.execStc s
  | .cli => Sys2Proof.Machine.execCli s
  | .sti => Sys2Proof.Machine.execSti s
  | .cld => Sys2Proof.Machine.execCld s
  | .std => Sys2Proof.Machine.execStd s
  | .clts => Sys2Proof.Machine.execClts s
  | .invd => Sys2Proof.Machine.execInvd s
  | .wbinvd => Sys2Proof.Machine.execWbinvd s
  | .rdtsc => Sys2Proof.Machine.execRdtsc s
  | .pushFs => Sys2Proof.Machine.execPushFs s
  | .popFs => Sys2Proof.Machine.execPopFs s
  | .cpuid => Sys2Proof.Machine.execCpuid s
  | .pushGs => Sys2Proof.Machine.execPushGs s
  | .popGs => Sys2Proof.Machine.execPopGs s
  | .udD6 => Sys2Proof.Machine.execUdD6 s
  | .udF1 => Sys2Proof.Machine.execUdF1 s
  | .udF6Ext1 => Sys2Proof.Machine.execUdF6Ext1 s
  | .udF7Ext1 => Sys2Proof.Machine.execUdF7Ext1 s
  | .udFEExt2 => Sys2Proof.Machine.execUdFEExt2 s
  | .udFEExt3 => Sys2Proof.Machine.execUdFEExt3 s
  | .udFEExt4 => Sys2Proof.Machine.execUdFEExt4 s
  | .udFEExt5 => Sys2Proof.Machine.execUdFEExt5 s
  | .udFEExt6 => Sys2Proof.Machine.execUdFEExt6 s
  | .udFEExt7 => Sys2Proof.Machine.execUdFEExt7 s
  | .udFFExt7 => Sys2Proof.Machine.execUdFFExt7 s
  | .ud8FExt1 => Sys2Proof.Machine.execUd8FExt1 s
  | .ud8FExt2 => Sys2Proof.Machine.execUd8FExt2 s
  | .ud8FExt3 => Sys2Proof.Machine.execUd8FExt3 s
  | .ud8FExt4 => Sys2Proof.Machine.execUd8FExt4 s
  | .ud8FExt5 => Sys2Proof.Machine.execUd8FExt5 s
  | .ud8FExt6 => Sys2Proof.Machine.execUd8FExt6 s
  | .ud8FExt7 => Sys2Proof.Machine.execUd8FExt7 s
  | .udC6Ext1 => Sys2Proof.Machine.execUdC6Ext1 s
  | .udC6Ext2 => Sys2Proof.Machine.execUdC6Ext2 s
  | .udC6Ext3 => Sys2Proof.Machine.execUdC6Ext3 s
  | .udC6Ext4 => Sys2Proof.Machine.execUdC6Ext4 s
  | .udC6Ext5 => Sys2Proof.Machine.execUdC6Ext5 s
  | .udC6Ext6 => Sys2Proof.Machine.execUdC6Ext6 s
  | .udC6Ext7 => Sys2Proof.Machine.execUdC6Ext7 s
  | .udC7Ext1 => Sys2Proof.Machine.execUdC7Ext1 s
  | .udC7Ext2 => Sys2Proof.Machine.execUdC7Ext2 s
  | .udC7Ext3 => Sys2Proof.Machine.execUdC7Ext3 s
  | .udC7Ext4 => Sys2Proof.Machine.execUdC7Ext4 s
  | .udC7Ext5 => Sys2Proof.Machine.execUdC7Ext5 s
  | .udC7Ext6 => Sys2Proof.Machine.execUdC7Ext6 s
  | .udC7Ext7 => Sys2Proof.Machine.execUdC7Ext7 s
  | .ud0F00Ext6 => Sys2Proof.Machine.execUd0F00Ext6 s
  | .ud0F00Ext7 => Sys2Proof.Machine.execUd0F00Ext7 s
  | .ud0F01Ext5 => Sys2Proof.Machine.execUd0F01Ext5 s
  | .ud0FBAExt0 => Sys2Proof.Machine.execUd0FBAExt0 s
  | .ud0FBAExt1 => Sys2Proof.Machine.execUd0FBAExt1 s
  | .ud0FBAExt2 => Sys2Proof.Machine.execUd0FBAExt2 s
  | .ud0FBAExt3 => Sys2Proof.Machine.execUd0FBAExt3 s
  | .ud0F04 => Sys2Proof.Machine.execUd0F04 s
  | .ud0F05 => Sys2Proof.Machine.execUd0F05 s
  | .ud0F07 => Sys2Proof.Machine.execUd0F07 s
  | .ud0F0A => Sys2Proof.Machine.execUd0F0A s
  | .ud0F0B => Sys2Proof.Machine.execUd0F0B s
  | .ud0F0C => Sys2Proof.Machine.execUd0F0C s
  | .ud0F0D => Sys2Proof.Machine.execUd0F0D s
  | .ud0F0E => Sys2Proof.Machine.execUd0F0E s
  | .ud0F0F => Sys2Proof.Machine.execUd0F0F s
  | .ud0F10 => Sys2Proof.Machine.execUd0F10 s
  | .ud0F11 => Sys2Proof.Machine.execUd0F11 s
  | .ud0F12 => Sys2Proof.Machine.execUd0F12 s
  | .ud0F13 => Sys2Proof.Machine.execUd0F13 s
  | .ud0F14 => Sys2Proof.Machine.execUd0F14 s
  | .ud0F15 => Sys2Proof.Machine.execUd0F15 s
  | .ud0F16 => Sys2Proof.Machine.execUd0F16 s
  | .ud0F17 => Sys2Proof.Machine.execUd0F17 s
  | .ud0F18 => Sys2Proof.Machine.execUd0F18 s
  | .ud0F19 => Sys2Proof.Machine.execUd0F19 s
  | .ud0F1A => Sys2Proof.Machine.execUd0F1A s
  | .ud0F1B => Sys2Proof.Machine.execUd0F1B s
  | .ud0F1C => Sys2Proof.Machine.execUd0F1C s
  | .ud0F1D => Sys2Proof.Machine.execUd0F1D s
  | .ud0F1E => Sys2Proof.Machine.execUd0F1E s
  | .ud0F1F => Sys2Proof.Machine.execUd0F1F s
  | .ud0F21 => Sys2Proof.Machine.execUd0F21 s
  | .ud0F24 => Sys2Proof.Machine.execUd0F24 s
  | .ud0F25 => Sys2Proof.Machine.execUd0F25 s
  | .ud0F26 => Sys2Proof.Machine.execUd0F26 s
  | .ud0F27 => Sys2Proof.Machine.execUd0F27 s
  | .ud0F28 => Sys2Proof.Machine.execUd0F28 s
  | .ud0F29 => Sys2Proof.Machine.execUd0F29 s
  | .ud0F2A => Sys2Proof.Machine.execUd0F2A s
  | .ud0F2B => Sys2Proof.Machine.execUd0F2B s
  | .ud0F2C => Sys2Proof.Machine.execUd0F2C s
  | .ud0F2D => Sys2Proof.Machine.execUd0F2D s
  | .ud0F2E => Sys2Proof.Machine.execUd0F2E s
  | .ud0F2F => Sys2Proof.Machine.execUd0F2F s
  | .ud0F30 => Sys2Proof.Machine.execUd0F30 s
  | .ud0F32 => Sys2Proof.Machine.execUd0F32 s
  | .ud0F33 => Sys2Proof.Machine.execUd0F33 s
  | .ud0F34 => Sys2Proof.Machine.execUd0F34 s
  | .ud0F35 => Sys2Proof.Machine.execUd0F35 s
  | .ud0F36 => Sys2Proof.Machine.execUd0F36 s
  | .ud0F37 => Sys2Proof.Machine.execUd0F37 s
  | .ud0F38 => Sys2Proof.Machine.execUd0F38 s
  | .ud0F39 => Sys2Proof.Machine.execUd0F39 s
  | .ud0F3A => Sys2Proof.Machine.execUd0F3A s
  | .ud0F3B => Sys2Proof.Machine.execUd0F3B s
  | .ud0F3C => Sys2Proof.Machine.execUd0F3C s
  | .ud0F3D => Sys2Proof.Machine.execUd0F3D s
  | .ud0F3E => Sys2Proof.Machine.execUd0F3E s
  | .ud0F3F => Sys2Proof.Machine.execUd0F3F s
  | .ud0F50 => Sys2Proof.Machine.execUd0F50 s
  | .ud0F51 => Sys2Proof.Machine.execUd0F51 s
  | .ud0F52 => Sys2Proof.Machine.execUd0F52 s
  | .ud0F53 => Sys2Proof.Machine.execUd0F53 s
  | .ud0F54 => Sys2Proof.Machine.execUd0F54 s
  | .ud0F55 => Sys2Proof.Machine.execUd0F55 s
  | .ud0F56 => Sys2Proof.Machine.execUd0F56 s
  | .ud0F57 => Sys2Proof.Machine.execUd0F57 s
  | .ud0F58 => Sys2Proof.Machine.execUd0F58 s
  | .ud0F59 => Sys2Proof.Machine.execUd0F59 s
  | .ud0F5A => Sys2Proof.Machine.execUd0F5A s
  | .ud0F5B => Sys2Proof.Machine.execUd0F5B s
  | .ud0F5C => Sys2Proof.Machine.execUd0F5C s
  | .ud0F5D => Sys2Proof.Machine.execUd0F5D s
  | .ud0F5E => Sys2Proof.Machine.execUd0F5E s
  | .ud0F5F => Sys2Proof.Machine.execUd0F5F s
  | .ud0F60 => Sys2Proof.Machine.execUd0F60 s
  | .ud0F61 => Sys2Proof.Machine.execUd0F61 s
  | .ud0F62 => Sys2Proof.Machine.execUd0F62 s
  | .ud0F63 => Sys2Proof.Machine.execUd0F63 s
  | .ud0F64 => Sys2Proof.Machine.execUd0F64 s
  | .ud0F65 => Sys2Proof.Machine.execUd0F65 s
  | .ud0F66 => Sys2Proof.Machine.execUd0F66 s
  | .ud0F67 => Sys2Proof.Machine.execUd0F67 s
  | .ud0F68 => Sys2Proof.Machine.execUd0F68 s
  | .ud0F69 => Sys2Proof.Machine.execUd0F69 s
  | .ud0F6A => Sys2Proof.Machine.execUd0F6A s
  | .ud0F6B => Sys2Proof.Machine.execUd0F6B s
  | .ud0F6C => Sys2Proof.Machine.execUd0F6C s
  | .ud0F6D => Sys2Proof.Machine.execUd0F6D s
  | .ud0F6E => Sys2Proof.Machine.execUd0F6E s
  | .ud0F6F => Sys2Proof.Machine.execUd0F6F s
  | .ud0F70 => Sys2Proof.Machine.execUd0F70 s
  | .ud0F71 => Sys2Proof.Machine.execUd0F71 s
  | .ud0F72 => Sys2Proof.Machine.execUd0F72 s
  | .ud0F73 => Sys2Proof.Machine.execUd0F73 s
  | .ud0F74 => Sys2Proof.Machine.execUd0F74 s
  | .ud0F75 => Sys2Proof.Machine.execUd0F75 s
  | .ud0F76 => Sys2Proof.Machine.execUd0F76 s
  | .ud0F77 => Sys2Proof.Machine.execUd0F77 s
  | .ud0F78 => Sys2Proof.Machine.execUd0F78 s
  | .ud0F79 => Sys2Proof.Machine.execUd0F79 s
  | .ud0F7A => Sys2Proof.Machine.execUd0F7A s
  | .ud0F7B => Sys2Proof.Machine.execUd0F7B s
  | .ud0F7C => Sys2Proof.Machine.execUd0F7C s
  | .ud0F7D => Sys2Proof.Machine.execUd0F7D s
  | .ud0F7E => Sys2Proof.Machine.execUd0F7E s
  | .ud0F7F => Sys2Proof.Machine.execUd0F7F s
  | .ud0FA6 => Sys2Proof.Machine.execUd0FA6 s
  | .ud0FA7 => Sys2Proof.Machine.execUd0FA7 s
  | .ud0FAA => Sys2Proof.Machine.execUd0FAA s
  | .ud0FAE => Sys2Proof.Machine.execUd0FAE s
  | .ud0FB8 => Sys2Proof.Machine.execUd0FB8 s
  | .ud0FB9 => Sys2Proof.Machine.execUd0FB9 s
  | .ud0FC2 => Sys2Proof.Machine.execUd0FC2 s
  | .ud0FC3 => Sys2Proof.Machine.execUd0FC3 s
  | .ud0FC4 => Sys2Proof.Machine.execUd0FC4 s
  | .ud0FC5 => Sys2Proof.Machine.execUd0FC5 s
  | .ud0FC6 => Sys2Proof.Machine.execUd0FC6 s
  | .ud0FC7 => Sys2Proof.Machine.execUd0FC7 s
  | .ud0FD0 => Sys2Proof.Machine.execUd0FD0 s
  | .ud0FD1 => Sys2Proof.Machine.execUd0FD1 s
  | .ud0FD2 => Sys2Proof.Machine.execUd0FD2 s
  | .ud0FD3 => Sys2Proof.Machine.execUd0FD3 s
  | .ud0FD4 => Sys2Proof.Machine.execUd0FD4 s
  | .ud0FD5 => Sys2Proof.Machine.execUd0FD5 s
  | .ud0FD6 => Sys2Proof.Machine.execUd0FD6 s
  | .ud0FD7 => Sys2Proof.Machine.execUd0FD7 s
  | .ud0FD8 => Sys2Proof.Machine.execUd0FD8 s
  | .ud0FD9 => Sys2Proof.Machine.execUd0FD9 s
  | .ud0FDA => Sys2Proof.Machine.execUd0FDA s
  | .ud0FDB => Sys2Proof.Machine.execUd0FDB s
  | .ud0FDC => Sys2Proof.Machine.execUd0FDC s
  | .ud0FDD => Sys2Proof.Machine.execUd0FDD s
  | .ud0FDE => Sys2Proof.Machine.execUd0FDE s
  | .ud0FDF => Sys2Proof.Machine.execUd0FDF s
  | .ud0FE0 => Sys2Proof.Machine.execUd0FE0 s
  | .ud0FE1 => Sys2Proof.Machine.execUd0FE1 s
  | .ud0FE2 => Sys2Proof.Machine.execUd0FE2 s
  | .ud0FE3 => Sys2Proof.Machine.execUd0FE3 s
  | .ud0FE4 => Sys2Proof.Machine.execUd0FE4 s
  | .ud0FE5 => Sys2Proof.Machine.execUd0FE5 s
  | .ud0FE6 => Sys2Proof.Machine.execUd0FE6 s
  | .ud0FE7 => Sys2Proof.Machine.execUd0FE7 s
  | .ud0FE8 => Sys2Proof.Machine.execUd0FE8 s
  | .ud0FE9 => Sys2Proof.Machine.execUd0FE9 s
  | .ud0FEA => Sys2Proof.Machine.execUd0FEA s
  | .ud0FEB => Sys2Proof.Machine.execUd0FEB s
  | .ud0FEC => Sys2Proof.Machine.execUd0FEC s
  | .ud0FED => Sys2Proof.Machine.execUd0FED s
  | .ud0FEE => Sys2Proof.Machine.execUd0FEE s
  | .ud0FEF => Sys2Proof.Machine.execUd0FEF s
  | .ud0FF0 => Sys2Proof.Machine.execUd0FF0 s
  | .ud0FF1 => Sys2Proof.Machine.execUd0FF1 s
  | .ud0FF2 => Sys2Proof.Machine.execUd0FF2 s
  | .ud0FF3 => Sys2Proof.Machine.execUd0FF3 s
  | .ud0FF4 => Sys2Proof.Machine.execUd0FF4 s
  | .ud0FF5 => Sys2Proof.Machine.execUd0FF5 s
  | .ud0FF6 => Sys2Proof.Machine.execUd0FF6 s
  | .ud0FF7 => Sys2Proof.Machine.execUd0FF7 s
  | .ud0FF8 => Sys2Proof.Machine.execUd0FF8 s
  | .ud0FF9 => Sys2Proof.Machine.execUd0FF9 s
  | .ud0FFA => Sys2Proof.Machine.execUd0FFA s
  | .ud0FFB => Sys2Proof.Machine.execUd0FFB s
  | .ud0FFC => Sys2Proof.Machine.execUd0FFC s
  | .ud0FFD => Sys2Proof.Machine.execUd0FFD s
  | .ud0FFE => Sys2Proof.Machine.execUd0FFE s
  | .ud0FFF => Sys2Proof.Machine.execUd0FFF s

end Sys2Proof.Machine
end

