-- ==== Sys2Proof/Machine/Step.lean ====
section
/-! DEFINITION. One step of the core (60_exceptions.md R700): the boundary, then one instruction with its prefixes. -/

namespace Sys2Proof.Machine

/-- Fetch, decode and run items: a prefix changes the decode state and the next item follows; an instruction ends the
step (30_encoding.md R223). The count is never used up: the sixteenth fetch is beyond the 15-byte limit (R221). -/
def runItems : Nat → State → Host.Outcome State Fault Refusal
  | 0, s => .next (takeException .ud s)
  | n + 1, s =>
    match fetchItem s with
    | .ok i s' =>
      bif i.isPfx then
        match exec i s' with
        | .next s'' => runItems n s''
        | o => o
      else exec i s'
    | .error st s' => fetchStopped st s'

/-- The instruction at pc: it is counted, then fetched and run (R700, R703). -/
def runInstr (s : State) : Host.Outcome State Fault Refusal := runItems 16 s.beginInstr

/-- Step() (R700). An aborted machine makes no step (R85). -/
def step (s : State) : Host.Outcome State Fault Refusal :=
  match s.aborted with
  | some r => .fault (.aborted r)
  | none =>
    let b := s.boundary
    bif b.aborted.isSome || b.halted then .next b else runInstr b

/-- The state with an instruction, numbered as the opcode table numbers its bits and with zeros above, stored where the
next step fetches it; it stands for the host's load of a program (70_reset_and_hazards.md R748; log entry 8). -/
def State.withFetchWord (s : State) (_nbits w : Nat) : State := s.storeInstrBytes w

end Sys2Proof.Machine
end

