-- ==== Sys2Proof/Machine/Execute.lean ====
section
/-! DEFINITION. The entry point the host calls (60_exceptions.md R705), and what it may do between two calls (R712). -/

namespace Sys2Proof.Machine

/-- What `execute` returns (R705). -/
inductive Status where
  /-- The budget is used up. -/
  | continuable
  /-- The halted flag is set. -/
  | halted
  /-- The last step raised an exception, which has been delivered. -/
  | faultPending
  /-- The machine has aborted. -/
  | aborted (r : AbortReason)
deriving DecidableEq, Repr

/-- The tests `execute` makes after a step, but for the budget (R705). -/
def State.statusAfter (s : State) : Option Status :=
  match s.aborted with
  | some r => some (.aborted r)
  | none => bif s.halted then some .halted else bif s.stepFaulted then some .faultPending else none

/-- The loop of `execute`: a step that ends none of its tests counts one cycle, so the budget bounds the steps
(R705, R772). -/
def executeLoop : Nat → State → State × Status
  | 0, s => (s, .continuable)
  | n + 1, s =>
    match step s with
    | .next s' =>
      match s'.statusAfter with
      | some st => (s', st)
      | none => executeLoop n s'
    | .fault (.aborted r) => (s, .aborted r)
    | .refused _ => (s, .continuable)

/-- execute(budget), for a budget of at least 1 (R705). -/
def execute (budget : Nat) (s : State) : State × Status :=
  match s.aborted with
  | some r => (s, .aborted r)
  | none => executeLoop budget s

/-- The host drives the interrupt line between two calls (R712, R716). -/
def State.driveIrqLine (s : State) (line : Bool) : State := { s with irqLine := line }

end Sys2Proof.Machine
end

