-- ==== Sys2Proof/Safety.lean ====
section
/-! DEFINITION. What a legal state is, what a run is, and the places an operand is stored to: the terms in which the
statements speak. -/

namespace Sys2Proof.Machine

/-- Every listed byte is inside physical memory (R120, R124). -/
def memBelow (n : Nat) (m : List Host.Cell) : Bool := m.all fun c => Nat.blt c.1 n

/-- Physical memory is in canonical form and inside MEM_SIZE, a whole number of pages up to 2^32 (R7, R120). -/
def State.memLegal (s : State) : Bool :=
  Memory.wf s.mem && memBelow s.memSize s.mem
    && (s.memSize % 4096 == 0 && Nat.ble 4096 s.memSize && Nat.ble s.memSize Config.memSizeMax)

/-- The TLB is in canonical form, every page it maps is on the eviction list, and the list is within its capacity
(R80, R81, R165, R168). -/
def State.tlbLegal (s : State) : Bool :=
  keysRise s.tlb && s.tlb.all (fun e => s.tlbList.contains e.1)
    && s.tlbList.all (fun p => Nat.blt p 1048576)
    && Nat.ble s.tlbList.length Config.tlbListMax

/-- The stored EFLAGS bits are system flags only, and the second record of the lazy flags is of no INC or DEC
(R46, R48, R56). -/
def State.flagsLegal (s : State) : Bool :=
  s.eflagsSys &&& ~~~Config.sysFlagMask == 0#32 && !s.cc.op2.isIncDec

/-- CR0.ET reads 1, the table limits have 16 bits, and CPL is 0 in real-address mode (R62, R69, R690). -/
def State.controlLegal (s : State) : Bool :=
  s.cr0.getLsbD 4 && Nat.ble s.gdtr.limit.toNat 0xFFFF && Nat.ble s.idtr.limit.toNat 0xFFFF
    && (s.pe || s.cpl == 0#2)

/-- The instruction being fetched has at most 15 bytes (R221). -/
def State.decLegal (s : State) : Bool := Nat.ble s.dec.len Config.maxInsnLen

/-- A legal state: what every step keeps. -/
def State.legal (s : State) : Bool :=
  s.memLegal && s.tlbLegal && s.flagsLegal && s.controlLegal && s.decLegal

/-- A launch the spec allows (R7, R740). -/
def Launch.legal (l : Launch) : Bool :=
  Memory.wf l.mem && memBelow l.memSize l.mem
    && (l.memSize % 4096 == 0 && Nat.ble 4096 l.memSize && Nat.ble l.memSize Config.memSizeMax)

/-- A run of the machine: what it reaches by n steps, none where it stopped. -/
def runSteps : Nat → State → Option State
  | 0, s => some s
  | n + 1, s =>
    match step s with
    | .next t => runSteps n t
    | _ => none

/-- Two states with the same byte at every physical address outside a list. -/
def State.sameOutside (as : List W32) (s t : State) : Prop := ∀ a : W32, a ∉ as → t.byteAt a = s.byteAt a

/-- The control state a program at CPL 3 cannot change (60_exceptions.md R691): CR0, CR3, CR4, GDTR, IDTR, LDTR, TR and
the halted flag. -/
def State.sameControl (s t : State) : Prop :=
  t.cr0 = s.cr0 ∧ t.cr3 = s.cr3 ∧ t.cr4 = s.cr4 ∧ t.gdtr = s.gdtr ∧ t.idtr = s.idtr
    ∧ t.segs.ldtr = s.segs.ldtr ∧ t.segs.tr = s.segs.tr ∧ t.halted = s.halted

/-- The states agree on everything but what a translation may write: the TLB and its list, CR2, and physical memory,
where it sets accessed and dirty bits (R162, R166). -/
def State.sameButWalk (s t : State) : Prop :=
  t = { s with tlb := t.tlb, tlbList := t.tlbList, cr2 := t.cr2, mem := t.mem }

/-- Every page the TLB maps is mapped to itself, for writing and for user accesses, as paging disabled enters it
(R161). -/
def State.identityTlb (s : State) : Prop :=
  ∀ e ∈ s.tlb, e.2.ppn.toNat = e.1 ∧ e.2.writable = true ∧ e.2.useracc = true

/-- Memory differs at most in bits 5 and 6 of bytes at dword-aligned addresses, which are only set: the accessed and
dirty bits of page-directory and page-table entries (R162, R163). -/
def State.onlyAccessedDirty (s t : State) : Prop :=
  ∀ a : W32, t.byteAt a = s.byteAt a
    ∨ a.toNat % 4 = 0 ∧ t.byteAt a &&& ~~~0x60#8 = s.byteAt a &&& ~~~0x60#8 ∧ s.byteAt a &&& t.byteAt a = s.byteAt a

/-! ### The flags as a value -/

/-- The six arithmetic flags. -/
structure SixFlags where
  cf : Bool
  pf : Bool
  af : Bool
  zf : Bool
  sf : Bool
  of : Bool
deriving DecidableEq, Repr

/-- What software sees of the lazy tuple (R52 to R55, R58). -/
def CC.flags (c : CC) : SixFlags := { cf := c.cf, pf := c.pf, af := c.af, zf := c.zf, sf := c.sf, of := c.of }

/-- ZF, SF and PF from a result, with CF, AF and OF given. -/
def flagsOf (w : Width) (r : W32) (cf af ovf : Bool) : SixFlags :=
  { cf := cf, pf := parity8 r, af := af, zf := r == 0#32, sf := msbW w r, of := ovf }

/-- The flags of an ALU operation computed directly from the operands a and b and the result r, as the "Flags written"
lines of R351 to R358 give them; `cin` is CF before. -/
def aluFlags (op : AluOp) (w : Width) (cin : Bool) (a b r : W32) : SixFlags :=
  let addOf := msbW w ((a ^^^ r) &&& (b ^^^ r))
  let subOf := msbW w ((a ^^^ b) &&& (a ^^^ r))
  let af := (a ^^^ b ^^^ r).getLsbD 4
  match op with
  | .addOp => flagsOf w r (decide (2 ^ w.bits ≤ a.toNat + b.toNat)) af addOf
  | .adcOp => flagsOf w r (decide (2 ^ w.bits ≤ a.toNat + b.toNat + cin.toNat)) af addOf
  | .subOp => flagsOf w r (decide (a.toNat < b.toNat)) af subOf
  | .cmpOp => flagsOf w r (decide (a.toNat < b.toNat)) af subOf
  | .sbbOp => flagsOf w r (decide (a.toNat < b.toNat + cin.toNat)) af subOf
  | .andOp => flagsOf w r false false false
  | .orOp => flagsOf w r false false false
  | .xorOp => flagsOf w r false false false

/-- Every flag but CF as it was, CF replaced. -/
def SixFlags.withCf (f : SixFlags) (b : Bool) : SixFlags := { f with cf := b }

/-- Every flag but ZF as it was, ZF replaced. -/
def SixFlags.withZf (f : SixFlags) (b : Bool) : SixFlags := { f with zf := b }

/-! ### The instructions by family -/

/-- The form op r/m8, r8 (R350). -/
def AluOp.rm8R8 : AluOp → Rm → Reg → Instr
  | .addOp => .addRm8R8
  | .orOp => .orRm8R8
  | .adcOp => .adcRm8R8
  | .sbbOp => .sbbRm8R8
  | .andOp => .andRm8R8
  | .subOp => .subRm8R8
  | .xorOp => .xorRm8R8
  | .cmpOp => .cmpRm8R8

/-- The form op r/mv, rv (R350). -/
def AluOp.rmvRv : AluOp → Rm → Reg → Instr
  | .addOp => .addRmvRv
  | .orOp => .orRmvRv
  | .adcOp => .adcRmvRv
  | .sbbOp => .sbbRmvRv
  | .andOp => .andRmvRv
  | .subOp => .subRmvRv
  | .xorOp => .xorRmvRv
  | .cmpOp => .cmpRmvRv

/-- The form op r8, r/m8 (R350). -/
def AluOp.r8Rm8 : AluOp → Reg → Rm → Instr
  | .addOp => .addR8Rm8
  | .orOp => .orR8Rm8
  | .adcOp => .adcR8Rm8
  | .sbbOp => .sbbR8Rm8
  | .andOp => .andR8Rm8
  | .subOp => .subR8Rm8
  | .xorOp => .xorR8Rm8
  | .cmpOp => .cmpR8Rm8

/-- The form op rv, r/mv (R350). -/
def AluOp.rvRmv : AluOp → Reg → Rm → Instr
  | .addOp => .addRvRmv
  | .orOp => .orRvRmv
  | .adcOp => .adcRvRmv
  | .sbbOp => .sbbRvRmv
  | .andOp => .andRvRmv
  | .subOp => .subRvRmv
  | .xorOp => .xorRvRmv
  | .cmpOp => .cmpRvRmv

/-- The form op AL, imm8 (R350). -/
def AluOp.alImm8 : AluOp → Byte → Instr
  | .addOp => .addAlImm8
  | .orOp => .orAlImm8
  | .adcOp => .adcAlImm8
  | .sbbOp => .sbbAlImm8
  | .andOp => .andAlImm8
  | .subOp => .subAlImm8
  | .xorOp => .xorAlImm8
  | .cmpOp => .cmpAlImm8

/-- The form op eAX, immv (R350). -/
def AluOp.eaxImmv : AluOp → ImmV → Instr
  | .addOp => .addEaxImmv
  | .orOp => .orEaxImmv
  | .adcOp => .adcEaxImmv
  | .sbbOp => .sbbEaxImmv
  | .andOp => .andEaxImmv
  | .subOp => .subEaxImmv
  | .xorOp => .xorEaxImmv
  | .cmpOp => .cmpEaxImmv

/-- The form op r/m8, imm8, opcodes 80 and 82 (R350). -/
def AluOp.rm8Imm8 : AluOp → Bool → Rm → Byte → Instr
  | .addOp => .addRm8Imm8
  | .orOp => .orRm8Imm8
  | .adcOp => .adcRm8Imm8
  | .sbbOp => .sbbRm8Imm8
  | .andOp => .andRm8Imm8
  | .subOp => .subRm8Imm8
  | .xorOp => .xorRm8Imm8
  | .cmpOp => .cmpRm8Imm8

/-- The form op r/mv, immv (R350). -/
def AluOp.rmvImmv : AluOp → Rm → ImmV → Instr
  | .addOp => .addRmvImmv
  | .orOp => .orRmvImmv
  | .adcOp => .adcRmvImmv
  | .sbbOp => .sbbRmvImmv
  | .andOp => .andRmvImmv
  | .subOp => .subRmvImmv
  | .xorOp => .xorRmvImmv
  | .cmpOp => .cmpRmvImmv

/-- The form op r/mv, imm8 sign-extended (R350). -/
def AluOp.rmvImm8 : AluOp → Rm → Byte → Instr
  | .addOp => .addRmvImm8
  | .orOp => .orRmvImm8
  | .adcOp => .adcRmvImm8
  | .sbbOp => .sbbRmvImm8
  | .andOp => .andRmvImm8
  | .subOp => .subRmvImm8
  | .xorOp => .xorRmvImm8
  | .cmpOp => .cmpRmvImm8

/-- The eight encodings of group 2, /4 and /6 both SHL (R400, R405). -/
inductive ShiftRow where
  | rol | ror | rcl | rcr | shl | shr | sal | sar
deriving DecidableEq, Repr

/-- The operation an encoding stands for (R400, R405). -/
def ShiftRow.op : ShiftRow → ShiftOp
  | .rol => .rol
  | .ror => .ror
  | .rcl => .rcl
  | .rcr => .rcr
  | .shl => .shl
  | .shr => .shr
  | .sal => .shl
  | .sar => .sar

/-- C0 /n ib (R400). -/
def ShiftRow.rm8Imm8 : ShiftRow → Rm → Byte → Instr
  | .rol => .rolRm8Imm8
  | .ror => .rorRm8Imm8
  | .rcl => .rclRm8Imm8
  | .rcr => .rcrRm8Imm8
  | .shl => .shlRm8Imm8
  | .shr => .shrRm8Imm8
  | .sal => .salRm8Imm8
  | .sar => .sarRm8Imm8

/-- C1 /n ib (R400). -/
def ShiftRow.rmvImm8 : ShiftRow → Rm → Byte → Instr
  | .rol => .rolRmvImm8
  | .ror => .rorRmvImm8
  | .rcl => .rclRmvImm8
  | .rcr => .rcrRmvImm8
  | .shl => .shlRmvImm8
  | .shr => .shrRmvImm8
  | .sal => .salRmvImm8
  | .sar => .sarRmvImm8

/-- D0 /n (R400). -/
def ShiftRow.rm8One : ShiftRow → Rm → Instr
  | .rol => .rolRm8One
  | .ror => .rorRm8One
  | .rcl => .rclRm8One
  | .rcr => .rcrRm8One
  | .shl => .shlRm8One
  | .shr => .shrRm8One
  | .sal => .salRm8One
  | .sar => .sarRm8One

/-- D1 /n (R400). -/
def ShiftRow.rmvOne : ShiftRow → Rm → Instr
  | .rol => .rolRmvOne
  | .ror => .rorRmvOne
  | .rcl => .rclRmvOne
  | .rcr => .rcrRmvOne
  | .shl => .shlRmvOne
  | .shr => .shrRmvOne
  | .sal => .salRmvOne
  | .sar => .sarRmvOne

/-- D2 /n (R400). -/
def ShiftRow.rm8Cl : ShiftRow → Rm → Instr
  | .rol => .rolRm8Cl
  | .ror => .rorRm8Cl
  | .rcl => .rclRm8Cl
  | .rcr => .rcrRm8Cl
  | .shl => .shlRm8Cl
  | .shr => .shrRm8Cl
  | .sal => .salRm8Cl
  | .sar => .sarRm8Cl

/-- D3 /n (R400). -/
def ShiftRow.rmvCl : ShiftRow → Rm → Instr
  | .rol => .rolRmvCl
  | .ror => .rorRmvCl
  | .rcl => .rclRmvCl
  | .rcr => .rcrRmvCl
  | .shl => .shlRmvCl
  | .shr => .shrRmvCl
  | .sal => .salRmvCl
  | .sar => .sarRmvCl

/-- INC rv, one opcode for each register (R360). -/
def incReg : Reg → Instr
  | .eax => .incEax
  | .ecx => .incEcx
  | .edx => .incEdx
  | .ebx => .incEbx
  | .esp => .incEsp
  | .ebp => .incEbp
  | .esi => .incEsi
  | .edi => .incEdi

/-- DEC rv, one opcode for each register (R361). -/
def decReg : Reg → Instr
  | .eax => .decEax
  | .ecx => .decEcx
  | .edx => .decEdx
  | .ebx => .decEbx
  | .esp => .decEsp
  | .ebp => .decEbp
  | .esi => .decEsi
  | .edi => .decEdi

/-- An ALU instruction with an r/m destination: the instruction, its width and the value of its source operand
(R350). -/
inductive AluRmForm (op : AluOp) (s : State) (rm : Rm) : Instr → Width → W32 → Prop where
  | rm8R8 (r : Reg) : AluRmForm op s rm (op.rm8R8 rm r) .w8 (s.regs.read .w8 r)
  | rmvRv (r : Reg) : AluRmForm op s rm (op.rmvRv rm r) s.osz (s.regs.read s.osz r)
  | rm8Imm8 (x82 : Bool) (ib : Byte) : AluRmForm op s rm (op.rm8Imm8 x82 rm ib) .w8 (ib.setWidth 32)
  | rmvImmv (iv : ImmV) : AluRmForm op s rm (op.rmvImmv rm iv) s.osz iv.val
  | rmvImm8 (ib : Byte) : AluRmForm op s rm (op.rmvImm8 rm ib) s.osz (truncW s.osz (ib.signExtend 32))

/-- A shift or rotation: the instruction, its width and its raw count (R400). -/
inductive ShiftForm (k : ShiftRow) (s : State) (rm : Rm) : Instr → Width → W32 → Prop where
  | rm8Imm8 (ib : Byte) : ShiftForm k s rm (k.rm8Imm8 rm ib) .w8 (ib.setWidth 32)
  | rmvImm8 (ib : Byte) : ShiftForm k s rm (k.rmvImm8 rm ib) s.osz (ib.setWidth 32)
  | rm8One : ShiftForm k s rm (k.rm8One rm) .w8 1#32
  | rmvOne : ShiftForm k s rm (k.rmvOne rm) s.osz 1#32
  | rm8Cl : ShiftForm k s rm (k.rm8Cl rm) .w8 (s.regs.read .w8 .ecx)
  | rmvCl : ShiftForm k s rm (k.rmvCl rm) s.osz (s.regs.read .w8 .ecx)

/-! ### What the accesses of an instruction leave -/

/-- What reading operands leaves: every register as it was, and in memory at most accessed and dirty bits set (R162,
R163, R661). -/
def State.afterReads (s t : State) : Prop := s.sameButWalk t ∧ t.cr2 = s.cr2 ∧ s.onlyAccessedDirty t

/-- What a store of a value at a place of state s, which made t of it, has done: a register takes the value; in memory the
place's bytes translate IN s, for a write at the level of s, the value stands at those physical addresses, lowest byte
first, and every other byte is as it was but for accessed and dirty bits; nothing else changes but the TLB (R42, R127,
R128, R140, R240). -/
def Loc.stored (w : Width) (v : W32) (s t : State) : Loc → Prop
  | .reg r => t = { s with regs := s.regs.write w r v }
  | .mem seg off =>
    t = { s with tlb := t.tlb, tlbList := t.tlbList, mem := t.mem }
      ∧ ∃ as u, translateSpan ((s.segs.get seg).base + off) w.bytes .write (s.cpl == 3#2) s = .ok as u
          ∧ s.onlyAccessedDirty u ∧ u.sameOutside as t ∧ as.map t.byteAt = bytesOf w.bytes v

/-- What the write of a read-modify-write has done at its place, after a read of it that held h: as `stored`, the place's
bytes translating again in s; or, where that second translation would raise, the value stands at the addresses the first
one answered, and nothing else changes (R128, R130, log entry 18). -/
def Loc.storedBack (w : Width) (v : W32) (h : Held) (s t : State) (l : Loc) : Prop :=
  l.stored w v s t
    ∨ ∃ seg off e u, l = .mem seg off
        ∧ translateSpan ((s.segs.get seg).base + off) w.bytes .write (s.cpl == 3#2) s = .error (.raise e) u
        ∧ t = s.setMem t.mem ∧ s.sameOutside h.places t ∧ h.places.map t.byteAt = bytesOf w.bytes v

/-- One access to an operand: a read that answers a value, or a store of one. -/
inductive Touch where
  | read (w : Width) (l : Loc) (v : W32)
  | write (w : Width) (l : Loc) (v : W32)
deriving DecidableEq, Repr

/-- The access completes, with the value it names, and takes s to t. -/
def Touch.run (s t : State) : Touch → Prop
  | .read w l v => readLoc w l s = .ok v t
  | .write w l v => writeLoc w l v s = .ok () t

/-- What the access leaves: a read, accessed and dirty bits at most; a write, its value at its place. -/
def Touch.left (s t : State) : Touch → Prop
  | .read _ _ _ => s.afterReads t
  | .write w l v => l.stored w v s t

/-- Accesses that run one after the other and complete: from s to t. -/
def accesses : List Touch → State → State → Prop
  | [], s, t => t = s
  | a :: rest, s, t => ∃ u, a.run s u ∧ accesses rest u t

/-- The frame of a sequence of accesses: each runs from the state the one before it left, and leaves only what it
stores. -/
def frames : List Touch → State → State → Prop
  | [], s, t => t = s
  | a :: rest, s, t => ∃ u, a.run s u ∧ a.left s u ∧ frames rest u t

/-- The stores of values at offsets in the stack segment, in order. -/
def onStack (w : Width) (items : List (W32 × W32)) : List Touch := items.map fun p => .write w (.mem .ss p.1) p.2

/-- The reads of values at offsets in the stack segment, in order. -/
def offStack (w : Width) (items : List (W32 × W32)) : List Touch := items.map fun p => .read w (.mem .ss p.1) p.2

/-- The display copies of ENTER under a stack mask: each value is read one item below the old frame pointer and stored
one item below the stack pointer, both moving down (R454). -/
def displayCopies (w : Width) (mask : W32) : W32 → W32 → List W32 → List Touch
  | _, _, [] => []
  | bp, sp, v :: vs =>
    let n := BitVec.ofNat 32 w.bytes
    .read w (.mem .ss ((bp - n) &&& mask)) v :: .write w (.mem .ss ((sp - n) &&& mask)) v
      :: displayCopies w mask (bp - n) (sp - n) vs

/-- The pushes of a delivery or of a call gate, each item of n bytes stored below the one before it in a segment at a base
under a mask, and every store completing: from the stack pointer p in state s to q in state t. `sys` says that they are
system writes, which a switch to an inner level makes (R131, R580, R673). -/
def framePushes (sys : Bool) (base mask : W32) (n : Nat) : W32 → List W32 → State → W32 → State → Prop
  | p, [], s, q, t => q = p ∧ t = s
  | p, v :: vs, s, q, t => ∃ u,
      linWrite (base + ((p - BitVec.ofNat 32 n) &&& mask)) n v (!sys && s.cpl == 3#2) s = .ok () u
        ∧ framePushes sys base mask n ((p - BitVec.ofNat 32 n) &&& mask) vs u q t

/-- The parameters of a call gate: item k - 1 of the old stack, of state s, first, each read and then written below the
item before it on the new stack, which is at base nb under the mask nm; from the new stack pointer p in state u to q in
state t (R580). -/
def gateParams (w : Width) (nb nm : W32) (s : State) : Nat → W32 → State → W32 → State → Prop
  | 0, p, u, q, t => q = p ∧ t = u
  | k + 1, p, u, q, t => ∃ v u1 u2,
      accRead (s.lin .ss ((s.regs.esp + BitVec.ofNat 32 (k * w.bytes)) &&& s.stackMask)) w.bytes u = .ok v u1
        ∧ sysWrite (nb + ((p - BitVec.ofNat 32 w.bytes) &&& nm)) w.bytes v u1 = .ok () u2
        ∧ gateParams w nb nm s k ((p - BitVec.ofNat 32 w.bytes) &&& nm) u2 q t

/-- The stack offset k items of a width below the stack pointer (R316). -/
def State.below (s : State) (w : Width) (k : Nat) : W32 :=
  (s.regs.esp - BitVec.ofNat 32 (k * w.bytes)) &&& s.stackMask

/-- The stack offset k items of a width above the stack pointer (R317). -/
def State.above (s : State) (w : Width) (k : Nat) : W32 :=
  (s.regs.esp + BitVec.ofNat 32 (k * w.bytes)) &&& s.stackMask

/-- The registers with the stack pointer at a value, the bits outside the stack mask as they were (R316, R317). -/
def State.espAt (s : State) (v : W32) : Regs :=
  s.regs.set .esp ((s.regs.esp &&& ~~~s.stackMask) ||| (v &&& s.stackMask))

/-- The value of a displacement: none is 0, one byte is sign-extended (R231, R233). -/
inductive DispVal : {n : Nat} → Disp n → W32 → Prop where
  | none {n : Nat} : DispVal (.none : Disp n) 0#32
  | d8 {n : Nat} (b : Byte) : DispVal (.d8 b : Disp n) (b.signExtend 32)
  | dn {n : Nat} (v : BitVec n) : DispVal (.dn v) (v.setWidth 32)

/-- A memory form with its default segment and its effective address, from the general registers: the rows of R231 to
R233. -/
inductive Addressed (g : Regs) : Rm → Sreg → W32 → Prop where
  | abs16 (d : W16) : Addressed g (.abs16 d) .ds (d.setWidth 32)
  | ind16 (b : Base16) (d : Disp 16) (seg : Sreg) (x y : W32) :
      (b, seg, x) ∈ [(.bxsi, .ds, g.ebx + g.esi), (.bxdi, .ds, g.ebx + g.edi), (.bpsi, .ss, g.ebp + g.esi),
                     (.bpdi, .ss, g.ebp + g.edi), (.si, .ds, g.esi), (.di, .ds, g.edi), (.bp, .ss, g.ebp),
                     (.bx, .ds, g.ebx)] →
      DispVal d y → Addressed g (.ind16 b d) seg ((x + y) &&& 0x0000FFFF#32)
  | abs32 (d : W32) : Addressed g (.abs32 d) .ds d
  | ind32 (b : Reg) (d : Disp 32) (seg : Sreg) (x y : W32) :
      (b, seg, x) ∈ [(.eax, .ds, g.eax), (.ecx, .ds, g.ecx), (.edx, .ds, g.edx), (.ebx, .ds, g.ebx),
                     (.ebp, .ss, g.ebp), (.esi, .ds, g.esi), (.edi, .ds, g.edi)] →
      DispVal d y → Addressed g (.ind32 b d) seg (x + y)
  | sib (scale : BitVec 2) (index b : Reg) (d : Disp 32) (seg : Sreg) (k x y : W32) :
      (index, k) ∈ [(.eax, g.eax), (.ecx, g.ecx), (.edx, g.edx), (.ebx, g.ebx), (.esp, 0#32), (.ebp, g.ebp),
                    (.esi, g.esi), (.edi, g.edi)] →
      (b, seg, x) ∈ [(.eax, .ds, g.eax), (.ecx, .ds, g.ecx), (.edx, .ds, g.edx), (.ebx, .ds, g.ebx),
                     (.esp, .ss, g.esp), (.ebp, .ss, g.ebp), (.esi, .ds, g.esi), (.edi, .ds, g.edi)] →
      DispVal d y → Addressed g (.sib scale index b d) seg (x + (k <<< scale.toNat) + y)
  | sibAbs (scale : BitVec 2) (index : Reg) (d k : W32) :
      (index, k) ∈ [(.eax, g.eax), (.ecx, g.ecx), (.edx, g.edx), (.ebx, g.ebx), (.esp, 0#32), (.ebp, g.ebp),
                    (.esi, g.esi), (.edi, g.edi)] →
      Addressed g (.sibAbs scale index d) .ds (d + (k <<< scale.toNat))

/-- A far JMP and a far CALL of one form: the selector and the offset it names, and the state after its operand is read
(R565, R568 to R571). -/
inductive FarForm (s : State) : Instr → Instr → W16 → W32 → State → Prop where
  | ptr (off : ImmV) (sel : W16) : FarForm s (.jmpPtr off sel) (.callPtr off sel) sel off.val s
  | mem (rm : Rm) (seg : Sreg) (ea off sel : W32) (t u : State) :
      s.locOf rm = some (.mem seg ea) → readLoc s.osz (.mem seg ea) s = .ok off t →
      readLoc .w16 (.mem seg (truncW s.asz (ea + BitVec.ofNat 32 s.osz.bytes))) t = .ok sel u →
      FarForm s (.jmpM rm) (.callM rm) (sel.setWidth 16) off u

/-- A segment register a return to an outer level leaves: null where it is data or non-conforming code more privileged
than the new level, else as it was (R587). -/
def SegReg.outer (cpl : BitVec 2) (r : SegReg) : SegReg :=
  bif (!r.rights.getLsbD 11 || !r.rights.getLsbD 10) && (r.rights.extractLsb' 13 2).ult cpl then
    { sel := 0#16, base := 0#32, limit := 0#32, rights := 0#32 }
  else r

/-- Only one segment register, and what its descriptor's marking may touch, changes (R180, R560). -/
def State.onlySegment (n : Sreg) (s t : State) : Prop :=
  t = { s with segs := s.segs.set n (t.segs.get n), tlb := t.tlb, tlbList := t.tlbList, mem := t.mem }

/-- The end of a string instruction whose element took s to t: without a repeat prefix the next instruction follows; with
one the count falls by one and the instruction is repeated until the count is 0 or, for CMPS and SCAS, ZF ends it
(R481). -/
def State.afterElement (compares : Bool) (s t : State) : State :=
  match s.dec.rep with
  | none => { t with pc := s.nextpc }
  | some rp =>
    let c := truncW s.asz (s.regs.read s.asz .ecx - 1#32)
    let u := { t with regs := t.regs.write s.asz .ecx c }
    let ends := c == 0#32 || (compares && (bif rp == .repe then !t.cc.zf else t.cc.zf))
    bif ends then { u with pc := s.nextpc } else u

/-- An index register after an element: moved by its width, down when DF is set, at the address size (R480). -/
def State.moved (s : State) (w : Width) (r : Reg) : Regs :=
  s.regs.write s.asz r
    (bif s.df then s.regs.read s.asz r - BitVec.ofNat 32 w.bytes else s.regs.read s.asz r + BitVec.ofNat 32 w.bytes)

/-- The source and destination index registers after an element of MOVS or CMPS (R480). -/
def State.movedBoth (s : State) (w : Width) : Regs :=
  { s.regs with esi := (s.moved w .esi).esi, edi := (s.moved w .edi).edi }

/-- The encodings the core does not admit, one-byte opcodes, groups, and 0F04 (30_encoding.md R262). -/
def notAdmittedOneByte : List Instr :=
  [.udD6, .udF1, .udF6Ext1, .udF7Ext1, .udFEExt2, .udFEExt3, .udFEExt4, .udFEExt5, .udFEExt6, .udFEExt7, .udFFExt7,
   .ud8FExt1, .ud8FExt2, .ud8FExt3, .ud8FExt4, .ud8FExt5, .ud8FExt6, .ud8FExt7, .udC6Ext1, .udC6Ext2, .udC6Ext3,
   .udC6Ext4, .udC6Ext5, .udC6Ext6, .udC6Ext7, .udC7Ext1, .udC7Ext2, .udC7Ext3, .udC7Ext4, .udC7Ext5, .udC7Ext6,
   .udC7Ext7, .ud0F00Ext6, .ud0F00Ext7, .ud0F01Ext5, .ud0FBAExt0, .ud0FBAExt1, .ud0FBAExt2, .ud0FBAExt3, .ud0F04]

/-- The encodings the core does not admit, 0F05 to 0F33 (30_encoding.md R262). -/
def notAdmittedTwoByteLow : List Instr :=
  [.ud0F05, .ud0F07, .ud0F0A, .ud0F0B, .ud0F0C, .ud0F0D, .ud0F0E, .ud0F0F, .ud0F10, .ud0F11, .ud0F12, .ud0F13,
   .ud0F14, .ud0F15, .ud0F16, .ud0F17, .ud0F18, .ud0F19, .ud0F1A, .ud0F1B, .ud0F1C, .ud0F1D, .ud0F1E, .ud0F1F,
   .ud0F21, .ud0F24, .ud0F25, .ud0F26, .ud0F27, .ud0F28, .ud0F29, .ud0F2A, .ud0F2B, .ud0F2C, .ud0F2D, .ud0F2E,
   .ud0F2F, .ud0F30, .ud0F32, .ud0F33]

/-- The encodings the core does not admit, 0F34 to 0F6B (30_encoding.md R262). -/
def notAdmittedTwoByteMid : List Instr :=
  [.ud0F34, .ud0F35, .ud0F36, .ud0F37, .ud0F38, .ud0F39, .ud0F3A, .ud0F3B, .ud0F3C, .ud0F3D, .ud0F3E, .ud0F3F,
   .ud0F50, .ud0F51, .ud0F52, .ud0F53, .ud0F54, .ud0F55, .ud0F56, .ud0F57, .ud0F58, .ud0F59, .ud0F5A, .ud0F5B,
   .ud0F5C, .ud0F5D, .ud0F5E, .ud0F5F, .ud0F60, .ud0F61, .ud0F62, .ud0F63, .ud0F64, .ud0F65, .ud0F66, .ud0F67,
   .ud0F68, .ud0F69, .ud0F6A, .ud0F6B]

/-- The encodings the core does not admit, 0F6C to 0FD7 (30_encoding.md R262). -/
def notAdmittedTwoByteHigh : List Instr :=
  [.ud0F6C, .ud0F6D, .ud0F6E, .ud0F6F, .ud0F70, .ud0F71, .ud0F72, .ud0F73, .ud0F74, .ud0F75, .ud0F76, .ud0F77,
   .ud0F78, .ud0F79, .ud0F7A, .ud0F7B, .ud0F7C, .ud0F7D, .ud0F7E, .ud0F7F, .ud0FA6, .ud0FA7, .ud0FAA, .ud0FAE,
   .ud0FB8, .ud0FB9, .ud0FC2, .ud0FC3, .ud0FC4, .ud0FC5, .ud0FC6, .ud0FC7, .ud0FD0, .ud0FD1, .ud0FD2, .ud0FD3,
   .ud0FD4, .ud0FD5, .ud0FD6, .ud0FD7]

/-- The encodings the core does not admit, 0FD8 to 0FFF (30_encoding.md R262). -/
def notAdmittedTwoByteTop : List Instr :=
  [.ud0FD8, .ud0FD9, .ud0FDA, .ud0FDB, .ud0FDC, .ud0FDD, .ud0FDE, .ud0FDF, .ud0FE0, .ud0FE1, .ud0FE2, .ud0FE3,
   .ud0FE4, .ud0FE5, .ud0FE6, .ud0FE7, .ud0FE8, .ud0FE9, .ud0FEA, .ud0FEB, .ud0FEC, .ud0FED, .ud0FEE, .ud0FEF,
   .ud0FF0, .ud0FF1, .ud0FF2, .ud0FF3, .ud0FF4, .ud0FF5, .ud0FF6, .ud0FF7, .ud0FF8, .ud0FF9, .ud0FFA, .ud0FFB,
   .ud0FFC, .ud0FFD, .ud0FFE, .ud0FFF]

/-- The encodings the core does not admit: each raises the invalid-opcode exception (30_encoding.md R262). -/
def notAdmitted : List Instr :=
  notAdmittedOneByte ++ notAdmittedTwoByteLow ++ notAdmittedTwoByteMid
    ++ notAdmittedTwoByteHigh ++ notAdmittedTwoByteTop

end Sys2Proof.Machine
end

