-- ==== Sys2Proof/Certificates/Slice0/Obligations.lean ====
section
/-! DEFINITION. The statements about this model, for the provers. Each names the rules of the spec it rests on. The
hypotheses of a statement about one instruction are about the state and the operands: which place an operand names,
what its accesses answer, which mode the core is in. -/

open Sys2Proof Sys2Proof.Machine

/-! ### Encoding, fetch and the step -/

/-- Decoding an encoded well-formed item gives the item back and leaves the bytes after it, in every mode. The tables of
30_encoding.md; how their rows became constructors is log entry 12. -/
def Obligations.DecodeInvertsEncode : Prop :=
  ∀ (m : Mode) (i : Instr) (rest : List Byte), WellFormed m i = true →
    decodeBytes m (encode i ++ rest) = .ok (i, rest)

/-- The encodings the spec works out decode to their instructions: all sixteen rows of R248, each prefix an item of its
own; of the examples of R309, R351, R358 and R376 one each; 0F 0B, which R262 does not admit; and three words written out
here from the tables of R232, R233, R252 and R253, whose readings are this statement's and not worked out in the spec (R232,
R233, R248, R252, R253, R262, R309, R351, R358, R376). It rests on the spec's own decisions D15, D47 (92_eei_decisions.md) and
on what the spec marks as derived in R248. That a prefix is an item of its own is the model's choice (log entry 11). -/
def Obligations.WordsOfTheSpecDecode : Prop :=
  let m16 : Mode := { osz32 := false, asz32 := false, pe := false }
  let m16wide : Mode := { osz32 := true, asz32 := false, pe := false }
  let m32 : Mode := { osz32 := true, asz32 := true, pe := true }
  decodeBytes m32 [0x83#8, 0xC0#8, 0x03#8] = .ok (.addRmvImm8 (.reg .eax) 3#8, [])
    ∧ decodeBytes m32 [0x0F#8, 0xC1#8, 0x03#8] = .ok (.xaddRmvRv (.ind32 .ebx .none) .eax, [])
    ∧ decodeBytes m32 [0x87#8, 0xD8#8] = .ok (.xchgRmvRv (.reg .eax) .ebx, [])
    ∧ decodeBytes m32 [0x31#8, 0xC0#8] = .ok (.xorRmvRv (.reg .eax) .eax, [])
    ∧ decodeBytes m16 [0xCD#8, 0x80#8] = .ok (.intImm8 0x80#8, [])
    ∧ decodeBytes m32 [0x8B#8, 0x44#8, 0x8E#8, 0x10#8]
        = .ok (.movRvRmv .eax (.sib 2#2 .ecx .esi (.d8 0x10#8)), [])
    ∧ decodeBytes m16 [0x8B#8, 0x46#8, 0xFE#8] = .ok (.movRvRmv .eax (.ind16 .bp (.d8 0xFE#8)), [])
    ∧ decodeBytes m16 [0xEA#8, 0x00#8, 0x10#8, 0x08#8, 0x00#8] = .ok (.jmpPtr (.i16 0x1000#16) 0x0008#16, [])
    ∧ decodeBytes m16 [0x0F#8, 0x0B#8] = .ok (.ud0F0B, [])
    ∧ decodeBytes m16 [0x66#8, 0xB8#8, 1#8, 0#8, 0#8, 0#8] = .ok (.pfxOpsize, [0xB8#8, 1#8, 0#8, 0#8, 0#8])
    ∧ decodeBytes m16wide [0xB8#8, 1#8, 0#8, 0#8, 0#8] = .ok (.movRvImmv .eax (.i32 1#32), [])
    ∧ decodeBytes m32 [0xB8#8, 1#8, 0#8, 0#8, 0#8] = .ok (.movRvImmv .eax (.i32 1#32), [])
    ∧ decodeBytes m16 [0xB8#8, 1#8, 0#8] = .ok (.movRvImmv .eax (.i16 1#16), [])
    ∧ decodeBytes m16 [0xE6#8, 0x80#8] = .ok (.outImm8Al 0x80#8, [])
    ∧ decodeBytes m16 [0xF4#8] = .ok (.hlt, [])
    ∧ decodeBytes m32 [0x01#8, 0x4C#8, 0xB3#8, 0x10#8]
        = .ok (.addRmvRv (.sib 2#2 .esi .ebx (.d8 0x10#8)) .ecx, [])
    ∧ decodeBytes m16 [0x8B#8, 0x42#8, 0xFE#8] = .ok (.movRvRmv .eax (.ind16 .bpsi (.d8 0xFE#8)), [])
    ∧ decodeBytes m32 [0x8B#8, 0x05#8, 0x34#8, 0x12#8, 0#8, 0#8] = .ok (.movRvRmv .eax (.abs32 0x1234#32), [])
    ∧ decodeBytes m32 [0xA1#8, 0x34#8, 0x12#8, 0#8, 0#8] = .ok (.movEaxMoffs (.i32 0x1234#32), [])
    ∧ decodeBytes m32 [0x26#8, 0x8B#8, 0x45#8, 0#8] = .ok (.pfxEs, [0x8B#8, 0x45#8, 0#8])
    ∧ decodeBytes m32 [0x8B#8, 0x45#8, 0#8] = .ok (.movRvRmv .eax (.ind32 .ebp (.d8 0#8)), [])
    ∧ decodeBytes m16 [0x0F#8, 0x01#8, 0x16#8, 0#8, 0x7C#8] = .ok (.lgdtM (.abs16 0x7C00#16), [])
    ∧ decodeBytes m16 [0x66#8, 0xEA#8, 0#8, 0x10#8, 0#8, 0#8, 8#8, 0#8]
        = .ok (.pfxOpsize, [0xEA#8, 0#8, 0x10#8, 0#8, 0#8, 8#8, 0#8])
    ∧ decodeBytes m16wide [0xEA#8, 0#8, 0x10#8, 0#8, 0#8, 8#8, 0#8]
        = .ok (.jmpPtr (.i32 0x1000#32) 8#16, [])
    ∧ decodeBytes m16 [0xF3#8, 0xA4#8] = .ok (.pfxRep, [0xA4#8]) ∧ decodeBytes m16 [0xA4#8] = .ok (.movsb, [])
    ∧ decodeBytes m32 [0xC1#8, 0xE0#8, 4#8] = .ok (.shlRmvImm8 (.reg .eax) 4#8, [])
    ∧ decodeBytes m16 [0x75#8, 0xFE#8] = .ok (.jccRel8 .nz 0xFE#8, [])

/-- Fetching an item, an instruction or a prefix, at the fetch pointer, which prefixes may have moved on. With paging off,
a TLB that maps pages to themselves and the whole physical space present, the machine fetches what the decoder reads from
the bytes in memory there, in order and wrapping at 2^32, and moves the fetch pointer and the length past them; an item
that would take a sixteenth byte raises #UD before that byte is read; nothing else but the TLB changes. Through a TLB that
caches the pages of the first bytes, paging on or off: an item that these bytes complete is fetched and no other state
changes; one that would take a sixteenth byte raises #UD; one that needs a byte more, on a page not cached, stops as the
walk of that byte's page stops, a #PF, or goes on as from the state the walk left (R161, R221, R223). It rests on the
spec's own decisions D11, D28, D29, D41 (92_eei_decisions.md). That a prefix is an item of its own is the model's choice
(log entry 11). -/
def Obligations.FetchReadsTheBytesAtPc : Prop :=
  ∀ (s : State) (i : Instr) (bytes rest : List Byte),
    let user := s.cpl == 3#2
    let la (k : Nat) : W32 := s.segs.cs.base + s.dec.fp + BitVec.ofNat 32 k
    let used := bytes.length - rest.length
    let past (u : State) : State := { u with
      dec := { s.dec with fp := s.dec.fp + BitVec.ofNat 32 used, len := s.dec.len + used } }
    let decoded := (decode s.mode).run s.dec.len bytes
    let cached (u : State) : Prop := ∀ k b, bytes[k]? = some b →
      ∃ p, u.tlbAt .read user (vpnOf (la k)) = some p ∧ u.inMem (p ++ (la k).extractLsb' 0 12) = true
        ∧ u.byteAt (p ++ (la k).extractLsb' 0 12) = b
    (s.pg = false → s.identityTlb → s.memSize = Config.memSizeMax →
        bytes = (addrsFrom (15 - s.dec.len) (la 0)).map s.byteAt →
        (decoded = .ok (i, rest) → ∃ t, fetchItem s = .ok i t ∧ t.identityTlb
            ∧ t = past { s with tlb := t.tlb, tlbList := t.tlbList })
          ∧ (decoded = .error .tooLong → ∃ t, fetchItem s = .error (.raise .ud) t
            ∧ t = { s with tlb := t.tlb, tlbList := t.tlbList, dec := t.dec }))
      ∧ (cached s →
        (decoded = .ok (i, rest) → fetchItem s = .ok i (past s))
          ∧ (decoded = .error .tooLong → ∃ d, fetchItem s = .error (.raise .ud) { s with dec := d })
          ∧ (decoded = .error .needMoreBytes → s.tlbAt .read user (vpnOf (la bytes.length)) = none →
            (∀ e u, walk (la bytes.length) .read user s = .error e u →
                ∃ d, fetchItem s = .error e { u with dec := d })
              ∧ ∀ p u, walk (la bytes.length) .read user s = .ok p u → cached u → fetchItem s = fetchItem u))

/-- A step that no interrupt precedes fetches one item at pc, with the decode state set anew and the attempt counted. An
instruction is then executed and the step answers what it answers; after a prefix the next item is fetched, and so on
until an instruction; a fetch that raises has its exception taken, one that aborts leaves the reason (R221, R223, R700,
R701, R703). It rests on the spec's own decisions D25, D28, D29, D41, D50 (92_eei_decisions.md). That a prefix is an item
of its own is the model's choice (log entry 11), the flag that says a step raised is its form of step_faulted (log entry
6), and how an abort is answered is that of log entry 7. -/
def Obligations.StepRunsTheDecodedInstruction : Prop :=
  ∀ (s t u : State) (i : Instr) (n : Nat) (e : Exc) (r : AbortReason),
    (s.aborted = none → s.quiet = true → s.halted = false →
        let first := fetchItem (s.setStepFaulted false).beginInstr
        (first = .ok i t → i.isPfx = false → step s = exec i t)
          ∧ (first = .ok i t → i.isPfx = true → exec i t = .next u → step s = runItems 15 u)
          ∧ (first = .error (.raise e) t → step s = .next (takeException e t))
          ∧ (first = .error (.abort r) t → step s = .next (t.setAborted r)))
      ∧ (fetchItem s = .ok i t → i.isPfx = false → runItems (n + 1) s = exec i t)
      ∧ (fetchItem s = .ok i t → i.isPfx = true → exec i t = .next u → runItems (n + 1) s = runItems n u)
      ∧ (fetchItem s = .error (.raise e) t → runItems (n + 1) s = .next (takeException e t))
      ∧ (fetchItem s = .error (.abort r) t → runItems (n + 1) s = .next (t.setAborted r))

/-! ### Registers and flags -/

/-- The 16-bit and 8-bit registers are parts of the 32-bit registers: what a write at each width stores in the home
register, what a read returns, and that no other register changes (R42). -/
def Obligations.RegisterPartsAlias : Prop :=
  ∀ (g : Regs) (r : Reg) (v : W32),
    g.read .w32 r = g.get r
      ∧ g.read .w16 r = (g.get r &&& 0x0000FFFF#32)
      ∧ g.read .w8 r = (bif byteHigh r then (g.get (byteHome r) >>> 8) &&& 0xFF#32 else g.get (byteHome r) &&& 0xFF#32)
      ∧ (g.write .w32 r v).get r = v
      ∧ (g.write .w16 r v).get r = ((g.get r &&& 0xFFFF0000#32) ||| (v &&& 0x0000FFFF#32))
      ∧ (g.write .w8 r v).get (byteHome r)
          = (bif byteHigh r then (g.get (byteHome r) &&& 0xFFFF00FF#32) ||| ((v &&& 0xFF#32) <<< 8)
             else (g.get (byteHome r) &&& 0xFFFFFF00#32) ||| (v &&& 0xFF#32))
      ∧ (∀ q, q ≠ r → (g.write .w32 r v).get q = g.get q ∧ (g.write .w16 r v).get q = g.get q)
      ∧ (∀ q, q ≠ byteHome r → (g.write .w8 r v).get q = g.get q)

/-- The results and the flags of the ALU operations, computed directly: the sum, the difference with the carry or borrow
in, and the bitwise operations, modulo 2^w; the six flags that the lazy tuple then gives are the carry, overflow,
auxiliary carry, zero, sign and parity that the operands and the result determine; and INC and DEC leave CF as it was,
whatever was recorded before, and set the other five flags from the result (R52 to R58, R351 to R358, R360, R361). It
rests on the spec's own decisions D16, D17 (92_eei_decisions.md) and on what the spec marks as derived in R56, R58. -/
def Obligations.LazyFlagsMatchDirectComputation : Prop :=
  ∀ (op : AluOp) (w : Width) (c : CC) (cin : Bool) (a b : W32), truncW w a = a → truncW w b = b →
    (aluRecord op w c a b).flags = aluFlags op w c.cf a b (aluResult op w c.cf a b)
      ∧ (aluResult .addOp w cin a b).toNat = (a.toNat + b.toNat) % 2 ^ w.bits
      ∧ (aluResult .adcOp w cin a b).toNat = (a.toNat + b.toNat + cin.toNat) % 2 ^ w.bits
      ∧ (aluResult .subOp w cin a b).toNat = (a.toNat + 2 ^ w.bits - b.toNat) % 2 ^ w.bits
      ∧ (aluResult .cmpOp w cin a b).toNat = (a.toNat + 2 ^ w.bits - b.toNat) % 2 ^ w.bits
      ∧ (aluResult .sbbOp w cin a b).toNat = (a.toNat + 2 ^ w.bits + 2 ^ w.bits - b.toNat - cin.toNat) % 2 ^ w.bits
      ∧ (∀ k, (aluResult .andOp w cin a b).getLsbD k = (a.getLsbD k && b.getLsbD k))
      ∧ (∀ k, (aluResult .orOp w cin a b).getLsbD k = (a.getLsbD k || b.getLsbD k))
      ∧ (∀ k, (aluResult .xorOp w cin a b).getLsbD k = (a.getLsbD k ^^ b.getLsbD k))
      ∧ (∀ r, r = truncW w (a + 1#32) → (c.recordIncDec .inc w r).flags
          = flagsOf w r c.cf (r.extractLsb' 0 4 == 0#4) (r == 1#32 <<< (w.bits - 1)))
      ∧ ∀ r, r = truncW w (a - 1#32) → (c.recordIncDec .dec w r).flags
          = flagsOf w r c.cf (r.extractLsb' 0 4 == 15#4) (r == (1#32 <<< (w.bits - 1)) - 1#32)

/-- What the shifts and rotations by 1 to 31 give. SHL, SHR and SAR move every bit of the operand by n and shift in zeros
or the sign, CF is the last bit shifted out, OF is the change of sign, the old sign for n = 1 of SHR, or 0; AF is 0. ROL
and ROR move every bit around the w bits; RCL and RCR, where they have an effect, around the w + 1 bits of CF and the
operand; they write CF and OF alone, CF the bit rotated into it, OF the top bit against CF or against the bit below (R52
to R55, R401 to R407). It rests on the spec's own decision D16 (92_eei_decisions.md). -/
def Obligations.ShiftsMoveEveryBit : Prop :=
  ∀ (w : Width) (c : CC) (x : W32) (n : Nat), truncW w x = x → 1 ≤ n → n ≤ 31 →
    (∀ k, k < w.bits → (shiftResult .shl w c.cf x n).getLsbD k = (decide (n ≤ k) && x.getLsbD (k - n)))
      ∧ (shiftFlags .shl w c x n).flags
          = flagsOf w (shiftResult .shl w c.cf x n) (decide (n ≤ w.bits) && x.getLsbD (w.bits - n)) false
              (msbW w (shiftResult .shl w c.cf x n) ^^ (decide (n ≤ w.bits) && x.getLsbD (w.bits - n)))
      ∧ (∀ k, (shiftResult .shr w c.cf x n).getLsbD k = x.getLsbD (n + k))
      ∧ (shiftFlags .shr w c x n).flags
          = flagsOf w (shiftResult .shr w c.cf x n) (x.getLsbD (n - 1)) false
              (decide (n = 1) && msbW w x)
      ∧ (∀ k, k < w.bits → (shiftResult .sar w c.cf x n).getLsbD k
            = (bif decide (n + k < w.bits) then x.getLsbD (n + k) else msbW w x))
      ∧ (shiftFlags .sar w c x n).flags
          = flagsOf w (shiftResult .sar w c.cf x n)
              (bif decide (n ≤ w.bits) then x.getLsbD (n - 1) else msbW w x) false false
      ∧ (let r := shiftResult .rol w c.cf x n
        (∀ k, k < w.bits → r.getLsbD k = x.getLsbD ((k + (w.bits - n % w.bits)) % w.bits))
          ∧ (shiftFlags .rol w c x n).flags
              = { c.flags with cf := r.getLsbD 0, of := r.getLsbD (w.bits - 1) ^^ r.getLsbD 0 })
      ∧ (let r := shiftResult .ror w c.cf x n
        (∀ k, k < w.bits → r.getLsbD k = x.getLsbD ((k + n) % w.bits))
          ∧ (shiftFlags .ror w c x n).flags = { c.flags with
              cf := r.getLsbD (w.bits - 1), of := r.getLsbD (w.bits - 1) ^^ r.getLsbD (w.bits - 2) })
      ∧ (n % (w.bits + 1) ≠ 0 →
        let m := n % (w.bits + 1)
        let t (k : Nat) : Bool := bif k == w.bits then c.cf else x.getLsbD k
        let left (k : Nat) : Bool := t ((k + (w.bits + 1 - m)) % (w.bits + 1))
        let right (k : Nat) : Bool := t ((k + m) % (w.bits + 1))
        (∀ k, k < w.bits → (shiftResult .rcl w c.cf x n).getLsbD k = left k)
          ∧ (shiftFlags .rcl w c x n).flags
              = { c.flags with cf := left w.bits, of := left (w.bits - 1) ^^ left w.bits }
          ∧ (∀ k, k < w.bits → (shiftResult .rcr w c.cf x n).getLsbD k = right k)
          ∧ (shiftFlags .rcr w c x n).flags
              = { c.flags with cf := right w.bits, of := right (w.bits - 1) ^^ right (w.bits - 2) })

/-- FlagsWrite takes the six arithmetic flags and DF from the image and a system flag only where the mask allows, and
FlagsRead assembles the image from them, bit 1 reading 1 and the bits not implemented reading 0 (R47 to R49). It rests
on the spec's own decisions D3, D20, D21 (92_eei_decisions.md). -/
def Obligations.FlagsWriteThenRead : Prop :=
  ∀ (s : State) (v mask : W32), mask &&& ~~~Config.sysFlagMask = 0#32 → s.eflagsSys &&& ~~~Config.sysFlagMask = 0#32 →
    flagsRead (flagsWrite s v mask)
      = ((v &&& 0x00000CD5#32) ||| 0x00000002#32 ||| (s.eflagsSys &&& ~~~mask) ||| (v &&& mask))

/-! ### Memory and translation -/

/-- A physical access inside MEM_SIZE: a read answers the little-endian value of its bytes and changes nothing; a write
stores its bytes, the least significant at the lowest address, changes no other byte, keeps the canonical form of
memory, and reads back. An access that would touch an address at or beyond MEM_SIZE aborts with reason bus_error: no
byte is written if any byte is out of range (R121 to R124). It rests on the spec's own decisions D2, D4
(92_eei_decisions.md). Memory's canonical form is the model's (log entry 1). -/
def Obligations.PhysicalAccessesAreAllOrNothing : Prop :=
  ∀ (s : State) (w : Width) (pa v : W32),
    let addr (k : Nat) : W32 := pa + BitVec.ofNat 32 k
    ((∀ k, k < w.bytes → (addr k).toNat < s.memSize) →
        (∃ x : W32, physRead pa w.bytes s = .ok x s ∧ truncW w x = x
          ∧ ∀ k, k < w.bytes → (x >>> (8 * k)).setWidth 8 = s.byteAt (addr k))
        ∧ ∃ t, physWrite pa w.bytes v s = .ok () t ∧ t = s.setMem t.mem
          ∧ (∀ k, k < w.bytes → t.byteAt (addr k) = (v >>> (8 * k)).setWidth 8)
          ∧ s.sameOutside (addrsFrom w.bytes pa) t
          ∧ physRead pa w.bytes t = .ok (truncW w v) t
          ∧ (Memory.wf s.mem = true → Memory.wf t.mem = true))
      ∧ ∀ k, k < w.bytes → s.memSize ≤ (addr k).toNat →
          physWrite pa w.bytes v s = .error (.abort .busError) s
            ∧ physRead pa w.bytes s = .error (.abort .busError) s

/-- With paging disabled the mapping is identity: an access at any linear address reads or writes the physical bytes of
the same numbers, for any user and kind, never faults, and changes nothing but the TLB and the bytes stored (R127 to
R129, R161). It rests on the spec's own decisions D11, D14 (92_eei_decisions.md). -/
def Obligations.PagingDisabledIsIdentity : Prop :=
  ∀ (s : State) (w : Width) (la v : W32),
    s.pg = false → s.identityTlb → s.memSize = Config.memSizeMax →
    (∃ t, accRead la w.bytes s = .ok (ofBytes ((addrsFrom w.bytes la).map s.byteAt)) t
        ∧ t = s.setTlb t.tlb t.tlbList ∧ t.identityTlb)
      ∧ ∃ t, accWrite la w.bytes v s = .ok () t ∧ t.identityTlb
        ∧ t = ({ s with mem := t.mem }).setTlb t.tlb t.tlbList
        ∧ (∀ k, k < w.bytes → t.byteAt (la + BitVec.ofNat 32 k) = (v >>> (8 * k)).setWidth 8)
        ∧ s.sameOutside (addrsFrom w.bytes la) t

/-- Translation consults the table of its kind and user first: a hit answers the cached page and changes no state; a
miss walks; and after any translation that succeeds a second one of the same address, kind and user answers the same
address and changes nothing (R160). It rests on what the spec marks as derived in R160. -/
def Obligations.TranslateHitsOrWalks : Prop :=
  ∀ (s : State) (la : W32) (kind : Access) (user : Bool),
    (∀ p, s.tlbAt kind user (vpnOf la) = some p → translate la kind user s = .ok (p ++ la.extractLsb' 0 12) s)
      ∧ (s.tlbAt kind user (vpnOf la) = none → ∀ p t, walk la kind user s = .ok p t →
          translate la kind user s = .ok (p ++ la.extractLsb' 0 12) t)
      ∧ (s.tlbAt kind user (vpnOf la) = none → ∀ e t, walk la kind user s = .error e t →
          translate la kind user s = .error e t)
      ∧ ∀ pa t, translate la kind user s = .ok pa t → translate la kind user t = .ok pa t

/-- The walk with paging enabled, from the two entries it reads: which page faults it raises, with which error code and
CR2; and where it succeeds, the accessed bit of both entries set, the dirty bit set by a write, and the page entered in
the TLB with the composite permissions (R162 to R167). It rests on the spec's own decisions D10, D12
(92_eei_decisions.md) and on what the spec marks as derived in R165. -/
def Obligations.WalkFollowsTheTables : Prop :=
  ∀ (s : State) (la : W32) (kind : Access) (user : Bool) (pde : W32),
    s.pg = true →
    let pdeAddr : W32 := (s.cr3 &&& 0xFFFFF000#32) ||| ((la >>> 22) <<< 2)
    let fault (present : Bool) : Exc :=
      .pf (atBit present 0 ||| atBit kind.isWrite 1 ||| atBit user 2)
    physRead pdeAddr 4 s = .ok pde s →
    (pde.getLsbD 0 = false → walk la kind user s = .error (.raise (fault false)) (s.setCr2 la))
      ∧ ∀ s1 pte,
        s1 = (bif pde.getLsbD 5 then s else s.storeBytes (addrsFrom 4 pdeAddr) (bytesOf 4 (pde ||| 0x20#32))) →
        pde.getLsbD 0 = true →
        let pteAddr : W32 := (pde &&& 0xFFFFF000#32) ||| (((la >>> 12) &&& 0x3FF#32) <<< 2)
        physRead pteAddr 4 s1 = .ok pte s1 →
        let denied := (user && !(pte &&& pde).getLsbD 2) || (kind.isWrite && !(pte &&& pde).getLsbD 1)
        (pte.getLsbD 0 = false → walk la kind user s = .error (.raise (fault false)) (s1.setCr2 la))
          ∧ (pte.getLsbD 0 = true → denied = true →
              walk la kind user s = .error (.raise (fault true)) (s1.setCr2 la))
          ∧ (pte.getLsbD 0 = true → denied = false →
              ∀ new s2, new = pte ||| 0x20#32 ||| atBit kind.isWrite 6 →
              s2 = (bif new == pte then s1 else s1.storeBytes (addrsFrom 4 pteAddr) (bytesOf 4 new)) →
              walk la kind user s = .ok (new.extractLsb' 12 20)
                (s2.tlbInsert (vpnOf la)
                  { ppn := new.extractLsb' 12 20, writable := new.getLsbD 6 && (pte &&& pde).getLsbD 1,
                    useracc := (pte &&& pde).getLsbD 2 }))

/-- The TLB on a legal state: an insert maps its page with the given permissions and keeps the others, but with the list
full it leaves exactly its own page mapped and the list with that page alone; a full flush unmaps every page; a
single-page invalidate unmaps that page and no other (R165, R167, R168, R170, R173). It rests on the spec's own decision
D12 (92_eei_decisions.md) and on what the spec marks as derived in R165. The TLB is held in one list (log entry 10). -/
def Obligations.TlbInsertOverflowAndFlush : Prop :=
  ∀ (s : State) (la : W32) (e : TlbEntry) (kind : Access) (user : Bool), s.tlbLegal = true →
    let vpn := vpnOf la
    (s.tlbInsert vpn e).tlbAt kind user vpn = tlbView e kind user
      ∧ (∀ q, q ≠ vpn → s.tlbList.length < 2048 → (s.tlbInsert vpn e).tlbAt kind user q = s.tlbAt kind user q)
      ∧ (s.tlbList.length < 2048 → (s.tlbInsert vpn e).tlbList = s.tlbList ++ [vpn])
      ∧ (∀ q, q ≠ vpn → s.tlbList.length = 2048 → (s.tlbInsert vpn e).tlbAt kind user q = none)
      ∧ (s.tlbList.length = 2048 → (s.tlbInsert vpn e).tlbList = [vpn])
      ∧ (∀ q, s.tlbFlushAll.tlbAt kind user q = none) ∧ s.tlbFlushAll.tlbList = []
      ∧ (s.tlbFlushPage vpn).tlbAt kind user vpn = none
      ∧ (∀ q, q ≠ vpn → (s.tlbFlushPage vpn).tlbAt kind user q = s.tlbAt kind user q)
      ∧ (s.tlbFlushPage vpn).tlbList = s.tlbList

/-- A translation, whether it succeeds or faults, changes nothing but the TLB, CR2 when it faults, and bits 5 and 6 of
the low bytes of dword-aligned entries in memory, which it only sets (R162, R166, R174, R661). It rests on the spec's
own decisions D10, D46 (92_eei_decisions.md) and on what the spec marks as derived in R174. -/
def Obligations.TranslationSetsOnlyAccessedAndDirty : Prop :=
  ∀ (s : State) (la : W32) (n : Nat) (kind : Access) (user : Bool),
    (∀ as t, translateSpan la n kind user s = .ok as t → s.sameButWalk t ∧ t.cr2 = s.cr2 ∧ s.onlyAccessedDirty t)
      ∧ ∀ e t, translateSpan la n kind user s = .error e t → s.sameButWalk t ∧ s.onlyAccessedDirty t

/-- What an access does: an operand in memory is at its segment's base plus its offset, an operand in a register is the
register. Once the pages of an access are translated, the program's as a user's exactly at CPL 3, the hardware's own never
as a user's, a read answers the bytes at the translated addresses and changes nothing more, and a write stores its bytes
there, lowest first, and no other byte of memory changes; where the translation stops, so does the access, in the same
state, and a read that reaches beyond physical memory aborts with bus_error. A read on behalf of a write translates for
writing, and the write after it cannot raise: it is the write at the place, and where the second translation of that would
raise it stores at the addresses the first one answered (R42, R124, R127 to R131, R140, R240). It rests on the spec's own
decisions D4, D14, D53 (92_eei_decisions.md). What the write after a probe does where translating again would raise is the
model's choice (log entry 18). -/
def Obligations.AccessesReachTheirBytes : Prop :=
  ∀ (s u : State) (la v : W32) (w : Width) (as : List W32) (seg : Sreg) (off : W32) (r : Reg) (l : Loc) (h : Held)
    (e : Stop) (x : Exc),
    let level := s.cpl == 3#2
    let place : W32 := (s.segs.get seg).base + off
    readLoc w (.mem seg off) s = accRead place w.bytes s ∧ readLocW w (.mem seg off) s = accReadW place w.bytes s
      ∧ writeLoc w (.mem seg off) v s = accWrite place w.bytes v s
      ∧ readLoc w (.reg r) s = .ok (s.regs.read w r) s
      ∧ readLocW w (.reg r) s = .ok { val := s.regs.read w r, places := [] } s
      ∧ writeLoc w (.reg r) v s = .ok () { s with regs := s.regs.write w r v }
      ∧ writeBack w (.reg r) h v s = .ok () { s with regs := s.regs.write w r v }
      ∧ (∀ read write user, (read, write, user) ∈ [(accRead, accWrite, level), (sysRead, sysWrite, false)] →
        (translateSpan la w.bytes .read user s = .ok as u →
            (as.all u.inMem = true → read la w.bytes s = .ok (ofBytes (as.map u.byteAt)) u)
              ∧ (as.all u.inMem = false → read la w.bytes s = .error (.abort .busError) u))
          ∧ (translateSpan la w.bytes .read user s = .error e u → read la w.bytes s = .error e u)
          ∧ (translateSpan la w.bytes .write user s = .ok as u → as.all u.inMem = true →
            as.length = w.bytes ∧ ∃ t, write la w.bytes v s = .ok () t ∧ t = u.setMem t.mem ∧ u.sameOutside as t
              ∧ as.map t.byteAt = bytesOf w.bytes v)
          ∧ (translateSpan la w.bytes .write user s = .error e u → write la w.bytes v s = .error e u))
      ∧ (translateSpan la w.bytes .write level s = .ok as u → as.all u.inMem = true →
        accReadW la w.bytes s = .ok { val := ofBytes (as.map u.byteAt), places := as } u)
      ∧ (translateSpan la w.bytes .write level s = .error e u → accReadW la w.bytes s = .error e u)
      ∧ writeBack w l h v s ≠ .error (.raise x) u
      ∧ (translateSpan place w.bytes .write level s = .ok as u →
        writeBack w (.mem seg off) h v s = writeLoc w (.mem seg off) v s)
      ∧ (translateSpan place w.bytes .write level s = .error (.raise x) u →
        h.places.length = w.bytes → h.places.Nodup → h.places.all s.inMem = true →
        ∃ t, writeBack w (.mem seg off) h v s = .ok () t ∧ t = s.setMem t.mem ∧ s.sameOutside h.places t
          ∧ h.places.map t.byteAt = bytesOf w.bytes v)

/-! ### Segments, exceptions and interrupts -/

/-- Loading a selector in real-address mode: base selector times 16, limit FFFFH, the fixed rights, no exception, and
nothing else changes (R73, R181). It rests on the spec's own decision D6 (92_eei_decisions.md). -/
def Obligations.RealModeSelectorLoad : Prop :=
  ∀ (s : State) (n : Sreg) (sel : W16), s.pe = false →
    loadSeg n sel s
      = .ok () (s.setSegReg n { sel := sel, base := sel.setWidth 32 <<< 4, limit := 0x0000FFFF#32,
                                rights := 0x00009300#32 })

/-- Loading a selector in protected mode: a null selector clears a data segment register and faults for SS; a selector
outside its table, a descriptor of the wrong type, a privilege violation and an absent segment raise their exceptions
with the selector's error code; otherwise the descriptor is marked accessed and cached. Which table and place a selector
names, and the base and the limit a descriptor gives, are written out (R176, R178 to R183). It rests on the
spec's own decisions D6, D8, D36 (92_eei_decisions.md). -/
def Obligations.ProtectedSelectorLoad : Prop :=
  ∀ (s : State) (n : Sreg) (sel : W16), s.pe = true →
    let ec : W32 := (sel &&& 0xFFFC#16).setWidth 32
    let null := (sel &&& 0xFFFC#16) == 0#16
    let rpl : BitVec 2 := sel.extractLsb' 0 2
    (null = true → n ≠ .ss →
        loadSeg n sel s = .ok () (s.setSegReg n { sel := sel, base := 0#32, limit := 0#32, rights := 0#32 }))
      ∧ (null = true → n = .ss → loadSeg n sel s = .error (.raise (.gp 0#32)) s)
      ∧ (null = false → ∀ t, descRead sel s = .ok none t → loadSeg n sel s = .error (.raise (.gp ec)) t)
      ∧ (null = false → ∀ d t, descRead sel s = .ok (some d) t →
          let dpl : BitVec 2 := d.e2.extractLsb' 13 2
          let code := d.e2.getLsbD 11
          let bad :=
            bif n == .ss then
              !d.e2.getLsbD 12 || code || !d.e2.getLsbD 9 || rpl != s.cpl || dpl != s.cpl
            else
              !d.e2.getLsbD 12 || (code && !d.e2.getLsbD 9)
                || (!(code && d.e2.getLsbD 10) && (dpl.ult s.cpl || dpl.ult rpl))
          (bad = true → loadSeg n sel s = .error (.raise (.gp ec)) t)
            ∧ (bad = false → d.e2.getLsbD 15 = false →
                loadSeg n sel s = .error (.raise (bif n == .ss then .ss ec else .np ec)) t)
            ∧ (bad = false → d.e2.getLsbD 15 = true → ∀ u,
                (bif d.e2.getLsbD 8 then pure () else sysWrite (d.addr + 4#32) 4 (d.e2 ||| 0x100#32)) t = .ok () u →
                loadSeg n sel s
                  = .ok () (u.setSegReg n { sel := sel, base := descBase d.e1 d.e2, limit := descLimit d.e1 d.e2,
                                            rights := d.e2 ||| 0x100#32 })))
      ∧ (let base := bif sel.getLsbD 2 then s.segs.ldtr.base else s.gdtr.base
        let limit := bif sel.getLsbD 2 then s.segs.ldtr.limit else s.gdtr.limit
        let idx := sel.toNat / 8 * 8
        let a : W32 := base + BitVec.ofNat 32 idx
        (limit.toNat < idx + 7 → descRead sel s = .ok none s)
          ∧ (idx + 7 ≤ limit.toNat → ∀ e1 e2 t u, sysRead a 4 s = .ok e1 t → sysRead (a + 4#32) 4 t = .ok e2 u →
            descRead sel s = .ok (some { e1 := e1, e2 := e2, addr := a }) u))
      ∧ ∀ e1 e2 : W32,
        let raw := e2.toNat / 2 ^ 16 % 16 * 2 ^ 16 + e1.toNat % 2 ^ 16
        (descBase e1 e2).toNat = e2.toNat / 2 ^ 24 * 2 ^ 24 + e2.toNat % 2 ^ 8 * 2 ^ 16 + e1.toNat / 2 ^ 16
          ∧ (descLimit e1 e2).toNat = (bif e2.getLsbD 23 then raw * 4096 + 4095 else raw)

/-- Real-mode delivery: beyond the table limit it faults; else FLAGS, CS and the return address are pushed as words, SP
moves by 6 under the stack mask, IF and TF are cleared, and CS:IP come from the vector table (R671). It rests on the
spec's own decision D35 (92_eei_decisions.md). -/
def Obligations.RealModeDelivery : Prop :=
  ∀ (s : State) (v : Byte) (sw hw : Bool) (code : Option W32) (ret : W32), s.pe = false →
    let t : W32 := v.setWidth 32 <<< 2
    (s.idtr.limit.toNat < t.toNat + 3 →
        deliver v sw code hw ret s = .error (.raise (.gp ((v.setWidth 32 <<< 3) + 2#32))) s)
      ∧ (t.toNat + 3 ≤ s.idtr.limit.toNat → ∀ off sel s1 s2 s3 s4 s5,
          sysRead (s.idtr.base + t) 2 s = .ok off s1 → sysRead (s.idtr.base + t + 2#32) 2 s1 = .ok sel s2 →
          accWrite (s.lin .ss ((s.regs.esp - 2#32) &&& s.stackMask)) 2 (flagsRead s) s2 = .ok () s3 →
          accWrite (s.lin .ss ((s.regs.esp - 4#32) &&& s.stackMask)) 2 (s.segs.cs.sel.setWidth 32) s3 = .ok () s4 →
          accWrite (s.lin .ss ((s.regs.esp - 6#32) &&& s.stackMask)) 2 ret s4 = .ok () s5 →
          ∃ u, deliver v sw code hw ret s = .ok () u
            ∧ u = { s5 with
                regs := s.regs.set .esp ((s.regs.esp &&& ~~~s.stackMask) ||| ((s.regs.esp - 6#32) &&& s.stackMask)),
                eflagsSys := s.eflagsSys &&& ~~~0x00000300#32,
                segs := s.segs.set .cs { sel := sel.setWidth 16, base := (sel.setWidth 16 : W16).setWidth 32 <<< 4,
                                         limit := 0x0000FFFF#32, rights := 0x00009300#32 },
                pc := off &&& 0x0000FFFF#32 })

/-- Protected-mode delivery, and the handler at the same level. The gate: beyond the table limit, not a gate, of a wrong
type, or closed to a software interrupt it raises #GP, not present #NP, with the vector's error code, and a task gate
aborts. The target: a null selector raises #GP(0); one outside its table, not a code segment or of an outer level #GP, not
present #NP, with the selector's error code. Then the flags, CS, the return address and, for an exception of vector 8, 10
to 14 or 17, the error code are pushed at the gate's width on the current stack, and CS:EIP come from the gate; TF and NT
are cleared, IF too for an interrupt gate; CPL, SS and the other registers stay (R653, R654, R673 to R675, R677 to R679).
It rests on the spec's own decisions D35, D36, D49, D52 (92_eei_decisions.md). -/
def Obligations.ProtectedDeliverySameLevel : Prop :=
  ∀ (s : State) (v : Byte) (sw hw : Bool) (code : Option W32) (ret : W32), s.pe = true →
    let v8 : W32 := v.setWidth 32 <<< 3
    let iec : W32 := v8 + 2#32
    let frame : List W32 := [flagsRead s, s.segs.cs.sel.setWidth 32, ret]
      ++ bif !sw && !hw && [8#8, 10#8, 11#8, 12#8, 13#8, 14#8, 17#8].contains v then [code.getD 0#32] else []
    (s.idtr.limit.toNat < 8 * v.toNat + 7 → readIdtGate v sw s = .error (.raise (.gp iec)) s)
      ∧ (8 * v.toNat + 7 ≤ s.idtr.limit.toNat → ∀ g1 g2 s0 s1,
        sysRead (s.idtr.base + v8) 4 s = .ok g1 s0 → sysRead (s.idtr.base + v8 + 4#32) 4 s0 = .ok g2 s1 →
        let ty : BitVec 4 := g2.extractLsb' 8 4
        let wide := ty == 14#4 || ty == 15#4
        let denied := sw && (g2.extractLsb' 13 2 : BitVec 2).ult s.cpl
        let stops (x : Stop) : Prop := readIdtGate v sw s = .error x s1
        (g2.getLsbD 12 = true → stops (.raise (.gp iec)))
          ∧ (g2.getLsbD 12 = false → ty = 5#4 → stops (.abort .unsupportedTaskGate))
          ∧ (g2.getLsbD 12 = false → ty ∉ [5#4, 6#4, 7#4, 14#4, 15#4] → stops (.raise (.gp iec)))
          ∧ (g2.getLsbD 12 = false → ty ∈ [6#4, 7#4, 14#4, 15#4] →
            (denied = true → stops (.raise (.gp iec)))
              ∧ (denied = false → g2.getLsbD 15 = false → stops (.raise (.np iec)))
              ∧ (denied = false → g2.getLsbD 15 = true → readIdtGate v sw s = .ok
                  { gw := bif wide then .w32 else .w16, isInt := ty == 6#4 || ty == 14#4,
                    tsel := g1.extractLsb' 16 16,
                    toff := bif wide then g2.extractLsb' 16 16 ++ g1.extractLsb' 0 16 else g1 &&& 0xFFFF#32 } s1)))
      ∧ (∀ (sel : W16) (u : State),
        let ec : W32 := (sel &&& 0xFFFC#16).setWidth 32
        (ec = 0#32 → gateTarget sel u = .error (.raise (.gp 0#32)) u)
          ∧ (ec ≠ 0#32 → ∀ t, descRead sel u = .ok none t → gateTarget sel u = .error (.raise (.gp ec)) t)
          ∧ (ec ≠ 0#32 → ∀ d t, descRead sel u = .ok (some d) t →
            let bad := !d.e2.getLsbD 12 || !d.e2.getLsbD 11 || u.cpl.ult (d.e2.extractLsb' 13 2)
            (bad = true → gateTarget sel u = .error (.raise (.gp ec)) t)
              ∧ (bad = false → d.e2.getLsbD 15 = false → gateTarget sel u = .error (.raise (.np ec)) t)
              ∧ (bad = false → d.e2.getLsbD 15 = true → gateTarget sel u = .ok d t)))
      ∧ (∀ x t, readIdtGate v sw s = .error x t → deliver v sw code hw ret s = .error x t)
      ∧ ∀ (g : Gate) (s1 : State), readIdtGate v sw s = .ok g s1 →
        (∀ x t, gateTarget g.tsel s1 = .error x t → deliver v sw code hw ret s = .error x t)
          ∧ ∀ (d : Desc) (p : W32) (s2 s3 s4 : State), gateTarget g.tsel s1 = .ok d s2 →
            (!d.e2.getLsbD 10 && (d.e2.extractLsb' 13 2 : BitVec 2).ult s.cpl) = false →
            markAccessed d s2 = .ok () s3 →
            framePushes false s.segs.ss.base s.stackMask g.gw.bytes (s.regs.esp &&& s.stackMask) frame s3 p s4 →
            deliver v sw code hw ret s
              = .ok () { s4 with
                  regs := s.regs.set .esp ((s.regs.esp &&& ~~~s.stackMask) ||| (p &&& s.stackMask)),
                  segs := s.segs.set .cs { sel := (g.tsel &&& 0xFFFC#16) ||| s.cpl.setWidth 16,
                                           base := descBase d.e1 d.e2, limit := descLimit d.e1 d.e2,
                                           rights := d.e2 ||| 0x100#32 },
                  pc := g.toff,
                  eflagsSys := s.eflagsSys &&& ~~~(0x00004100#32 ||| atBit g.isInt 9) }

/-- Protected-mode delivery to a more privileged handler. SS and ESP come from the TSS, of 32 or 16 bits: beyond its limit
#TS with TR's selector; a null stack selector, one outside its table, of another RPL or DPL, or not writable data #TS, not
present #SS, with that selector. The old SS and ESP, then the frame of every delivery, are pushed on the new stack by
system writes, and CPL becomes the target's DPL (R186, R653, R673, R676 to R679, R692). It rests on the spec's own
decisions D35, D49, D52 (92_eei_decisions.md). -/
def Obligations.ProtectedDeliveryToInnerLevel : Prop :=
  (∀ (lvl : BitVec 2) (u : State), lvl ≠ 3#2 →
    let tr := u.segs.tr
    let wide := tr.rights.getLsbD 11
    let o := bif wide then 4 + 8 * lvl.toNat else 2 + 4 * lvl.toNat
    let n := bif wide then 4 else 2
    let stops (e : Exc) (t : State) : Prop := innerStack lvl u = .error (.raise e) t
    (tr.limit.toNat < o + (2 * n - 1) → stops (.ts ((tr.sel &&& 0xFFFC#16).setWidth 32)) u)
      ∧ (o + (2 * n - 1) ≤ tr.limit.toNat → ∀ nesp nss t1 t2,
        sysRead (tr.base + BitVec.ofNat 32 o) n u = .ok nesp t1 →
        sysRead (tr.base + BitVec.ofNat 32 (o + n)) 2 t1 = .ok nss t2 →
        let sel : W16 := nss.setWidth 16
        let ec : W32 := (sel &&& 0xFFFC#16).setWidth 32
        (ec = 0#32 → stops (.ts ec) t2)
          ∧ (ec ≠ 0#32 → ∀ t3, descRead sel t2 = .ok none t3 → stops (.ts ec) t3)
          ∧ (ec ≠ 0#32 → ∀ d t3, descRead sel t2 = .ok (some d) t3 →
            let bad := (sel.extractLsb' 0 2 : BitVec 2) != lvl || !d.e2.getLsbD 12 || d.e2.getLsbD 11
              || !d.e2.getLsbD 9 || (d.e2.extractLsb' 13 2 : BitVec 2) != lvl
            (bad = true → stops (.ts ec) t3)
              ∧ (bad = false → d.e2.getLsbD 15 = false → stops (.ss ec) t3)
              ∧ (bad = false → d.e2.getLsbD 15 = true →
                  innerStack lvl u = .ok { nss := sel, nesp := nesp, desc := d } t3))))
  ∧ ∀ (s : State) (v : Byte) (sw hw : Bool) (code : Option W32) (ret : W32) (g : Gate) (d : Desc) (s1 s2 : State),
    let frame : List W32 := [flagsRead s, s.segs.cs.sel.setWidth 32, ret]
      ++ bif !sw && !hw && [8#8, 10#8, 11#8, 12#8, 13#8, 14#8, 17#8].contains v then [code.getD 0#32] else []
    let dpl : BitVec 2 := d.e2.extractLsb' 13 2
    s.pe = true → readIdtGate v sw s = .ok g s1 → gateTarget g.tsel s1 = .ok d s2 →
    d.e2.getLsbD 10 = false → dpl.ult s.cpl = true →
    (∀ x t, innerStack dpl s2 = .error x t → deliver v sw code hw ret s = .error x t)
      ∧ ∀ (i : InnerSS) (p : W32) (s3 s4 s5 s6 : State), innerStack dpl s2 = .ok i s3 →
        markAccessed i.desc s3 = .ok () s4 → markAccessed d s4 = .ok () s5 →
        let nm := bif i.desc.e2.getLsbD 22 then 0xFFFFFFFF#32 else 0x0000FFFF#32
        framePushes true (descBase i.desc.e1 i.desc.e2) nm g.gw.bytes (i.nesp &&& nm)
          ([s.segs.ss.sel.setWidth 32, s.regs.esp] ++ frame) s5 p s6 →
        deliver v sw code hw ret s
          = .ok () { s6 with
              cpl := dpl,
              regs := s.regs.set .esp ((s.regs.esp &&& ~~~nm) ||| (p &&& nm)),
              segs := (s.segs.set .ss { sel := (i.nss &&& 0xFFFC#16) ||| dpl.setWidth 16,
                                        base := descBase i.desc.e1 i.desc.e2,
                                        limit := descLimit i.desc.e1 i.desc.e2,
                                        rights := i.desc.e2 ||| 0x100#32 }).set .cs
                        { sel := (g.tsel &&& 0xFFFC#16) ||| dpl.setWidth 16,
                          base := descBase d.e1 d.e2, limit := descLimit d.e1 d.e2, rights := d.e2 ||| 0x100#32 },
              pc := g.toff,
              eflagsSys := s.eflagsSys &&& ~~~(0x00004100#32 ||| atBit g.isInt 9) }

/-- A raise is delivered in the same step with pc as the return address; an exception raised by a delivery is delivered
as itself with the same return address, and the third consecutive failure aborts with triple_fault; an abort during the
first, the second or the third delivery keeps its own reason (R660, R686, R706). It rests on the spec's own decision D19
(92_eei_decisions.md). The flag that says a step raised is the model's form of step_faulted (log entry 6), and that an
abort is a next state with its reason is its choice (log entry 7). -/
def Obligations.RaiseIsDeliveredOrTripleFaults : Prop :=
  ∀ (m : M Unit) (s s0 s1 s2 s3 : State) (e0 e1 e2 e3 : Exc) (r : AbortReason),
    m s = .error (.raise e0) s0 →
    (deliver e0.vector false e0.code false s0.pc (s0.setStepFaulted true) = .ok () s1 → complete m s = .next s1)
      ∧ (deliver e0.vector false e0.code false s0.pc (s0.setStepFaulted true) = .error (.abort r) s1 →
        complete m s = .next (s1.setAborted r))
      ∧ (deliver e0.vector false e0.code false s0.pc (s0.setStepFaulted true) = .error (.raise e1) s1 →
        (deliver e1.vector false e1.code false s0.pc s1 = .ok () s2 → complete m s = .next s2)
          ∧ (deliver e1.vector false e1.code false s0.pc s1 = .error (.abort r) s2 →
            complete m s = .next (s2.setAborted r))
          ∧ (deliver e1.vector false e1.code false s0.pc s1 = .error (.raise e2) s2 →
            (deliver e2.vector false e2.code false s0.pc s2 = .ok () s3 → complete m s = .next s3)
              ∧ (deliver e2.vector false e2.code false s0.pc s2 = .error (.abort r) s3 →
                complete m s = .next (s3.setAborted r))
              ∧ (deliver e2.vector false e2.code false s0.pc s2 = .error (.raise e3) s3 →
                complete m s = .next (s3.setAborted .tripleFault))))

/-- Once aborted is not none the machine makes no further step (R85). How an abort is answered is the
model's choice (log entry 7): the step that aborts answers a next state that holds the reason, and the step after it is
no next state. -/
def Obligations.AbortedMachineMakesNoStep : Prop :=
  ∀ (s : State) (r : AbortReason), s.aborted = some r →
    ∀ t, step s ≠ .next t

/-- The boundary of a step. With nothing latched and the line low or IF clear nothing is acknowledged and no state but the
step's own result flag changes. With the line asserted and IF set the core acknowledges once, latches the vector, ends the
halted state and delivers it as a hardware interrupt with pc as the return address; a latched vector is delivered without
an acknowledge or an IF test. The latch is emptied when the first delivery completes; when that raises, the vector stays
latched, the exception is delivered with the same return address, and so is what this delivery raises, and the third
failure aborts with triple_fault; an abort keeps its reason. A step makes the boundary first: where it leaves the machine
aborted or halted the step ends there, else it runs the instruction at the pc the boundary left, which is the handler's
after a delivery (R686, R700, R701, R702, R708). It rests on the spec's own decisions D18, D19, D34, D50
(92_eei_decisions.md). What the platform answers is a free value (log entry 5), the flag that says a step raised is the
model's form of step_faulted (log entry 6), and how an abort is answered is that of log entry 7. -/
def Obligations.InterruptBoundary : Prop :=
  ∀ s : State,
    (s.pendingVector = none → (s.irqLine && s.ifFlag) = false → s.boundary = s.setStepFaulted false)
      ∧ (∀ v a u, (s.pendingVector = some v ∧ a = (s.setStepFaulted false).setHalted false
            ∨ s.pendingVector = none ∧ (s.irqLine && s.ifFlag) = true ∧ v = Config.ackVector s.history
              ∧ a = { s with stepFaulted := false, halted := false, pendingVector := some v,
                             history := .ack :: s.history, irqLine := Config.irqAfter (.ack :: s.history) }) →
          (deliver v false none true s.pc a = .ok () u → s.boundary = u.setPending none)
            ∧ (∀ r, deliver v false none true s.pc a = .error (.abort r) u → s.boundary = u.setAborted r)
            ∧ ∀ e1, deliver v false none true s.pc a = .error (.raise e1) u →
                s.boundary.pendingVector = some v ∧ s.boundary.halted = false
                  ∧ ∀ x, (deliver e1.vector false e1.code false s.pc u = .ok () x → s.boundary = x)
                    ∧ (∀ r, deliver e1.vector false e1.code false s.pc u = .error (.abort r) x →
                        s.boundary = x.setAborted r)
                    ∧ ∀ e2, deliver e1.vector false e1.code false s.pc u = .error (.raise e2) x →
                      ∀ y, (deliver e2.vector false e2.code false s.pc x = .ok () y → s.boundary = y)
                        ∧ (∀ r, deliver e2.vector false e2.code false s.pc x = .error (.abort r) y →
                            s.boundary = y.setAborted r)
                        ∧ ∀ e3, deliver e2.vector false e2.code false s.pc x = .error (.raise e3) y →
                            s.boundary = y.setAborted .tripleFault)
      ∧ (s.aborted = none →
        (s.boundary.aborted ≠ none ∨ s.boundary.halted = true → step s = .next s.boundary)
          ∧ (s.boundary.aborted = none → s.boundary.halted = false →
            step s = runItems 16 s.boundary.beginInstr))

/-- A halted core with no interrupt to accept makes a step that changes nothing: no instruction is fetched and no cycle
counts; and a step that executes an instruction counts exactly one attempt before its fetch (R82, R700, R703). It rests
on the spec's own decision D25 (92_eei_decisions.md). The flag that says a step raised is the model's form of
step_faulted (log entry 6). -/
def Obligations.HaltedStepsDoNotCount : Prop :=
  ∀ s : State, s.aborted = none → s.quiet = true →
    (s.halted = true → step s = .next (s.setStepFaulted false))
      ∧ (s.halted = false → ∀ t, step s = .next t → t.cycleCount = s.cycleCount + 1#64)

/-- What execute returns: the reason, without stepping, where the machine has aborted before; else it steps until the
machine has aborted, is halted, or has delivered an exception, tested in that order after each step, and reports a
continuable machine when as many steps as the budget have been made with none of these. The state answered is that of the
run from the state given: after at least one step and at most the budget, the first with one of these (R704, R705, R772). It rests on
the spec's own decision D32 (92_eei_decisions.md). The budget is the fuel of the loop (log entry 17), the
flag that says a step raised is the model's form of step_faulted (log entry 6), and how an abort is answered is that of
log entry 7. -/
def Obligations.ExecuteReportsWhyItStopped : Prop :=
  ∀ (budget : Nat) (s : State),
    (∀ r, s.aborted = some r → execute budget s = (s, .aborted r)) ∧ (s.aborted = none →
      (∀ t r, execute budget s = (t, .aborted r) → t.aborted = some r)
      ∧ (∀ t, execute budget s = (t, .halted) → t.aborted = none ∧ t.halted = true)
      ∧ (∀ t, execute budget s = (t, .faultPending) → t.aborted = none ∧ t.halted = false ∧ t.stepFaulted = true)
      ∧ (∀ t st, execute budget s = (t, st) → st ≠ .continuable →
          ∃ n, 1 ≤ n ∧ n ≤ budget ∧ runSteps n s = some t
            ∧ ∀ m u, 1 ≤ m → m < n → runSteps m s = some u →
                u.aborted = none ∧ u.halted = false ∧ u.stepFaulted = false)
      ∧ (∀ t, execute budget s = (t, .continuable) → runSteps budget s = some t
          ∧ ∀ m u, 1 ≤ m → m ≤ budget → runSteps m s = some u →
              u.aborted = none ∧ u.halted = false ∧ u.stepFaulted = false)
      ∧ (∀ t, execute budget s = (t, .continuable) → 0 < budget →
          t.aborted = none ∧ t.halted = false ∧ t.stepFaulted = false
            ∧ t.cycleCount = s.cycleCount + BitVec.ofNat 64 budget))

/-! ### Reset and what every step keeps -/

/-- The reset values of the registers and of the hidden state, whatever memory, handlers and line the host gives (R91 to
R93, R740). It rests on the spec's own decision D5 (92_eei_decisions.md) and on what the spec marks as derived in R91,
R93. -/
def Obligations.ResetValues : Prop :=
  ∀ l : Launch,
    let s := State.resetOf l
    let data : SegReg := { sel := 0#16, base := 0#32, limit := 0x0000FFFF#32, rights := 0x00009300#32 }
    (∀ r, s.regs.get r = 0#32) ∧ s.pc = 0#32 ∧ s.df = false ∧ s.eflagsSys = 0#32 ∧ flagsRead s = 0x00000002#32
      ∧ s.cc = { op := .explicit, dst := 0#32, src := 0#32, op2 := .explicit, dst2 := 0#32 }
      ∧ s.cr0 = 0x00000010#32 ∧ s.cr2 = 0#32 ∧ s.cr3 = 0#32 ∧ s.cr4 = 0#32 ∧ s.cpl = 0#2
      ∧ (∀ n, n ≠ .ldtr → n ≠ .tr → s.segs.get n = data)
      ∧ s.segs.ldtr = { data with rights := 0x00008200#32 } ∧ s.segs.tr = { data with rights := 0x00008B00#32 }
      ∧ s.gdtr = { base := 0#32, limit := 0x0000FFFF#32 } ∧ s.idtr = { base := 0#32, limit := 0x0000FFFF#32 }
      ∧ s.flat = false
      ∧ (∀ kind user vpn, s.tlbAt kind user vpn = none) ∧ s.tlbList = [] ∧ s.halted = false
      ∧ s.pendingVector = none ∧ s.cycleCount = 0#64 ∧ s.aborted = none
      ∧ (∀ a, s.byteAt a = memRead l.mem a.toNat)
      ∧ s.osz = .w16 ∧ s.asz = .w16 ∧ s.stackMask = 0x0000FFFF#32 ∧ s.lin .cs s.pc = 0#32

/-- The machine after reset with a launch the spec allows is in a legal state. Which states are legal is Safety.lean's
reading of R7, R48, R56, R62, R69, R120, R169, R198, R221 and R690; the size of memory and the handlers are the launch's
(log entries 2 and 4). -/
def Obligations.ResetIsLegal : Prop := ∀ l : Launch, l.legal = true → (State.resetOf l).legal = true

/-- EVERY STEP KEEPS A LEGAL STATE: memory stays in canonical form inside MEM_SIZE; the TLB stays in canonical form,
listed and within its capacity; no EFLAGS bit outside the system flags is ever stored and the second flag record is
never of an INC or a DEC; CR0.ET reads 1, the table limits fit 16 bits, CPL is 0 in real-address mode; and no
instruction is longer than 15 bytes. And from every state no step changes the launch parameters: the size of physical
memory and the registered port handlers (R7, R48, R56, R62, R69, R120, R169, R198, R221, R690). It rests on the spec's
own decisions D4, D29, D38, D41 (92_eei_decisions.md) and on what the spec marks as derived in R56, R169. Memory's
canonical form is the model's (log entry 1), the TLB's that of log entry 10. -/
def Obligations.StepKeepsLegalState : Prop :=
  ∀ s t : State, step s = .next t → (s.legal = true → t.legal = true) ∧ t.memSize = s.memSize ∧ t.ports = s.ports

/-- PRECISE EXCEPTIONS: when an instruction raises, the architectural registers are exactly as they were before it
started. The clean witness is a machine whose IDT limit is 0: every delivery fails before it changes anything, so the
abort that follows shows the state at the raise (R45, R660, R686). It rests on the spec's own decisions D7, D19
(92_eei_decisions.md). The flag that says a step raised is the model's form of step_faulted (log entry 6), and how an
abort is answered is that of log entry 7. -/
def Obligations.ExceptionsArePrecise : Prop :=
  ∀ (i : Instr) (s t : State), s.idtr.limit = 0#32 → s.stepFaulted = false → exec i s = .next t →
    t.stepFaulted = true →
    t.aborted = some .tripleFault ∧ t.regs = s.regs ∧ t.pc = s.pc ∧ t.cc = s.cc ∧ t.df = s.df
      ∧ t.eflagsSys = s.eflagsSys ∧ t.cr0 = s.cr0 ∧ t.cr3 = s.cr3 ∧ t.cr4 = s.cr4 ∧ t.cpl = s.cpl
      ∧ t.segs = s.segs ∧ t.gdtr = s.gdtr ∧ t.idtr = s.idtr ∧ t.halted = s.halted
      ∧ t.pendingVector = s.pendingVector ∧ t.cycleCount = s.cycleCount

/-- NO INSTRUCTION AT CPL 3 CHANGES THE CONTROL STATE: CR0, CR3, CR4, GDTR, IDTR, LDTR, TR and the halted flag keep
their values, whether the instruction completes, is delivered to a handler, or aborts (R61, R69, R691, R692). It rests
on the spec's own decision D20 (92_eei_decisions.md) and on what the spec marks as derived in R691. -/
def Obligations.UserModeKeepsControlState : Prop :=
  ∀ (i : Instr) (s t : State), s.pe = true → s.cpl = 3#2 → WellFormed s.mode i = true → exec i s = .next t →
    s.sameControl t

/-- Each privileged instruction at a level other than 0, and each I/O-sensitive instruction above IOPL, raises #GP(0)
and does nothing else; the tests on the operand form and on the mode come first; a repeated string port instruction with
a count of 0 performs no element and no check (R195, R481, R500 to R505, R525, R526, R534, R600, R603, R604, R612, R613,
R618 to R624, R691). It rests on the spec's own decisions D14, D18, D20, D25, D28, D31, D34, D38, D39, D40, D47
(92_eei_decisions.md) and on what the spec marks as derived in R691. -/
def Obligations.PrivilegeChecksFault : Prop :=
  ∀ (i : Instr) (s : State) (ib : Byte),
    let fault := takeException (.gp 0#32) s
    (s.cpl ≠ 0#2 →
        (i ∈ [.hlt, .clts, .invd, .wbinvd] ∨ (∃ rm, i = .lmswRm16 rm)
          ∨ (s.pe = true ∧ ∃ rm, i = .lldtRm16 rm ∨ i = .ltrRm16 rm)
          ∨ (∃ rm seg off, s.locOf rm = some (.mem seg off) ∧ (i = .lgdtM rm ∨ i = .lidtM rm ∨ i = .invlpgM rm))
          ∨ (∃ r n, (n = 0#3 ∨ n = 2#3 ∨ n = 3#3 ∨ n = 4#3) ∧ (i = .movR32Cr (.reg r) n ∨ i = .movCrR32 n (.reg r)))
          ∨ (∃ r n, i = .movDrR32 n (.reg r))) →
        exec i s = .next fault)
      ∧ (s.iopl.ult s.cpl = true →
        i ∈ [.cli, .sti, .inAlDx, .inEaxDx, .outDxAl, .outDxEax, .inAlImm8 ib, .inEaxImm8 ib, .outImm8Al ib,
             .outImm8Eax ib]
          ∨ (i ∈ [.insb, .insv, .outsb, .outsv] ∧ (s.dec.rep = none ∨ s.regs.read s.asz .ecx ≠ 0#32)) →
        exec i s = .next fault)
      ∧ (i ∈ [.insb, .insv, .outsb, .outsv] → s.dec.rep ≠ none → s.regs.read s.asz .ecx = 0#32 →
        exec i s = .next (s.setPc s.nextpc))

/-! ### What each instruction does, and that it completes

In these statements the hypotheses say where an operand is and that its accesses complete; the conclusion is the next
state, written as an update of the state that the last access left, and the frame of each access, between the very states
it ran from and left: `afterReads` for the reads, `stored` for a store, `frames` for several accesses in a row. -/

/-- ADD, OR, ADC, SBB, AND, SUB, XOR and CMP with an r/m destination, all forms: the result is stored, not for CMP, and
the flags recorded (R350 to R358). It rests on the spec's own decision D16 (92_eei_decisions.md). How a write after a
read of the same place translates is log entry 18. -/
def Obligations.AluToOperandCompletes : Prop :=
  ∀ (op : AluOp) (s s1 s2 : State) (rm : Rm) (i : Instr) (w : Width) (a b : W32) (l : Loc),
    AluRmForm op s rm i w b → s.locOf rm = some l →
    let r := aluResult op w s.cc.cf a b
    (op ≠ .cmpOp → ∀ h, readLocW w l s = .ok h s1 → h.val = a → writeBack w l h r s1 = .ok () s2 →
        exec i s = .next { s2 with cc := aluRecord op w s.cc a b, pc := s.nextpc }
          ∧ s.afterReads s1 ∧ l.storedBack w r h s1 s2)
      ∧ (op = .cmpOp → readLoc w l s = .ok a s1 →
        exec i s = .next { s1 with cc := aluRecord op w s.cc a b, pc := s.nextpc } ∧ s.afterReads s1)

/-- The same operations with a register destination, all forms, and TEST, which records the flags of the conjunction and
writes nothing else (R350 to R359). It rests on the spec's own decision D16 (92_eei_decisions.md). -/
def Obligations.AluToRegisterAndTestComplete : Prop :=
  ∀ (op : AluOp) (s s1 : State) (r : Reg) (rm : Rm) (l : Loc) (v : W32) (ib : Byte) (iv : ImmV),
    s.locOf rm = some l →
    let done (w : Width) (q : Reg) (b : W32) (u : State) : State :=
      let a := s.regs.read w q
      { u with
        regs := bif op == .cmpOp then s.regs else s.regs.write w q (aluResult op w s.cc.cf a b),
        cc := aluRecord op w s.cc a b, pc := s.nextpc }
    let tested (w : Width) (a b : W32) (u : State) : State :=
      { u with cc := s.cc.recordLogic w (truncW w (a &&& b)), pc := s.nextpc }
    exec (op.alImm8 ib) s = .next (done .w8 .eax (ib.setWidth 32) s)
      ∧ exec (op.eaxImmv iv) s = .next (done s.osz .eax iv.val s)
      ∧ exec (.testAlImm8 ib) s = .next (tested .w8 (s.regs.read .w8 .eax) (ib.setWidth 32) s)
      ∧ exec (.testEaxImmv iv) s = .next (tested s.osz (s.regs.read s.osz .eax) iv.val s)
      ∧ (readLoc .w8 l s = .ok v s1 →
          s.afterReads s1
            ∧ exec (op.r8Rm8 r rm) s = .next (done .w8 r v s1)
            ∧ exec (.testRm8R8 rm r) s = .next (tested .w8 v (s.regs.read .w8 r) s1)
            ∧ exec (.testRm8Imm8 rm ib) s = .next (tested .w8 v (ib.setWidth 32) s1))
      ∧ (readLoc s.osz l s = .ok v s1 →
          s.afterReads s1
            ∧ exec (op.rvRmv r rm) s = .next (done s.osz r v s1)
            ∧ exec (.testRmvRv rm r) s = .next (tested s.osz v (s.regs.read s.osz r) s1)
            ∧ exec (.testRmvImmv rm iv) s = .next (tested s.osz v iv.val s1))

/-- INC, DEC, NEG and NOT: a + 1, a - 1, 0 - a and the complement; NOT leaves the flags (R360 to R363). How a write
after a read of the same place translates is log entry 18. -/
def Obligations.IncDecNegNotComplete : Prop :=
  ∀ (s s1 s2 : State) (r : Reg) (rm : Rm) (l : Loc) (w : Width) (h : Held) (i j k n : Instr),
    let a := h.val
    let inc := truncW s.osz (s.regs.read s.osz r + 1#32)
    let dec := truncW s.osz (s.regs.read s.osz r - 1#32)
    exec (incReg r) s
        = .next { s with regs := s.regs.write s.osz r inc, cc := s.cc.recordIncDec .inc s.osz inc, pc := s.nextpc }
      ∧ exec (decReg r) s
        = .next { s with regs := s.regs.write s.osz r dec, cc := s.cc.recordIncDec .dec s.osz dec, pc := s.nextpc }
      ∧ ((i, j, k, n, w) ∈ [(.incRm8 rm, .decRm8 rm, .negRm8 rm, .notRm8 rm, .w8),
                            (.incRmv rm, .decRmv rm, .negRmv rm, .notRmv rm, s.osz)] →
        s.locOf rm = some l → readLocW w l s = .ok h s1 →
        s.afterReads s1
          ∧ (writeBack w l h (truncW w (a + 1#32)) s1 = .ok () s2 →
            exec i s = .next { s2 with cc := s.cc.recordIncDec .inc w (truncW w (a + 1#32)), pc := s.nextpc }
              ∧ l.storedBack w (truncW w (a + 1#32)) h s1 s2)
          ∧ (writeBack w l h (truncW w (a - 1#32)) s1 = .ok () s2 →
            exec j s = .next { s2 with cc := s.cc.recordIncDec .dec w (truncW w (a - 1#32)), pc := s.nextpc }
              ∧ l.storedBack w (truncW w (a - 1#32)) h s1 s2)
          ∧ (writeBack w l h (truncW w (0#32 - a)) s1 = .ok () s2 →
            exec k s = .next { s2 with cc := s.cc.record .sub w (truncW w (0#32 - a)) a, pc := s.nextpc }
              ∧ l.storedBack w (truncW w (0#32 - a)) h s1 s2)
          ∧ (writeBack w l h (truncW w (~~~a)) s1 = .ok () s2 →
            exec n s = .next { s2 with pc := s.nextpc } ∧ l.storedBack w (truncW w (~~~a)) h s1 s2))

/-- MUL and IMUL: the product, exact in the double-width registers and cut to the width in the two- and three-operand
forms, and the flags; the double-width registers hold the whole product, and CF and OF say whether it fits in the low
half (R364 to R366). It rests on the spec's own decision D16 (92_eei_decisions.md). -/
def Obligations.MultiplyCompletes : Prop :=
  ∀ (s s1 : State) (rm : Rm) (l : Loc) (r : Reg) (w : Width) (b : W32) (i j : Instr) (iv : ImmV) (ib : Byte),
    s.locOf rm = some l → readLoc w l s = .ok b s1 →
    let a := s.regs.read w .eax
    let into (x y : W32) : State :=
      { s1 with
        regs := s.regs.write w r (productLow w (mulS w x y)),
        cc := s.cc.record .mul w (productLow w (mulS w x y)) (mulOverflow w x y), pc := s.nextpc }
    s.afterReads s1
      ∧ ((i, j, w) ∈ [(.mulRm8 rm, .imulRm8 rm, .w8), (.mulRmv rm, .imulRmv rm, s.osz)] →
        exec i s = .next { s1 with
            regs := s.regs.writeProduct w (mulU w a b),
            cc := s.cc.record .mul w (productLow w (mulU w a b)) (productHigh w (mulU w a b)), pc := s.nextpc }
          ∧ exec j s = .next { s1 with
            regs := s.regs.writeProduct w (mulS w a b),
            cc := s.cc.record .mul w (productLow w (mulS w a b)) (mulOverflow w a b), pc := s.nextpc })
      ∧ (w = s.osz → exec (.imulRvRmv r rm) s = .next (into (s.regs.read w r) b)
          ∧ exec (.imulRvRmvImmv r rm iv) s = .next (into b iv.val)
          ∧ exec (.imulRvRmvImm8 r rm ib) s = .next (into b (truncW w (ib.signExtend 32))))

/-- The products are exact: the double-width registers hold the unsigned or the signed product, the low half is what the
two- and three-operand forms write, and CF and OF are both set exactly when the product does not fit in the low half, and
both clear otherwise (R364 to R366). It rests on the spec's own decision D16 (92_eei_decisions.md). -/
def Obligations.ProductsAreExact : Prop :=
  ∀ (w : Width) (g : Regs) (c : CC) (a b : W32), truncW w a = a → truncW w b = b →
    let u := c.record .mul w (productLow w (mulU w a b)) (productHigh w (mulU w a b))
    let i := c.record .mul w (productLow w (mulS w a b)) (mulOverflow w a b)
    let big := 2 ^ w.bits ≤ a.toNat * b.toNat
    let wide := signedW w a * signedW w b < -(2 ^ (w.bits - 1)) ∨ 2 ^ (w.bits - 1) ≤ signedW w a * signedW w b
    (g.writeProduct w (mulU w a b)).dividend w = a.toNat * b.toNat
      ∧ (g.writeProduct w (mulS w a b)).dividendS w = signedW w a * signedW w b
      ∧ (productLow w (mulU w a b)).toNat = a.toNat * b.toNat % 2 ^ w.bits
      ∧ signedW w (productLow w (mulS w a b)) = Int.bmod (signedW w a * signedW w b) (2 ^ w.bits)
      ∧ (u.cf = true ↔ big) ∧ (u.of = true ↔ big) ∧ (i.cf = true ↔ wide) ∧ (i.of = true ↔ wide)

/-- DIV and IDIV: quotient and remainder to their registers, the flags as before; a divisor of 0 and a quotient that
does not fit raise #DE and change nothing else (R367, R368). It rests on the spec's own decisions D16, D37
(92_eei_decisions.md). -/
def Obligations.DivideCompletesOrFaults : Prop :=
  ∀ (s s1 : State) (rm : Rm) (l : Loc) (w : Width) (b : W32) (i j : Instr),
    (i, j, w) ∈ [(.divRm8 rm, .idivRm8 rm, .w8), (.divRmv rm, .idivRmv rm, s.osz)] →
    s.locOf rm = some l → readLoc w l s = .ok b s1 → truncW w b = b →
    let n := s.regs.dividend w
    let m := s.regs.dividendS w
    let d := signedW w b
    let fits := -(2 ^ (w.bits - 1)) ≤ m.tdiv d ∧ m.tdiv d < 2 ^ (w.bits - 1)
    s.afterReads s1
      ∧ (b ≠ 0#32 → n / b.toNat < 2 ^ w.bits →
          exec i s = .next { s1 with
            regs := s.regs.writeQuotient w (BitVec.ofNat 32 (n / b.toNat)) (BitVec.ofNat 32 (n % b.toNat)),
            pc := s.nextpc })
      ∧ (b = 0#32 ∨ 2 ^ w.bits ≤ n / b.toNat → exec i s = .next (takeException .de s1))
      ∧ (b ≠ 0#32 → fits →
          exec j s = .next { s1 with
            regs := s.regs.writeQuotient w (BitVec.ofInt 32 (m.tdiv d)) (BitVec.ofInt 32 (m.tmod d)),
            pc := s.nextpc })
      ∧ (b = 0#32 ∨ ¬fits → exec j s = .next (takeException .de s1))

/-- The decimal and ASCII adjustments: DAA, DAS, AAA, AAS, AAM with a base other than 0, and AAD, on AL and AH, with the
flags each leaves; AAM with base 0 raises #DE (R369 to R374). It rests on the spec's own decisions D16, D37
(92_eei_decisions.md). -/
def Obligations.DecimalAdjustsComplete : Prop :=
  ∀ (s : State) (base : Byte),
    let al := s.regs.read .w8 .eax
    let ah := s.regs.read .w8 .esp
    let ax := s.regs.read .w16 .eax
    let low := decide (9 < al.toNat % 16) || s.cc.af
    let high := decide (0x99 < al.toNat) || s.cc.cf
    let daa := truncW .w8 (al + (bif low then 6#32 else 0#32) + (bif high then 0x60#32 else 0#32))
    let das := truncW .w8 (al - (bif low then 6#32 else 0#32) - (bif high then 0x60#32 else 0#32))
    let decimal (r : W32) (cf : Bool) : State :=
      { s with
        regs := s.regs.write .w8 .eax r,
        cc := s.cc.setImage (atBit cf 0 ||| atBit (parity8 r) 2 ||| atBit low 4 ||| atBit (r == 0#32) 6
                ||| atBit (msbW .w8 r) 7),
        pc := s.nextpc }
    let ascii (ax' : W32) : State :=
      { s with
        regs := (s.regs.write .w16 .eax ax').write .w8 .eax (truncW .w8 ax' &&& 0xF#32),
        cc := s.cc.setImage ((s.cc.image &&& 0x8C4#32) ||| atBit low 0 ||| atBit low 4), pc := s.nextpc }
    exec .daa s = .next (decimal daa (high || (low && (s.cc.cf || decide (0xF9 < al.toNat)))))
      ∧ exec .das s = .next (decimal das (high || (low && (s.cc.cf || decide (al.toNat < 6)))))
      ∧ exec .aaa s = .next (ascii (bif low then truncW .w16 (ax + 0x106#32) else ax))
      ∧ exec .aas s = .next (ascii (bif low then truncW .w16 (ax - 0x106#32) else ax))
      ∧ (base ≠ 0#8 → exec (.aam base) s = .next { s with
          regs := (s.regs.write .w8 .esp (BitVec.ofNat 32 (al.toNat / base.toNat))).write .w8 .eax
                    (BitVec.ofNat 32 (al.toNat % base.toNat)),
          cc := s.cc.recordLogic .w8 (BitVec.ofNat 32 (al.toNat % base.toNat)), pc := s.nextpc })
      ∧ exec (.aam 0#8) s = .next (takeException .de s)
      ∧ exec (.aad base) s = .next { s with
          regs := (s.regs.write .w8 .eax (truncW .w8 (al + ah * base.setWidth 32))).write .w8 .esp 0#32,
          cc := s.cc.recordLogic .w8 (truncW .w8 (al + ah * base.setWidth 32)), pc := s.nextpc }

/-- XCHG, XADD and CMPXCHG with an r/m operand: what goes to the operand, to the register and to the flags. With a
register operand XADD writes the sum last. CMPXCHG stores where the accumulator equals the operand, else it loads the
accumulator (R309, R375, R376). How a write after a read of the same place translates is log entry 18. -/
def Obligations.ExchangesComplete : Prop :=
  ∀ (s s1 s2 : State) (rm : Rm) (r : Reg) (l : Loc) (w : Width) (h : Held) (i j k : Instr),
    (i, j, k, w) ∈ [(.xchgRm8R8 rm r, .xaddRm8R8 rm r, .cmpxchgRm8R8 rm r, .w8),
                    (.xchgRmvRv rm r, .xaddRmvRv rm r, .cmpxchgRmvRv rm r, s.osz)] →
    s.locOf rm = some l → readLocW w l s = .ok h s1 →
    let a := h.val
    let b := s.regs.read w r
    let acc := s.regs.read w .eax
    let sum := truncW w (a + b)
    s.afterReads s1
      ∧ (writeBack w l h b s1 = .ok () s2 →
        exec i s = .next { s2 with regs := s2.regs.write w r a, pc := s.nextpc } ∧ l.storedBack w b h s1 s2)
      ∧ (∀ q, l = .reg q →
        exec j s = .next { s1 with
          regs := (s.regs.write w r a).write w q sum, cc := s.cc.record .add w sum b, pc := s.nextpc })
      ∧ (∀ seg off, l = .mem seg off → writeBack w l h sum s1 = .ok () s2 →
        exec j s = .next { s2 with regs := s.regs.write w r a, cc := s.cc.record .add w sum b, pc := s.nextpc }
          ∧ l.storedBack w sum h s1 s2)
      ∧ (acc = a → writeBack w l h b s1 = .ok () s2 →
        exec k s = .next { s2 with cc := s.cc.record .sub w 0#32 a, pc := s.nextpc } ∧ l.storedBack w b h s1 s2)
      ∧ (acc ≠ a → truncW w a = a →
        exec k s = .next { s1 with
            regs := s.regs.write w .eax a, cc := s.cc.record .sub w (truncW w (acc - a)) a, pc := s.nextpc })

/-- Every form of ROL, ROR, RCL, RCR, SHL, SHR and SAR, the second encoding of SHL among them: the result by the count
modulo 32 is stored with the operation's flags; where the operation has no effect the operand is stored as it was and no
flag changes (R400 to R407). It rests on the spec's own decisions D16, D43 (92_eei_decisions.md). How a write after a
read of the same place translates is log entry 18. -/
def Obligations.ShiftsComplete : Prop :=
  ∀ (k : ShiftRow) (s s1 s2 : State) (rm : Rm) (i : Instr) (w : Width) (raw : W32) (l : Loc) (h : Held),
    ShiftForm k s rm i w raw → s.locOf rm = some l → readLocW w l s = .ok h s1 →
    let x := h.val
    let n := raw.toNat % 32
    let idle := n = 0 ∨ (k = .rcl ∨ k = .rcr) ∧ n % (w.bits + 1) = 0
    s.afterReads s1
      ∧ (idle → writeBack w l h x s1 = .ok () s2 →
          exec i s = .next { s2 with pc := s.nextpc } ∧ l.storedBack w x h s1 s2)
      ∧ (¬idle → let r := shiftResult k.op w s.cc.cf x n
          writeBack w l h r s1 = .ok () s2 →
          exec i s = .next { s2 with cc := shiftFlags k.op w s.cc x n, pc := s.nextpc } ∧ l.storedBack w r h s1 s2)

/-- SHLD and SHRD by an immediate or CL: the double shift of the operand with the register is stored with its flags; a
count of 0 stores the operand as it was and changes no flag. At width 32 the result takes its bits from the two operands
side by side, at width 16 from the operand, the register and the operand again; CF is the last bit shifted out, OF the
change of sign, AF 0, and ZF, SF and PF are those of the result (R408, R409). It rests on the spec's own decision D16
(92_eei_decisions.md). How a write after a read of the same place translates is log entry 18. -/
def Obligations.DoubleShiftsComplete : Prop :=
  ∀ (s s1 s2 : State) (rm : Rm) (r : Reg) (i : Instr) (left : Bool) (raw : W32) (h : Held) (l : Loc) (ib : Byte),
    (i, left, raw) ∈ [(.shldImm8 rm r ib, true, ib.setWidth 32), (.shldCl rm r, true, s.regs.read .w8 .ecx),
                      (.shrdImm8 rm r ib, false, ib.setWidth 32), (.shrdCl rm r, false, s.regs.read .w8 .ecx)] →
    s.locOf rm = some l → readLocW s.osz l s = .ok h s1 →
    let a := h.val
    let b := s.regs.read s.osz r
    let n := raw.toNat % 32
    let v := doubleResult left s.osz a b n
    let c : CC := s.cc.setImage (doubleImage s.osz a v (doubleCarry left s.osz a b n))
    let t (k : Nat) : Bool :=
      bif decide (k < 16) then a.getLsbD k else bif decide (k < 32) then b.getLsbD (k - 16) else a.getLsbD (k - 32)
    s.afterReads s1
      ∧ (n = 0 → writeBack s.osz l h a s1 = .ok () s2 →
        exec i s = .next { s2 with pc := s.nextpc } ∧ l.storedBack s.osz a h s1 s2)
      ∧ (n ≠ 0 → writeBack s.osz l h v s1 = .ok () s2 →
        exec i s = .next { s2 with cc := c, pc := s.nextpc } ∧ l.storedBack s.osz v h s1 s2)
      ∧ (n ≠ 0 → s.osz = .w32 →
        (∀ k, k < 32 →
          v.getLsbD k = (bif left then (bif decide (n ≤ k) then a.getLsbD (k - n) else b.getLsbD (32 + k - n))
                         else (bif decide (n + k < 32) then a.getLsbD (n + k) else b.getLsbD (n + k - 32))))
          ∧ c.flags = flagsOf .w32 v (a.getLsbD (bif left then 32 - n else n - 1)) false (msbW .w32 v ^^ msbW .w32 a))
      ∧ (n ≠ 0 → s.osz = .w16 →
        (∀ k, v.getLsbD k = (decide (k < 16) && t (bif left then 32 - n + k else n + k)))
          ∧ c.flags = flagsOf .w16 v (t (bif left then 48 - n else n - 1)) false (msbW .w16 v ^^ msbW .w16 a))

/-- BT, BTS, BTR and BTC with an immediate or a register index, and BSF and BSR: CF takes the bit, the other flags stay;
in memory a register index selects the word by its signed quotient. BSF and BSR write the position of the lowest or
highest set bit and clear ZF; a source of 0 sets ZF and leaves the register (R410 to R416). It rests on the spec's own
decisions D16, D44 (92_eei_decisions.md). How a write after a read of the same place translates is log entry 18. -/
def Obligations.BitInstructionsComplete : Prop :=
  ∀ (s s1 s2 : State) (rm : Rm) (r : Reg) (ib : Byte) (l : Loc) (v : W32), s.locOf rm = some l →
    let w := s.osz
    let b := s.regs.read w r
    let word : Loc := match l with
      | .reg q => .reg q
      | .mem seg off => .mem seg (truncW s.asz (off + BitVec.ofInt 32 (signedW w b / w.bits * w.bytes)))
    let flags (n : Nat) : CC := s.cc.setImage ((s.cc.image &&& 0x8D4#32) ||| atBit (v.getLsbD n) 0)
    (∀ p n t bts btr btc, (p, n, t, bts, btr, btc)
          ∈ [(l, ib.toNat % w.bits, .btRmvImm8 rm ib, .btsRmvImm8 rm ib, .btrRmvImm8 rm ib, .btcRmvImm8 rm ib),
             (word, b.toNat % w.bits, .btRmvRv rm r, .btsRmvRv rm r, .btrRmvRv rm r, .btcRmvRv rm r)] →
        (readLoc w p s = .ok v s1 →
            exec t s = .next { s1 with cc := flags n, pc := s.nextpc } ∧ s.afterReads s1)
          ∧ (∀ h, readLocW w p s = .ok h s1 → h.val = v → ∀ i x,
            (i, x) ∈ [(bts, v ||| 1#32 <<< n), (btr, v &&& ~~~(1#32 <<< n)), (btc, v ^^^ 1#32 <<< n)] →
            writeBack w p h x s1 = .ok () s2 →
            exec i s = .next { s2 with cc := flags n, pc := s.nextpc }
              ∧ s.afterReads s1 ∧ p.storedBack w x h s1 s2))
      ∧ (readLoc w l s = .ok v s1 →
        s.afterReads s1
          ∧ (v = 0#32 → ∀ i, i ∈ [.bsfRvRmv r rm, .bsrRvRmv r rm] →
              exec i s = .next { s1 with cc := s.cc.setImage (s.cc.image ||| 0x40#32), pc := s.nextpc })
          ∧ (∀ n, n < 32 → v.getLsbD n = true →
              ((∀ k, k < n → v.getLsbD k = false) →
                exec (.bsfRvRmv r rm) s = .next { s1 with
                  regs := s.regs.write w r (BitVec.ofNat 32 n),
                  cc := s.cc.setImage (s.cc.image &&& ~~~0x40#32), pc := s.nextpc })
                ∧ ((∀ k, n < k → v.getLsbD k = false) →
                exec (.bsrRvRmv r rm) s = .next { s1 with
                  regs := s.regs.write w r (BitVec.ofNat 32 n),
                  cc := s.cc.setImage (s.cc.image &&& ~~~0x40#32), pc := s.nextpc })))

/-- MOV to an r/m operand or a direct offset, from a register or an immediate, and SETcc: the value is stored and
nothing else changes (R301, R304, R306, R326). -/
def Obligations.StoringMovesComplete : Prop :=
  ∀ (s s1 : State) (rm : Rm) (r : Reg) (ib : Byte) (iv ia : ImmV) (cc : Cond) (n : BitVec 3) (l : Loc) (i : Instr)
    (w : Width) (v : W32),
    writeLoc w l v s = .ok () s1 →
    (s.locOf rm = some l ∧ (i, w, v) ∈ [
          (.movRm8R8 rm r, .w8, s.regs.read .w8 r), (.movRmvRv rm r, s.osz, s.regs.read s.osz r),
          (.movRm8Imm8 rm ib, .w8, ib.setWidth 32), (.movRmvImmv rm iv, s.osz, iv.val),
          (.setccRm8 cc n rm, .w8, bif s.cc.cond cc then 1#32 else 0#32)]
      ∨ l = .mem (s.dec.segOvr.getD .ds) ia.val ∧ (i, w, v) ∈ [
          (.movMoffsAl ia, .w8, s.regs.read .w8 .eax), (.movMoffsEax ia, s.osz, s.regs.read s.osz .eax)]) →
    exec i s = .next { s1 with pc := s.nextpc } ∧ l.stored w v s s1

/-- MOV to a register from an r/m operand or a direct offset, MOVZX, MOVSX, XLAT, and CMOVcc, which reads its source
whether or not it moves it; BSWAP reverses the bytes of its register at every operand size: only the register and pc
change. For every form of address the offset and the segment are written out: the base, the scaled index and the
displacement, modulo 2^16 in the 16-bit forms, and the default segment or the one a prefix names; LEA writes that offset,
and a MOV reads at the segment's base plus it, both from the registers as they were (R140, R231 to R233, R235, R236, R239,
R302, R305, R307, R308, R311, R314, R315, R325). It rests on the spec's own decisions D7, D16, D45, D53
(92_eei_decisions.md). -/
def Obligations.LoadingMovesComplete : Prop :=
  ∀ (s s1 : State) (rm : Rm) (r q : Reg) (ia : ImmV) (cc : Cond) (l : Loc) (i : Instr) (w wd : Width) (v x : W32)
    (sg : Sreg) (off : W32),
    let y := s.regs.get r
    exec (.bswapR32 r) s = .next { s with
        regs := s.regs.set r
          ((y <<< 24) ||| ((y &&& 0xFF00#32) <<< 8) ||| ((y >>> 8) &&& 0xFF00#32) ||| (y >>> 24)), pc := s.nextpc }
      ∧ (readLoc w l s = .ok v s1 →
    (s.locOf rm = some l ∧ (i, w, wd, q, x) ∈ [
          (.movR8Rm8 r rm, .w8, .w8, r, v), (.movRvRmv r rm, s.osz, s.osz, r, v),
          (.movzxRvRm8 r rm, .w8, s.osz, r, truncW .w8 v), (.movzxRvRm16 r rm, .w16, s.osz, r, truncW .w16 v),
          (.movsxRvRm8 r rm, .w8, s.osz, r, sextW .w8 v), (.movsxRvRm16 r rm, .w16, s.osz, r, sextW .w16 v)]
      ∨ l = .mem (s.dec.segOvr.getD .ds) ia.val ∧ (i, w, wd, q, x) ∈ [
          (.movAlMoffs ia, .w8, .w8, .eax, v), (.movEaxMoffs ia, s.osz, s.osz, .eax, v)]
      ∨ l = .mem (s.dec.segOvr.getD .ds) (truncW s.asz (s.regs.ebx + s.regs.read .w8 .eax))
          ∧ (i, w, wd, q, x) = (.xlat, .w8, .w8, .eax, v) →
        exec i s = .next { s1 with regs := s.regs.write wd q x, pc := s.nextpc } ∧ s.afterReads s1)
      ∧ (s.locOf rm = some l → w = s.osz →
        exec (.cmovRvRmv cc r rm) s
            = .next { s1 with regs := bif s.cc.cond cc then s.regs.write w r v else s.regs, pc := s.nextpc }
          ∧ s.afterReads s1))
      ∧ s.locOf (.reg q) = some (.reg q)
      ∧ (WellFormed s.mode (.leaRvM r rm) = true → Addressed s.regs rm sg off →
        s.locOf rm = some (.mem (s.dec.segOvr.getD sg) off)
          ∧ exec (.leaRvM r rm) s = .next { s with regs := s.regs.write s.osz r off, pc := s.nextpc }
          ∧ (accRead ((s.segs.get (s.dec.segOvr.getD sg)).base + off) s.osz.bytes s = .ok v s1 →
            exec (.movRvRmv r rm) s = .next { s1 with regs := s.regs.write s.osz r v, pc := s.nextpc }
              ∧ s.afterReads s1))

/-- The moves between registers: MOV of an immediate, LEA, XCHG with the accumulator, CBW and CWDE, CWD and CDQ, LAHF
and SAHF: only the registers named change, and the flags for SAHF (R303, R310 to R313, R335, R336). -/
def Obligations.RegisterMovesComplete : Prop :=
  ∀ (s : State) (r q : Reg) (ib : Byte) (iv : ImmV) (rm : Rm) (i : Instr),
    let put (w : Width) (p : Reg) (v : W32) : State := { s with regs := s.regs.write w p v, pc := s.nextpc }
    exec (.movR8Imm8 r ib) s = .next (put .w8 r (ib.setWidth 32))
      ∧ exec (.movRvImmv r iv) s = .next (put s.osz r iv.val)
      ∧ (∀ seg off, s.locOf rm = some (.mem seg off) → exec (.leaRvM r rm) s = .next (put s.osz r off))
      ∧ (∀ p, s.locOf rm = some (.reg p) → exec (.leaRvM r rm) s = .next (takeException .ud s))
      ∧ ((i, q) ∈ [(.xchgEaxEcx, .ecx), (.xchgEaxEdx, .edx), (.xchgEaxEbx, .ebx), (.xchgEaxEsp, .esp),
                   (.xchgEaxEbp, .ebp), (.xchgEaxEsi, .esi), (.xchgEaxEdi, .edi)] →
        exec i s = .next { s with
          regs := (s.regs.write s.osz .eax (s.regs.read s.osz q)).write s.osz q (s.regs.read s.osz .eax),
          pc := s.nextpc })
      ∧ exec .cbw s = .next (put s.osz .eax
          (bif s.osz == .w32 then sextW .w16 (s.regs.read .w16 .eax) else sextW .w8 (s.regs.read .w8 .eax)))
      ∧ exec .cwd s = .next (put s.osz .edx (bif msbW s.osz (s.regs.read s.osz .eax) then 0xFFFFFFFF#32 else 0#32))
      ∧ exec .lahf s = .next (put .w8 .esp (flagsRead s &&& 0xFF#32))
      ∧ exec .sahf s = .next { s with
          cc := s.cc.setImage ((s.cc.image &&& 0x800#32) ||| (s.regs.read .w8 .esp &&& 0xD5#32)), pc := s.nextpc }

/-- PUSH of a register, an immediate, an r/m operand, the flags or a segment register: the value, read before the stack
pointer moves, is stored below it under the stack mask, 32 bits wide where the B bit of SS is 1 and 16 bits where it is 0,
and the stack pointer falls by the width. PUSHA stores the eight registers with the original stack pointer among them (R72,
R316, R318 to R320, R323, R527, R563). It rests on the spec's own decision D49 (92_eei_decisions.md). -/
def Obligations.PushesComplete : Prop :=
  ∀ (s s1 s2 : State) (r : Reg) (rm : Rm) (ib : Byte) (iv : ImmV) (l : Loc) (i : Instr) (v : W32),
    let w := s.osz
    let g := s.regs
    let slot : Loc := .mem .ss (s.below w 1)
    s.stackMask = (bif s.segs.ss.rights.getLsbD 22 then 0xFFFFFFFF#32 else 0x0000FFFF#32)
      ∧ (writeLoc w slot v s = .ok () s1 →
        (i, v) ∈ [(.pushRv r, g.read w r), (.pushImmv iv, iv.val), (.pushImm8 ib, ib.signExtend 32),
                  (.pushf, flagsRead s), (.pushEs, s.segs.es.sel.setWidth 32), (.pushCs, s.segs.cs.sel.setWidth 32),
                  (.pushSs, s.segs.ss.sel.setWidth 32), (.pushDs, s.segs.ds.sel.setWidth 32),
                  (.pushFs, s.segs.fs.sel.setWidth 32), (.pushGs, s.segs.gs.sel.setWidth 32)] →
        exec i s = .next { s1 with regs := s.espAt (s.below w 1), pc := s.nextpc } ∧ slot.stored w v s s1)
      ∧ (s.locOf rm = some l → readLoc w l s = .ok v s1 → writeLoc w slot v s1 = .ok () s2 →
        exec (.pushRmv rm) s = .next { s2 with regs := s.espAt (s.below w 1), pc := s.nextpc }
          ∧ s.afterReads s1 ∧ slot.stored w v s1 s2)
      ∧ ∀ items, items = [(s.below w 1, g.read w .eax), (s.below w 2, g.read w .ecx), (s.below w 3, g.read w .edx),
                          (s.below w 4, g.read w .ebx), (s.below w 5, g.read w .esp), (s.below w 6, g.read w .ebp),
                          (s.below w 7, g.read w .esi), (s.below w 8, g.read w .edi)] →
        accesses (onStack w items) s s1 →
        exec .pusha s = .next { s1 with regs := s.espAt (s.below w 8), pc := s.nextpc }
          ∧ frames (onStack w items) s s1

/-- POP to a register, to an r/m operand (whose address is formed after the stack pointer has moved), to the flags under
the mask of the mode and level, to a segment register, and POPA, which discards the stacked stack pointer (R317, R321,
R322, R324, R530, R564). -/
def Obligations.PopsComplete : Prop :=
  ∀ (s s1 s2 : State) (r : Reg) (rm : Rm) (v : W32) (i : Instr) (n : Sreg),
    let w := s.osz
    let moved := s.espAt (s.above w 1)
    let mask : W32 := (bif s.cr0.getLsbD 0 && s.cpl != 0#2 then
        bif (s.eflagsSys.extractLsb' 12 2 : BitVec 2).ult s.cpl then 0x00244100#32 else 0x00244300#32
      else 0x00247300#32) &&& (bif w == .w16 then 0x0000FFFF#32 else 0xFFFFFFFF#32)
    (readLoc w (.mem .ss (s.above w 0)) s = .ok v s1 →
        s.afterReads s1
          ∧ exec (.popRv r) s = .next { s1 with regs := moved.write w r v, pc := s.nextpc }
          ∧ (∀ q, rm = .reg q → exec (.popRmv rm) s = .next { s1 with regs := moved.write w q v, pc := s.nextpc })
          ∧ (∀ seg off, State.locOf { s with regs := moved } rm = some (.mem seg off) →
              writeLoc w (.mem seg off) v s1 = .ok () s2 →
              exec (.popRmv rm) s = .next { s2 with regs := moved, pc := s.nextpc }
                ∧ Loc.stored w v s1 s2 (.mem seg off))
          ∧ exec .popf s = .next { s1 with
              regs := moved, cc := s.cc.setImage v, df := v.getLsbD 10,
              eflagsSys := (s.eflagsSys &&& ~~~(mask)) ||| (v &&& mask), pc := s.nextpc }
          ∧ ((i, n) ∈ [(.popEs, .es), (.popSs, .ss), (.popDs, .ds), (.popFs, .fs), (.popGs, .gs)] →
              loadSeg n (v.setWidth 16) s1 = .ok () s2 →
              exec i s = .next { s2 with regs := moved, pc := s.nextpc } ∧ s1.onlySegment n s2))
      ∧ ∀ edi esi ebp esp ebx edx ecx eax,
        accesses (offStack w [(s.above w 0, edi), (s.above w 1, esi), (s.above w 2, ebp), (s.above w 3, esp),
                              (s.above w 4, ebx), (s.above w 5, edx), (s.above w 6, ecx), (s.above w 7, eax)]) s s1 →
        s.afterReads s1 ∧ ∃ t, exec .popa s = .next t ∧ t = { s1 with regs := t.regs, pc := s.nextpc }
          ∧ t.regs = (((((((s.espAt (s.above w 8)).write w .edi edi).write w .esi esi).write w .ebp ebp).write w .ebx
                ebx).write w .edx edx).write w .ecx ecx).write w .eax eax

/-- The near jumps: Jcc, JMP, LOOP, LOOPE, LOOPNE and JCXZ go to the target, the sum of the next instruction's address and
the displacement or the operand's value, reduced by the operand size, or to the next instruction; LOOP writes its count
register; no flag changes. The sixteen conditions are written out (R59, R440 to R445, R450 to R453). It rests on the
spec's own decision D7 (92_eei_decisions.md). -/
def Obligations.BranchesComplete : Prop :=
  ∀ (s s1 : State) (cc : Cond) (d8 : Byte) (dv : ImmV) (rm : Rm) (l : Loc) (v : W32) (holds : Bool),
    let f := s.cc
    let rel : W32 := match dv with
      | .i16 x => x.signExtend 32
      | .i32 x => x
    let short := truncW s.osz (s.nextpc + d8.signExtend 32)
    let near := truncW s.osz (s.nextpc + rel)
    let go (c : Bool) (target : W32) : State := { s with pc := bif c then target else s.nextpc }
    let count := truncW s.asz (s.regs.read s.asz .ecx - 1#32)
    let loop (c : Bool) : State :=
      { s with regs := s.regs.write s.asz .ecx count, pc := bif c && count != 0#32 then short else s.nextpc }
    ((cc, holds) ∈ [(.o, f.of), (.no, !f.of), (.b, f.cf), (.nb, !f.cf), (.z, f.zf), (.nz, !f.zf), (.be, f.cf || f.zf),
                    (.nbe, !f.cf && !f.zf), (.s, f.sf), (.ns, !f.sf), (.p, f.pf), (.np, !f.pf), (.l, f.sf != f.of),
                    (.nl, f.sf == f.of), (.le, f.zf || f.sf != f.of), (.nle, !f.zf && f.sf == f.of)] →
        f.cond cc = holds ∧ exec (.jccRel8 cc d8) s = .next (go holds short)
          ∧ exec (.jccRelv cc dv) s = .next (go holds near))
      ∧ exec (.jccRel8 cc d8) s = .next (go (s.cc.cond cc) short)
      ∧ exec (.jccRelv cc dv) s = .next (go (s.cc.cond cc) near)
      ∧ exec (.jmpRel8 d8) s = .next (go true short)
      ∧ exec (.jmpRelv dv) s = .next (go true near)
      ∧ exec (.jcxzRel8 d8) s = .next (go (s.regs.read s.asz .ecx == 0#32) short)
      ∧ exec (.loopRel8 d8) s = .next (loop true)
      ∧ exec (.loopeRel8 d8) s = .next (loop s.cc.zf)
      ∧ exec (.loopneRel8 d8) s = .next (loop !s.cc.zf)
      ∧ (s.locOf rm = some l → readLoc s.osz l s = .ok v s1 →
          exec (.jmpRmv rm) s = .next { s1 with pc := v } ∧ s.afterReads s1)

/-- Near CALL and RET, ENTER and LEAVE: CALL stores the address of the next instruction below the stack pointer, its
target read before; RET takes it back and releases a byte count; ENTER makes the frame, with the display copies of its
nesting level; LEAVE drops it (R446 to R449, R454, R455). -/
def Obligations.CallsAndFramesComplete : Prop :=
  ∀ (s s1 s2 : State) (dv : ImmV) (rm : Rm) (l : Loc) (v : W32) (iw : W16) (lvl : Byte),
    let w := s.osz
    let n := BitVec.ofNat 32 w.bytes
    let rel : W32 := match dv with
      | .i16 x => x.signExtend 32
      | .i32 x => x
    let slot : Loc := .mem .ss (s.below w 1)
    let frame := s.below w 1
    let framed (sp : W32) (u : State) : State :=
      { u with
        regs := (s.regs.write w .ebp frame).set .esp
                  ((((s.regs.write w .ebp frame).get .esp) &&& ~~~s.stackMask)
                    ||| ((sp - iw.setWidth 32) &&& s.stackMask)),
        pc := s.nextpc }
    (writeLoc w slot s.nextpc s = .ok () s1 →
        exec (.callRelv dv) s
            = .next { s1 with regs := s.espAt (s.below w 1), pc := truncW w (s.nextpc + rel) }
          ∧ slot.stored w s.nextpc s s1)
      ∧ (s.locOf rm = some l → readLoc w l s = .ok v s1 → writeLoc w slot s.nextpc s1 = .ok () s2 →
        exec (.callRmv rm) s = .next { s2 with regs := s.espAt (s.below w 1), pc := v }
          ∧ s.afterReads s1 ∧ slot.stored w s.nextpc s1 s2)
      ∧ (readLoc w (.mem .ss (s.above w 0)) s = .ok v s1 →
        exec .ret s = .next { s1 with regs := s.espAt (s.above w 1), pc := v }
          ∧ exec (.retImm16 iw) s
              = .next { s1 with regs := s.espAt (s.regs.esp + n + iw.setWidth 32), pc := v }
          ∧ s.afterReads s1)
      ∧ (writeLoc w slot (s.regs.read w .ebp) s = .ok () s1 →
        lvl.toNat % 32 = 0 →
        exec (.enter iw lvl) s = .next (framed frame s1) ∧ slot.stored w (s.regs.read w .ebp) s s1)
      ∧ (0 < lvl.toNat % 32 → ∀ vs, vs.length = lvl.toNat % 32 - 1 →
        let sp := frame - BitVec.ofNat 32 (lvl.toNat % 32 * w.bytes)
        let all := .write w slot (s.regs.read w .ebp)
          :: (displayCopies w s.stackMask s.regs.ebp frame vs ++ [.write w (.mem .ss (sp &&& s.stackMask)) frame])
        accesses all s s1 → exec (.enter iw lvl) s = .next (framed sp s1) ∧ frames all s s1)
      ∧ (readLoc w (.mem .ss (s.regs.ebp &&& s.stackMask)) s = .ok v s1 →
        exec .leave s
            = .next { s1 with regs := (s.espAt (s.regs.ebp + n)).write w .ebp v, pc := s.nextpc }
          ∧ s.afterReads s1)

/-- INT n, INT3 and a taken INTO are delivered as software interrupts that return to the next instruction; INTO with OF
clear goes on; BOUND with the index inside its bounds goes on and raises #BR outside them (R456 to R459, R672). -/
def Obligations.SoftwareInterruptsComplete : Prop :=
  ∀ (s s1 s2 : State) (ib : Byte) (r : Reg) (rm : Rm) (seg : Sreg) (off lo hi : W32),
    let w := s.osz
    let index := signedW w (s.regs.read w r)
    (deliver ib true none false s.nextpc s = .ok () s1 → exec (.intImm8 ib) s = .next s1)
      ∧ (deliver 3#8 true none false s.nextpc s = .ok () s1 → exec .int3 s = .next s1)
      ∧ (s.cc.of = true → deliver 4#8 true none false s.nextpc s = .ok () s1 → exec .into s = .next s1)
      ∧ (s.cc.of = false → exec .into s = .next { s with pc := s.nextpc })
      ∧ (s.locOf rm = some (.mem seg off) → readLoc w (.mem seg off) s = .ok lo s1 →
          readLoc w (.mem seg (truncW s.asz (off + BitVec.ofNat 32 w.bytes))) s1 = .ok hi s2 →
          s.afterReads s2
            ∧ (signedW w lo ≤ index → index ≤ signedW w hi →
                exec (.boundRvM r rm) s = .next { s2 with pc := s.nextpc })
            ∧ (index < signedW w lo ∨ signedW w hi < index →
                exec (.boundRvM r rm) s = .next (takeException .br s2)))

/-- One element of each string instruction, with and without a repeat prefix: what it reads, stores and compares, how
the index registers move, and whether the instruction is repeated; with a repeat count of 0 nothing is done (R480 to
R486, R504, R505). It rests on the spec's own decisions D14, D25, D28 (92_eei_decisions.md). What a port answers is a
free value (log entry 5); how the write of INS translates after its probe is log entry 18. -/
def Obligations.StringElementsComplete : Prop :=
  ∀ (s s1 s2 s3 : State) (w : Width) (i : Instr) (v x : W32),
    let g := s.regs
    let src : Loc := .mem (s.dec.segOvr.getD .ds) (g.read s.asz .esi)
    let dst : Loc := .mem .es (g.read s.asz .edi)
    let one (b v : Instr) : Prop := (i, w) ∈ [(b, .w8), (v, s.osz)]
    (s.dec.rep ≠ none → g.read s.asz .ecx = 0#32 →
        i ∈ [.movsb, .movsv, .cmpsb, .cmpsv, .stosb, .stosv, .lodsb, .lodsv, .scasb, .scasv, .insb, .insv, .outsb,
             .outsv] →
        exec i s = .next { s with pc := s.nextpc })
      ∧ (s.dec.rep = none ∨ g.read s.asz .ecx ≠ 0#32 →
        (one .movsb .movsv → readLoc w src s = .ok v s1 → writeLoc w dst v s1 = .ok () s2 →
            exec i s = .next (s.afterElement false { s2 with regs := s.movedBoth w })
              ∧ s.afterReads s1 ∧ dst.stored w v s1 s2)
          ∧ (one .cmpsb .cmpsv → readLoc w src s = .ok v s1 → readLoc w dst s1 = .ok x s2 →
            exec i s = .next (s.afterElement true { s2 with
                regs := s.movedBoth w, cc := s.cc.record .sub w (truncW w (v - x)) x }) ∧ s.afterReads s2)
          ∧ (one .stosb .stosv → writeLoc w dst (g.read w .eax) s = .ok () s1 →
            exec i s = .next (s.afterElement false { s1 with regs := s.moved w .edi })
              ∧ dst.stored w (g.read w .eax) s s1)
          ∧ (one .lodsb .lodsv → readLoc w src s = .ok v s1 →
            exec i s = .next (s.afterElement false { s1 with regs := (s.moved w .esi).write w .eax v })
              ∧ s.afterReads s1)
          ∧ (one .scasb .scasv → readLoc w dst s = .ok x s1 →
            exec i s = .next (s.afterElement true { s1 with
                regs := s.moved w .edi, cc := s.cc.record .sub w (truncW w (g.read w .eax - x)) x })
              ∧ s.afterReads s1)
          ∧ (s.iopl.ult s.cpl = false →
            (one .insb .insv →
                ∀ h : Held,
                translateSpan (s.segs.es.base + g.read s.asz .edi) w.bytes .write (s.cpl == 3#2) s = .ok h.places s1 →
                portRead (g.edx.setWidth 16) w s1 = .ok v s2 → writeBack w dst h v s2 = .ok () s3 →
                exec i s = .next (s.afterElement false { s3 with regs := s.moved w .edi })
                  ∧ s.afterReads s1 ∧ s2 = { s1 with history := s2.history, irqLine := s2.irqLine }
                  ∧ dst.storedBack w v h s2 s3)
              ∧ (one .outsb .outsv → readLoc w src s = .ok v s1 →
                portWrite (g.edx.setWidth 16) w v s1 = .ok () s2 →
                exec i s = .next (s.afterElement false { s2 with regs := s.moved w .esi })
                  ∧ s.afterReads s1 ∧ s2 = { s1 with history := s2.history, irqLine := s2.irqLine })))

/-- IN and OUT where the level allows them: the accumulator takes what the port answers, or is written to the port. A
registered handler of the width is called once, and what it answers is cut to the width; with no handler a read answers
all ones and a write does nothing; a word or a dword without a handler is done byte by byte, in ascending order of ports,
the lowest port the lowest byte (R195 to R197, R500 to R503). It rests on the spec's own decisions D30, D31
(92_eei_decisions.md). What the platform answers is a free value (log entry 5). -/
def Obligations.PortsComplete : Prop :=
  ∀ (s s1 s2 s3 s4 : State) (ib : Byte) (w : Width) (port : W16) (i o : Instr) (v b0 b1 b2 b3 : W32),
    let slot (k : Nat) : BitVec 10 := (port + BitVec.ofNat 16 k).extractLsb' 0 10
    let called (e : PlatEvent) : State :=
      { s with history := e :: s.history, irqLine := Config.irqAfter (e :: s.history) }
    (s.iopl.ult s.cpl = false →
      (i, o, w, port) ∈ [(.inAlImm8 ib, .outImm8Al ib, .w8, ib.setWidth 16),
                         (.inAlDx, .outDxAl, .w8, s.regs.edx.setWidth 16),
                         (.inEaxImm8 ib, .outImm8Eax ib, s.osz, ib.setWidth 16),
                         (.inEaxDx, .outDxEax, s.osz, s.regs.edx.setWidth 16)] →
      (portRead port w s = .ok v s1 →
          exec i s = .next { s1 with regs := s.regs.write w .eax v, pc := s.nextpc }
            ∧ s1 = { s with history := s1.history, irqLine := s1.irqLine })
        ∧ (portWrite port w (s.regs.read w .eax) s = .ok () s1 →
          exec o s = .next { s1 with pc := s.nextpc }
            ∧ s1 = { s with history := s1.history, irqLine := s1.irqLine }))
      ∧ (slot 0 ∈ s.ports.reads w → portRead port w s
            = .ok (truncW w (Config.portAnswer s.history port w)) (called (.portRead port w)))
      ∧ (slot 0 ∈ s.ports.writes w → portWrite port w v s = .ok () (called (.portWrite port w (truncW w v))))
      ∧ (slot 0 ∉ s.ports.reads w → (∀ k, k < w.bytes → slot k ∉ s.ports.r8) →
          portRead port w s = .ok (truncW w 0xFFFFFFFF#32) s)
      ∧ (slot 0 ∉ s.ports.writes w → (∀ k, k < w.bytes → slot k ∉ s.ports.w8) → portWrite port w v s = .ok () s)
      ∧ (portRead port .w8 s = .ok b0 s1 → portRead (port + 1#16) .w8 s1 = .ok b1 s2 →
        (slot 0 ∉ s.ports.r16 → portRead port .w16 s = .ok (b0 ||| b1 <<< 8) s2)
          ∧ (portRead (port + 2#16) .w8 s2 = .ok b2 s3 → portRead (port + 3#16) .w8 s3 = .ok b3 s4 →
            slot 0 ∉ s.ports.r32 → portRead port .w32 s = .ok (b0 ||| b1 <<< 8 ||| b2 <<< 16 ||| b3 <<< 24) s4))
      ∧ (portWrite port .w8 v s = .ok () s1 → portWrite (port + 1#16) .w8 (v >>> 8) s1 = .ok () s2 →
        (slot 0 ∉ s.ports.w16 → portWrite port .w16 v s = .ok () s2)
          ∧ (portWrite (port + 2#16) .w8 (v >>> 16) s2 = .ok () s3 →
            portWrite (port + 3#16) .w8 (v >>> 24) s3 = .ok () s4 →
            slot 0 ∉ s.ports.w32 → portWrite port .w32 v s = .ok () s4))

/-- The flag control and miscellaneous instructions, each with all it changes: CLC, STC, CMC, CLD, STD, CLI, STI, NOP,
HLT, CPUID, RDTSC, the escape opcodes, FWAIT, CLTS, INVD and WBINVD (R520 to R526, R533, R534, R536 to R539, R619, R624).
It rests on the spec's own decisions D18, D25, D26, D27, D34, D40 (92_eei_decisions.md). -/
def Obligations.FlagAndMiscInstructionsComplete : Prop :=
  ∀ (s : State) (e n : BitVec 3) (rm : Rm),
    let on (f : State) : Host.Outcome State Fault Refusal := .next { f with pc := s.nextpc }
    exec .clc s = on { s with cc := s.cc.setImage (s.cc.image &&& 0xFFFFFFFE#32) }
      ∧ exec .stc s = on { s with cc := s.cc.setImage (s.cc.image ||| 1#32) }
      ∧ exec .cmc s = on { s with cc := s.cc.setImage (s.cc.image ^^^ 1#32) }
      ∧ exec .cld s = on { s with df := false } ∧ exec .std s = on { s with df := true }
      ∧ exec .nop s = on s
      ∧ (s.iopl.ult s.cpl = false →
          exec .cli s = on { s with eflagsSys := s.eflagsSys &&& 0xFFFFFDFF#32 }
            ∧ exec .sti s = on { s with eflagsSys := s.eflagsSys ||| 0x200#32 })
      ∧ (s.cpl = 0#2 →
          exec .hlt s = on { s with halted := true } ∧ exec .clts s = on { s with cr0 := s.cr0 &&& 0xFFFFFFF7#32 }
            ∧ exec .invd s = on s ∧ exec .wbinvd s = on s)
      ∧ exec .cpuid s = on { s with regs :=
          bif s.regs.eax == 0#32 then
            { s.regs with eax := 1#32, ebx := 0x756E6547#32, ecx := 0x6C65746E#32, edx := 0x49656E69#32 }
          else { s.regs with eax := 0x543#32, ebx := 0x800#32, ecx := 0#32, edx := 0x10#32 } }
      ∧ (s.cr4.getLsbD 2 = false ∨ s.cpl = 0#2 →
          exec .rdtsc s = on { s with regs := { s.regs with
            eax := s.cycleCount.setWidth 32, edx := (s.cycleCount >>> 32).setWidth 32 } })
      ∧ (s.cr4.getLsbD 2 = true → s.cpl ≠ 0#2 → exec .rdtsc s = .next (takeException (.gp 0#32) s))
      ∧ (s.cr0.getLsbD 2 = false → s.cr0.getLsbD 3 = false → exec (.esc e n rm) s = on s)
      ∧ (s.cr0.getLsbD 2 = true ∨ s.cr0.getLsbD 3 = true → exec (.esc e n rm) s = .next (takeException .nm s))
      ∧ (s.cr0.getLsbD 1 = false ∨ s.cr0.getLsbD 3 = false → exec .fwait s = on s)
      ∧ (s.cr0.getLsbD 1 = true → s.cr0.getLsbD 3 = true → exec .fwait s = .next (takeException .nm s))

/-- MOV between an r/m operand and a segment register, and LDS, LES, LFS, LGS, LSS: a selector goes to a register at the
operand size and to memory as a word; a load loads the segment register, and the far loads then write the offset to
their register. The numbers 0 to 5 name ES, CS, SS, DS, FS and GS; the forms with number 6 or 7, the load with number 1
and the far loads of a register raise #UD (R67, R561, R562, R565). Where the reading of a form that raises ends is log
entry 13. -/
def Obligations.SegmentMovesComplete : Prop :=
  ∀ (s s1 s2 s3 : State) (rm : Rm) (r : Reg) (n : BitVec 3) (m : Sreg) (l : Loc) (v x : W32) (i : Instr),
    let sel := (s.segs.get m).sel.setWidth 32
    ((n, m) ∈ [(0#3, .es), (1#3, .cs), (2#3, .ss), (3#3, .ds), (4#3, .fs), (5#3, .gs)] →
        (∀ q, s.locOf rm = some (.reg q) →
            exec (.movRm16Sreg rm n) s = .next { s with regs := s.regs.write s.osz q sel, pc := s.nextpc })
          ∧ (∀ seg off, s.locOf rm = some (.mem seg off) → writeLoc .w16 (.mem seg off) sel s = .ok () s1 →
            exec (.movRm16Sreg rm n) s = .next { s1 with pc := s.nextpc } ∧ Loc.stored .w16 sel s s1 (.mem seg off)))
      ∧ ((n, m) ∈ [(0#3, .es), (2#3, .ss), (3#3, .ds), (4#3, .fs), (5#3, .gs)] →
        s.locOf rm = some l → readLoc .w16 l s = .ok v s1 → loadSeg m (v.setWidth 16) s1 = .ok () s2 →
        exec (.movSregRm16 n rm) s = .next { s2 with pc := s.nextpc } ∧ s.afterReads s1 ∧ s1.onlySegment m s2)
      ∧ (∀ seg off, s.locOf rm = some (.mem seg off) →
        (i, m) ∈ [(.lesRvM r rm, .es), (.ldsRvM r rm, .ds), (.lssRvM r rm, .ss), (.lfsRvM r rm, .fs),
                  (.lgsRvM r rm, .gs)] →
        readLoc s.osz (.mem seg off) s = .ok v s1 →
        readLoc .w16 (.mem seg (truncW s.asz (off + BitVec.ofNat 32 s.osz.bytes))) s1 = .ok x s2 →
        loadSeg m (x.setWidth 16) s2 = .ok () s3 →
        exec i s = .next { s3 with regs := s.regs.write s.osz r v, pc := s.nextpc }
          ∧ s.afterReads s2 ∧ s2.onlySegment m s3)
      ∧ (WellFormed s.mode i = true →
        ((n = 6#3 ∨ n = 7#3) ∧ i = .movRm16Sreg rm n
            ∨ (n = 1#3 ∨ n = 6#3 ∨ n = 7#3) ∧ i = .movSregRm16 n rm
            ∨ (∃ q, rm = .reg q) ∧ i ∈ [.lesRvM r rm, .ldsRvM r rm, .lssRvM r rm, .lfsRvM r rm, .lgsRvM r rm]) →
        exec i s = .next (takeException .ud s))

/-- The far transfers in real-address mode: JMP and CALL by an immediate or a memory pointer, RETF and IRET; CS takes
the selector and its base, the limit and the rights staying those of real mode; CALL stores CS and the address of the
next instruction; IRET restores the flags; with a 32-bit operand size and CPL 0 an IRET that pops an image with VM set
aborts after its pops, with no register written (R47, R568 to R573, R577, R581, R591). It rests on the spec's own decisions
D3, D20, D21 (92_eei_decisions.md). That the pops come before that abort is the model's inference from R582 (log entry 19),
and how an abort is answered is its choice (log entry 7). -/
def Obligations.RealModeFarTransfersComplete : Prop :=
  ∀ (s s1 s2 s3 : State) (rm : Rm) (seg : Sreg) (off sel o c f : W32) (ov : ImmV) (sv iw : W16), s.pe = false →
    let w := s.osz
    let n := BitVec.ofNat 32 w.bytes
    let code (x : W16) : Segs := s.segs.set .cs
      { sel := x, base := x.setWidth 32 <<< 4, limit := 0x0000FFFF#32, rights := 0x00009300#32 }
    let cs := s.segs.cs.sel.setWidth 32
    let items := [(s.below w 1, cs), (s.below w 2, s.nextpc)]
    exec (.jmpPtr ov sv) s = .next { s with segs := code sv, pc := ov.val }
      ∧ (accesses (onStack w items) s s1 →
        exec (.callPtr ov sv) s
            = .next { s1 with regs := s.espAt (s.below w 2), segs := code sv, pc := ov.val }
          ∧ frames (onStack w items) s s1)
      ∧ (s.locOf rm = some (.mem seg off) → readLoc w (.mem seg off) s = .ok o s1 →
        readLoc .w16 (.mem seg (truncW s.asz (off + n))) s1 = .ok sel s2 →
        exec (.jmpM rm) s = .next { s2 with segs := code (sel.setWidth 16), pc := o } ∧ s.afterReads s2
          ∧ (accesses (onStack w items) s2 s3 →
            exec (.callM rm) s = .next { s3 with
                regs := s.espAt (s.below w 2), segs := code (sel.setWidth 16), pc := o }
              ∧ frames (onStack w items) s2 s3))
      ∧ (accesses (offStack w [(s.above w 0, o), (s.above w 1, c)]) s s1 →
        exec .retf s = .next { s1 with regs := s.espAt (s.above w 2), segs := code (c.setWidth 16), pc := o }
          ∧ exec (.retfImm16 iw) s = .next { s1 with
              regs := s.espAt (s.regs.esp + n + n + iw.setWidth 32), segs := code (c.setWidth 16), pc := o }
          ∧ s.afterReads s1)
      ∧ (accesses (offStack w [(s.above w 0, o), (s.above w 1, c), (s.above w 2, f)]) s s1 →
        let mask := bif w == .w32 then 0x00247300#32 else 0x00007300#32
        let vm86 := w == .w32 && s.cpl == 0#2 && f.getLsbD 17
        (vm86 = true → exec .iret s = .next (s1.setAborted .unsupportedVm86))
          ∧ (vm86 = false → exec .iret s = .next { s1 with
              regs := s.espAt (s.above w 3), segs := code (c.setWidth 16), pc := o,
              cc := s.cc.setImage f, df := f.getLsbD 10,
              eflagsSys := (s.eflagsSys &&& ~~~mask) ||| (f &&& mask) })
          ∧ s.afterReads s1)

/-- The far transfers in protected mode. JMP and CALL, by an immediate or a memory pointer, to a code segment; a null
selector and a target beyond the segment's limit raise #GP(0), a selector outside its table, a data segment, a privilege
violation and a reserved or unusable system type #GP, an absent segment #NP, with the selector; a jump or a call to a
gate, a TSS or a task it may not use aborts. RETF and IRET to the same level and to an outer level, where SS and ESP are
popped, CPL becomes the RPL popped and ES, DS, FS and GS are cleared where they are of an inner level; the code and the
stack selector popped raise #GP, #NP and #SS where their checks fail. IRET with NT set, and of a virtual-8086 image at CPL
0, aborts (R574 to R576, R578, R582 to R587, R590, R592). It rests on the spec's own decisions D21, D22, D23, D24, D51
(92_eei_decisions.md). How an abort is answered is the model's choice (log entry 7). -/
def Obligations.ProtectedFarTransfersComplete : Prop :=
  ∀ (s s0 s1 s2 s3 s4 s5 s6 : State) (sel iw : W16) (off o c f imm : W32) (iret : Bool) (d e : Desc)
    (i jump call : Instr) (x : Exc),
    s.pe = true →
    let w := s.osz
    let n := BitVec.ofNat 32 w.bytes
    let ec (y : W16) : W32 := (y &&& 0xFFFC#16).setWidth 32
    let dpl (d : Desc) : BitVec 2 := d.e2.extractLsb' 13 2
    let seg (y : W16) (d : Desc) : SegReg :=
      { sel := y, base := descBase d.e1 d.e2, limit := descLimit d.e1 d.e2, rights := d.e2 ||| 0x100#32 }
    let items := [(s.below w 1, s.segs.cs.sel.setWidth 32), (s.below w 2, s.nextpc)]
    let target := (sel &&& 0xFFFC#16) ||| s.cpl.setWidth 16
    let ty : BitVec 4 := d.e2.extractLsb' 8 4
    let denied := !d.e2.getLsbD 11 || (bif d.e2.getLsbD 10 then s.cpl.ult (dpl d)
      else s.cpl.ult (sel.extractLsb' 0 2) || dpl d != s.cpl)
    let both (t : State) : Prop := exec jump s = .next t ∧ exec call s = .next t
    let mask : W32 := (0x00244100#32 ||| (bif s.cpl == 0#2 then 0x00003000#32 else 0#32)
      ||| (bif (s.eflagsSys.extractLsb' 12 2 : BitVec 2).ult s.cpl then 0#32 else 0x00000200#32))
      &&& (bif w == .w16 then 0x0000FFFF#32 else 0xFFFFFFFF#32)
    let flags (u : State) : State :=
      bif iret then
        { u with cc := s.cc.setImage f, df := f.getLsbD 10,
                 eflagsSys := (s.eflagsSys &&& ~~~mask) ||| (f &&& mask) }
      else u
    let sp := s.regs.esp + BitVec.ofNat 32 ((bif iret then 3 else 2) * w.bytes) + imm
    let rpl : BitVec 2 := c.extractLsb' 0 2
    (FarForm s jump call sel off s0 →
      s.afterReads s0
        ∧ (ec sel = 0#32 → both (takeException (.gp 0#32) s0))
        ∧ (ec sel ≠ 0#32 → descRead sel s0 = .ok none s1 → both (takeException (.gp (ec sel)) s1))
        ∧ (ec sel ≠ 0#32 → descRead sel s0 = .ok (some d) s1 → d.e2.getLsbD 12 = false →
          (ty = 5#4 → both (s1.setAborted .unsupportedTaskGate))
            ∧ (ty ∈ [1#4, 3#4, 9#4, 11#4] → both (s1.setAborted .unsupportedTaskSwitch))
            ∧ (ty ∈ [4#4, 12#4] → exec jump s = .next (s1.setAborted .unsupportedGateJump))
            ∧ (ty ∈ [0#4, 2#4, 6#4, 7#4, 8#4, 10#4, 13#4, 14#4, 15#4] → both (takeException (.gp (ec sel)) s1)))
        ∧ (ec sel ≠ 0#32 → descRead sel s0 = .ok (some d) s1 → d.e2.getLsbD 12 = true →
          (denied = true → both (takeException (.gp (ec sel)) s1))
            ∧ (denied = false → d.e2.getLsbD 15 = false → both (takeException (.np (ec sel)) s1))
            ∧ (denied = false → d.e2.getLsbD 15 = true → (descLimit d.e1 d.e2).ult off = true →
              both (takeException (.gp 0#32) s1))
            ∧ (denied = false → d.e2.getLsbD 15 = true → (descLimit d.e1 d.e2).ult off = false →
              markAccessed d s1 = .ok () s2 →
              exec jump s = .next { s2 with segs := s.segs.set .cs (seg target d), pc := off }
                ∧ (accesses (onStack w items) s2 s3 → exec call s = .next { s3 with
                    regs := s.espAt (s.below w 2), segs := s.segs.set .cs (seg target d), pc := off }
                  ∧ frames (onStack w items) s2 s3))))
      ∧ (∀ (y : W16) (u t : State),
        let stops (z : Exc) (v : State) : Prop := returnTarget y u = .error (.raise z) v
        (ec y = 0#32 → stops (.gp 0#32) u)
          ∧ (ec y ≠ 0#32 → descRead y u = .ok none t → stops (.gp (ec y)) t)
          ∧ (ec y ≠ 0#32 → descRead y u = .ok (some d) t →
            let lvl : BitVec 2 := y.extractLsb' 0 2
            let bad := !d.e2.getLsbD 12 || !d.e2.getLsbD 11 || lvl.ult u.cpl
              || (bif d.e2.getLsbD 10 then lvl.ult (dpl d) else dpl d != lvl)
            (bad = true → stops (.gp (ec y)) t)
              ∧ (bad = false → d.e2.getLsbD 15 = false → stops (.np (ec y)) t)
              ∧ (bad = false → d.e2.getLsbD 15 = true → returnTarget y u = .ok d t)))
      ∧ (∀ (y : W16) (lvl : BitVec 2) (u t : State),
        let stops (z : Exc) (v : State) : Prop := returnStack y lvl u = .error (.raise z) v
        (ec y = 0#32 → stops (.gp 0#32) u)
          ∧ (ec y ≠ 0#32 → descRead y u = .ok none t → stops (.gp (ec y)) t)
          ∧ (ec y ≠ 0#32 → descRead y u = .ok (some d) t →
            let bad := (y.extractLsb' 0 2 : BitVec 2) != lvl || !d.e2.getLsbD 12 || d.e2.getLsbD 11
              || !d.e2.getLsbD 9 || dpl d != lvl
            (bad = true → stops (.gp (ec y)) t)
              ∧ (bad = false → d.e2.getLsbD 15 = false → stops (.ss (ec y)) t)
              ∧ (bad = false → d.e2.getLsbD 15 = true → returnStack y lvl u = .ok d t)))
      ∧ ((i, iret, imm) ∈ [(.iret, true, 0#32), (.retf, false, 0#32), (.retfImm16 iw, false, iw.setWidth 32)] →
        (iret = true → s.eflagsSys.getLsbD 14 = false) →
        accesses (offStack w ([(s.above w 0, o), (s.above w 1, c)] ++ bif iret then [(s.above w 2, f)] else [])) s s1 →
        let vm86 := iret && w == .w32 && s.cpl == 0#2 && f.getLsbD 17
        s.afterReads s1
          ∧ (vm86 = true → exec i s = .next (s1.setAborted .unsupportedVm86))
          ∧ (vm86 = false → returnTarget (c.setWidth 16) s1 = .error (.raise x) s2 →
            exec i s = .next (takeException x s2))
          ∧ (vm86 = false → returnTarget (c.setWidth 16) s1 = .ok d s2 → rpl = s.cpl → markAccessed d s2 = .ok () s3 →
            exec i s = .next (flags { s3 with
              regs := s.espAt sp, segs := s.segs.set .cs (seg (c.setWidth 16) d), pc := o }))
          ∧ (vm86 = false → returnTarget (c.setWidth 16) s1 = .ok d s2 → rpl ≠ s.cpl → ∀ nesp nss : W32,
            readLoc w (.mem .ss (sp &&& s.stackMask)) s2 = .ok nesp s3 →
            readLoc w (.mem .ss ((sp + n) &&& s.stackMask)) s3 = .ok nss s4 →
            (returnStack (nss.setWidth 16) rpl s4 = .error (.raise x) s5 → exec i s = .next (takeException x s5))
              ∧ (returnStack (nss.setWidth 16) rpl s4 = .ok e s5 →
                (do markAccessed d; markAccessed e) s5 = .ok () s6 →
                let nm := bif e.e2.getLsbD 22 then 0xFFFFFFFF#32 else 0x0000FFFF#32
                exec i s = .next (flags { s6 with
                  regs := s.regs.set .esp ((s.regs.esp &&& ~~~nm) ||| ((nesp + imm) &&& nm)),
                  segs := { s.segs with
                    ss := seg (nss.setWidth 16) e, cs := seg (c.setWidth 16) d,
                    es := s.segs.es.outer rpl, ds := s.segs.ds.outer rpl,
                    fs := s.segs.fs.outer rpl, gs := s.segs.gs.outer rpl },
                  cpl := rpl, pc := o }))))
      ∧ (s.eflagsSys.getLsbD 14 = true → exec .iret s = .next (s.setAborted .unsupportedTaskSwitch))

/-- A far CALL, by an immediate or a memory pointer, through a call gate: the widths and the target come from the gate; a
gate of too low a level raises #GP, an absent one #NP, with its selector, what the target's checks raise is raised, and an
offset beyond the target's limit raises #GP(0); at the same level CS and the return offset are pushed; at an inner level
the old SS and ESP, the parameters read from the old stack, CS and the return offset go on the stack that the TSS names,
whose checks raise first, and CPL becomes the target's DPL (R576, R579, R580). It rests on the spec's own decision D24
(92_eei_decisions.md). -/
def Obligations.CallGateCompletes : Prop :=
  ∀ (s s0 s1 : State) (sel : W16) (off : W32) (g d : Desc) (jump call : Instr),
    s.pe = true → FarForm s jump call sel off s0 → sel &&& 0xFFFC#16 ≠ 0#16 → descRead sel s0 = .ok (some g) s1 →
    g.e2.getLsbD 12 = false →
    let ty : BitVec 4 := g.e2.extractLsb' 8 4
    let w : Width := bif ty == 12#4 then .w32 else .w16
    let tsel : W16 := g.e1.extractLsb' 16 16
    let toff : W32 := bif ty == 12#4 then g.e2.extractLsb' 16 16 ++ g.e1.extractLsb' 0 16 else g.e1 &&& 0xFFFF#32
    let ec : W32 := (sel &&& 0xFFFC#16).setWidth 32
    let dpl (d : Desc) : BitVec 2 := d.e2.extractLsb' 13 2
    let denied := (dpl g).ult s.cpl || (dpl g).ult (sel.extractLsb' 0 2)
    let seg (x : W16) (lvl : BitVec 2) (d : Desc) : SegReg :=
      { sel := (x &&& 0xFFFC#16) ||| lvl.setWidth 16, base := descBase d.e1 d.e2, limit := descLimit d.e1 d.e2,
        rights := d.e2 ||| 0x100#32 }
    let cs := s.segs.cs.sel.setWidth 32
    let items := [(s.below w 1, cs), (s.below w 2, s.nextpc)]
    let inner := !d.e2.getLsbD 10 && (dpl d).ult s.cpl
    (ty = 4#4 ∨ ty = 12#4) →
    (denied = true → exec call s = .next (takeException (.gp ec) s1))
      ∧ (denied = false → g.e2.getLsbD 15 = false → exec call s = .next (takeException (.np ec) s1))
      ∧ (denied = false → g.e2.getLsbD 15 = true →
        (∀ x t, gateTarget tsel s1 = .error (.raise x) t → exec call s = .next (takeException x t))
          ∧ ∀ s2, gateTarget tsel s1 = .ok d s2 →
            (inner = false → (descLimit d.e1 d.e2).ult toff = true → exec call s = .next (takeException (.gp 0#32) s2))
              ∧ (inner = false → (descLimit d.e1 d.e2).ult toff = false → ∀ s3 s4, markAccessed d s2 = .ok () s3 →
                accesses (onStack w items) s3 s4 →
                exec call s = .next { s4 with
                    regs := s.espAt (s.below w 2), segs := s.segs.set .cs (seg tsel s.cpl d), pc := toff }
                  ∧ frames (onStack w items) s3 s4)
              ∧ (inner = true → ∀ x t, innerStack (dpl d) s2 = .error (.raise x) t →
                exec call s = .next (takeException x t))
              ∧ (inner = true → ∀ (i : InnerSS) (s3 : State), innerStack (dpl d) s2 = .ok i s3 →
                let nb := descBase i.desc.e1 i.desc.e2
                let nm := bif i.desc.e2.getLsbD 22 then 0xFFFFFFFF#32 else 0x0000FFFF#32
                ((descLimit d.e1 d.e2).ult toff = true → exec call s = .next (takeException (.gp 0#32) s3))
                  ∧ ((descLimit d.e1 d.e2).ult toff = false → ∀ (p q r : W32) (s4 s5 s6 s7 : State),
                    (do markAccessed i.desc; markAccessed d) s3 = .ok () s4 →
                    framePushes true nb nm w.bytes (i.nesp &&& nm) [s.segs.ss.sel.setWidth 32, s.regs.esp] s4 p s5 →
                    gateParams w nb nm s (g.e2.extractLsb' 0 5).toNat p s5 q s6 →
                    framePushes true nb nm w.bytes q [cs, s.nextpc] s6 r s7 →
                    exec call s = .next { s7 with
                      cpl := dpl d,
                      regs := s.regs.set .esp ((s.regs.esp &&& ~~~nm) ||| (r &&& nm)),
                      segs := (s.segs.set .ss (seg i.nss (dpl d) i.desc)).set .cs (seg tsel (dpl d) d),
                      pc := toff })))

/-- The system registers: SGDT, SIDT, LGDT, LIDT, SLDT, STR, LLDT, LTR, SMSW, LMSW, MOV to and from the control
registers with the TLB flushes they make, MOV to a debug register, and INVLPG; the selectors and descriptors LLDT and LTR
do not accept raise #GP and #NP (R172, R601 to R604, R610 to R613, R617, R618, R620 to R623). It rests on the spec's own
decisions D13, D20, D38, D39 (92_eei_decisions.md). -/
def Obligations.SystemRegistersComplete : Prop :=
  ∀ (s s1 s2 s3 : State) (rm : Rm) (l : Loc) (seg : Sreg) (off lim b v : W32) (r : Reg) (n : BitVec 3) (d : Desc),
    s.locOf rm = some l →
    let sel : W16 := v.setWidth 16
    let ec : W32 := (sel &&& 0xFFFC#16).setWidth 32
    let high : Loc := .mem seg (truncW s.asz (off + 2#32))
    let put (t : State) : Host.Outcome State Fault Refusal := .next { t with pc := s.nextpc }
    let cr0 (u : State) (x : W32) : State :=
      bif ((x ||| 0x10#32) ^^^ s.cr0) &&& 0x80010001#32 == 0#32 then { u with cr0 := x ||| 0x10#32 }
      else { u.tlbFlushAll with cr0 := x ||| 0x10#32 }
    (l = .mem seg off →
        (∀ t i, (t, i) ∈ [(s.gdtr, .sgdtM rm), (s.idtr, .sidtM rm)] →
            writeLoc .w16 l t.limit s = .ok () s1 → writeLoc .w32 high t.base s1 = .ok () s2 →
            exec i s = put s2 ∧ l.stored .w16 t.limit s s1 ∧ high.stored .w32 t.base s1 s2)
          ∧ (s.cpl = 0#2 → readLoc .w16 l s = .ok lim s1 → readLoc .w32 high s1 = .ok b s2 →
            let t : TableReg := { base := bif s.osz == .w16 then b &&& 0x00FFFFFF#32 else b, limit := lim }
            s.afterReads s2 ∧ exec (.lgdtM rm) s = put { s2 with gdtr := t }
              ∧ exec (.lidtM rm) s = put { s2 with idtr := t })
          ∧ (s.cpl = 0#2 → exec (.invlpgM rm) s = put (s.tlbFlushPage (vpnOf ((s.segs.get seg).base + off))))
          ∧ ∀ i x, (i, x) ∈ [(.sldtRm16 rm, s.segs.ldtr.sel.setWidth 32), (.strRm16 rm, s.segs.tr.sel.setWidth 32),
                            (.smswRm16 rm, s.cr0)] →
              s.pe = true ∨ i = .smswRm16 rm → writeLoc .w16 l x s = .ok () s1 →
              exec i s = put s1 ∧ l.stored .w16 x s s1)
      ∧ (l = .reg r →
        (∀ i x, (i, x) ∈ [(.sldtRm16 rm, s.segs.ldtr.sel.setWidth 32), (.strRm16 rm, s.segs.tr.sel.setWidth 32),
                         (.smswRm16 rm, s.cr0)] →
            s.pe = true ∨ i = .smswRm16 rm → exec i s = put { s with regs := s.regs.write s.osz r x })
          ∧ (s.cpl = 0#2 →
            (∀ k x, (k, x) ∈ [(0#3, s.cr0), (2#3, s.cr2), (3#3, s.cr3), (4#3, s.cr4)] →
                exec (.movR32Cr rm k) s = put { s with regs := s.regs.set r x })
              ∧ exec (.movCrR32 0#3 rm) s = put (cr0 s (s.regs.get r))
              ∧ exec (.movCrR32 2#3 rm) s = put { s with cr2 := s.regs.get r }
              ∧ exec (.movCrR32 3#3 rm) s = put (State.tlbFlushAll { s with cr3 := s.regs.get r })
              ∧ exec (.movCrR32 4#3 rm) s = put { s with cr4 := s.regs.get r }
              ∧ exec (.movDrR32 n rm) s = put s))
      ∧ (readLoc .w16 l s = .ok v s1 → s.cpl = 0#2 →
        s.afterReads s1
          ∧ exec (.lmswRm16 rm) s
              = put (cr0 s1 ((s.cr0 &&& 0xFFFFFFF0#32) ||| (v &&& 0xE#32) ||| ((s.cr0 ||| v) &&& 1#32)))
          ∧ (s.pe = true → sel &&& 0xFFFC#16 = 0#16 →
              exec (.lldtRm16 rm) s
                = put { s1 with segs := s.segs.set .ldtr { sel := sel, base := 0#32, limit := 0#32, rights := 0#32 } })
          ∧ (s.pe = true → sel &&& 0xFFFC#16 = 0#16 → exec (.ltrRm16 rm) s = .next (takeException (.gp 0#32) s1))
          ∧ (s.pe = true → sel &&& 0xFFFC#16 ≠ 0#16 → ∀ i valid,
              (i, valid) ∈ [(.lldtRm16 rm, [2#4]), (.ltrRm16 rm, [1#4, 9#4])] →
              (sel.getLsbD 2 = true → exec i s = .next (takeException (.gp ec) s1))
                ∧ (sel.getLsbD 2 = false → descRead sel s1 = .ok none s2 → exec i s = .next (takeException (.gp ec) s2))
                ∧ (sel.getLsbD 2 = false → descRead sel s1 = .ok (some d) s2 →
                  let bad := d.e2.getLsbD 12 || !valid.contains (d.e2.extractLsb' 8 4 : BitVec 4)
                  (bad = true → exec i s = .next (takeException (.gp ec) s2))
                    ∧ (bad = false → d.e2.getLsbD 15 = false → exec i s = .next (takeException (.np ec) s2))))
          ∧ (s.pe = true → sel &&& 0xFFFC#16 ≠ 0#16 → sel.getLsbD 2 = false → descRead sel s1 = .ok (some d) s2 →
              d.e2.getLsbD 12 = false → d.e2.getLsbD 15 = true →
              let ty : BitVec 4 := d.e2.extractLsb' 8 4
              (ty = 2#4 → exec (.lldtRm16 rm) s = put { s2 with
                  segs := s.segs.set .ldtr { sel := sel, base := descBase d.e1 d.e2, limit := descLimit d.e1 d.e2,
                                             rights := d.e2 } })
                ∧ (ty = 1#4 ∨ ty = 9#4 → sysWrite (d.addr + 4#32) 4 (d.e2 ||| 0x200#32) s2 = .ok () s3 →
                  exec (.ltrRm16 rm) s = put { s3 with
                    segs := s.segs.set .tr { sel := sel, base := descBase d.e1 d.e2, limit := descLimit d.e1 d.e2,
                                             rights := d.e2 ||| 0x200#32 } })))

/-- VERR, VERW, LAR, LSL and ARPL in protected mode: ZF says whether the selector names a segment that may be read,
written or described at this level, and LAR and LSL then write its rights or its limit; a null selector and one outside
its table clear ZF; ARPL raises the RPL of its operand. In real-address mode these, and SLDT, STR, LLDT and LTR, raise
#UD in every form (R600, R610 to R616, R625, R626). It rests on the spec's own decision D47 (92_eei_decisions.md). How a
write after a read of the same place translates is log entry 18. -/
def Obligations.DescriptorQueriesComplete : Prop :=
  ∀ (s s1 s2 : State) (rm : Rm) (l : Loc) (r : Reg) (v : W32),
    let w := s.osz
    let sel : W16 := v.setWidth 16
    let rpl : BitVec 2 := v.extractLsb' 0 2
    let withZf (b : Bool) (u : State) : State :=
      { u with cc := s.cc.setImage ((s.cc.image &&& 0x895#32) ||| atBit b 6), pc := s.nextpc }
    let all : List Instr := [.verrRm16 rm, .verwRm16 rm, .larRvRm16 r rm, .lslRvRm16 r rm]
    (s.pe = false → ∀ i, i ∈ [.arplRm16R16 rm r, .sldtRm16 rm, .strRm16 rm, .lldtRm16 rm, .ltrRm16 rm] ++ all →
        exec i s = .next (takeException .ud s))
      ∧ (s.pe = true → s.locOf rm = some l → readLoc .w16 l s = .ok v s1 →
        s.afterReads s1
          ∧ (sel &&& 0xFFFC#16 = 0#16 → ∀ i, i ∈ all → exec i s = .next (withZf false s1))
          ∧ (sel &&& 0xFFFC#16 ≠ 0#16 → descRead sel s1 = .ok none s2 →
              ∀ i, i ∈ all → exec i s = .next (withZf false s2))
          ∧ ∀ d, sel &&& 0xFFFC#16 ≠ 0#16 → descRead sel s1 = .ok (some d) s2 →
            let dpl : BitVec 2 := d.e2.extractLsb' 13 2
            let seen := !dpl.ult s.cpl && !dpl.ult rpl
            let segment := d.e2.getLsbD 12
            let code := d.e2.getLsbD 11
            let mid := d.e2.getLsbD 10
            let low := d.e2.getLsbD 9
            let ty := (d.e2.extractLsb' 8 4).toNat
            let verr := segment && (bif code then low && (mid || seen) else seen)
            let verw := segment && !code && low && seen
            let lar := (segment && code && mid) || (seen && (segment || [1, 2, 3, 4, 5, 9, 11, 12].contains ty))
            let lsl := (segment && code && mid) || (seen && (segment || [1, 2, 3, 9, 11].contains ty))
            let rights := d.e2 &&& (bif w == .w32 then 0x00F0FF00#32 else 0xFF00#32)
            s.afterReads s2
              ∧ exec (.verrRm16 rm) s = .next (withZf verr s2)
              ∧ exec (.verwRm16 rm) s = .next (withZf verw s2)
              ∧ exec (.larRvRm16 r rm) s
                  = .next (withZf lar { s2 with regs := bif lar then s.regs.write w r rights else s.regs })
              ∧ exec (.lslRvRm16 r rm) s
                  = .next (withZf lsl { s2 with
                      regs := bif lsl then s.regs.write w r (descLimit d.e1 d.e2) else s.regs }))
      ∧ (s.pe = true → s.locOf rm = some l → ∀ h, readLocW .w16 l s = .ok h s1 → h.val = v →
        let g := s.regs.read .w16 r
        let x := (v &&& 0xFFFC#32) ||| (g &&& 3#32)
        s.afterReads s1
          ∧ (rpl.ult (g.extractLsb' 0 2) = true → writeBack .w16 l h x s1 = .ok () s2 →
            exec (.arplRm16R16 rm r) s = .next (withZf true s2) ∧ l.storedBack .w16 x h s1 s2)
          ∧ (rpl.ult (g.extractLsb' 0 2) = false →
            exec (.arplRm16R16 rm r) s = .next (withZf false s1)))

/-- Each prefix sets its part of the decode state and nothing else; the operand and the address size that follow are the
code segment's default, toggled by their prefix, and they with CR0.PE are what decoding depends on. Each encoding the core
does not admit raises #UD and does nothing else, whatever the level: the opcodes and group cells not admitted, a register
where memory is required or memory where a register is, a segment or control register number that names none, and every
form whose reading ended at its ModRM byte for such a reason (R72, R222 to R227, R241, R262, R561, R562, R620 to R622). It
rests on the spec's own decisions D15, D20, D28, D38, D47 (92_eei_decisions.md). That a prefix is an item of its own is the
model's choice (log entry 11), and where the reading of an encoding that raises #UD ends is log entry 13. -/
def Obligations.PrefixesAndUnadmittedOpcodes : Prop :=
  ∀ (s : State) (i : Instr) (rm : Rm) (r : Reg) (n : BitVec 3),
    let set (d : DecodeState) : Host.Outcome State Fault Refusal := .next { s with dec := d }
    let wide := s.segs.cs.rights.getLsbD 22
    exec .pfxEs s = set { s.dec with segOvr := some .es } ∧ exec .pfxCs s = set { s.dec with segOvr := some .cs }
      ∧ exec .pfxSs s = set { s.dec with segOvr := some .ss } ∧ exec .pfxDs s = set { s.dec with segOvr := some .ds }
      ∧ exec .pfxFs s = set { s.dec with segOvr := some .fs } ∧ exec .pfxGs s = set { s.dec with segOvr := some .gs }
      ∧ exec .pfxOpsize s = set { s.dec with opsizeOvr := true }
      ∧ exec .pfxAddrsize s = set { s.dec with addrsizeOvr := true }
      ∧ exec .pfxRepne s = set { s.dec with rep := some .repne } ∧ exec .pfxRep s = set { s.dec with rep := some .repe }
      ∧ exec .pfxLock s = set { s.dec with lock := true }
      ∧ s.osz = (bif wide != s.dec.opsizeOvr then .w32 else .w16)
      ∧ s.asz = (bif wide != s.dec.addrsizeOvr then .w32 else .w16)
      ∧ s.mode = { osz32 := wide != s.dec.opsizeOvr, asz32 := wide != s.dec.addrsizeOvr, pe := s.cr0.getLsbD 0 }
      ∧ (i ∈ notAdmitted → exec i s = .next (takeException .ud s))
      ∧ ((∃ q, rm = .reg q) ∨ (∃ a b, rm = .cut a b) →
        i ∈ [.leaRvM r rm, .boundRvM r rm, .lesRvM r rm, .ldsRvM r rm, .lssRvM r rm, .lfsRvM r rm, .lgsRvM r rm,
             .jmpM rm, .callM rm, .sgdtM rm, .sidtM rm, .lgdtM rm, .lidtM rm, .invlpgM rm] →
        exec i s = .next (takeException .ud s))
      ∧ ((∀ q, rm ≠ .reg q) ∨ n ∈ [1#3, 5#3, 6#3, 7#3] → i ∈ [.movR32Cr rm n, .movCrR32 n rm] →
        exec i s = .next (takeException .ud s))
      ∧ ((∀ q, rm ≠ .reg q) → exec (.movDrR32 n rm) s = .next (takeException .ud s))
      ∧ ((∃ a b, rm = .cut a b) → i ∈ [.movRm16Sreg rm n, .movSregRm16 n rm] →
        exec i s = .next (takeException .ud s))
end

