-- ==== Sys2Proof/Laws/Memory.lean ====
section
/-! SUPPORT. The laws of the tables: reading after writing, the canonical form, and physical memory's own. -/

namespace Sys2Proof.Machine

variable {β : Type}

/-! ### Tables -/

/-- The three cases of listing a value. -/
theorem assocSet_cons (a : Nat) (u : β) (t : List (Nat × β)) (k : Nat) (v : β) :
    assocSet ((a, u) :: t) k v
      = if k < a then (k, v) :: (a, u) :: t else if a = k then (k, v) :: t else (a, u) :: assocSet t k v := by
  rw [assocSet]
  by_cases h1 : k < a
  · rw [show Nat.blt k a = true from by simpa using h1]; simp [h1]
  · rw [show Nat.blt k a = false from by rw [Bool.eq_false_iff]; simpa using h1]
    by_cases h2 : a = k
    · simp [h2]
    · simp [h1, h2, show (a == k) = false from by simp [h2]]

/-- The two cases of unlisting a key. -/
theorem assocErase_cons (a : Nat) (u : β) (t : List (Nat × β)) (k : Nat) :
    assocErase ((a, u) :: t) k = if a = k then assocErase t k else (a, u) :: assocErase t k := by
  by_cases h : a = k
  · simp [assocErase, h]
  · simp [assocErase, h, show (a == k) = false from by simp [h]]

/-- The two cases of finding a key. -/
theorem assocFind_cons (a : Nat) (u : β) (t : List (Nat × β)) (k : Nat) :
    assocFind ((a, u) :: t) k = if a = k then some u else assocFind t k := by
  by_cases h : a = k
  · simp [assocFind, h]
  · simp [assocFind, h, show (a == k) = false from by simp [h]]

theorem assocFind_set_self (t : List (Nat × β)) (k : Nat) (v : β) : assocFind (assocSet t k v) k = some v := by
  induction t with
  | nil => simp [assocSet, assocFind]
  | cons e t ih =>
    obtain ⟨a, u⟩ := e
    rw [assocSet_cons]
    split
    · simp [assocFind_cons]
    · split
      · simp [assocFind_cons]
      · rename_i h; simp [assocFind_cons, h, ih]

theorem assocFind_set_other (t : List (Nat × β)) {k q : Nat} (v : β) (h : q ≠ k) :
    assocFind (assocSet t k v) q = assocFind t q := by
  induction t with
  | nil => simp [assocSet, assocFind_cons, Ne.symm h]
  | cons e t ih =>
    obtain ⟨a, u⟩ := e
    rw [assocSet_cons]
    split
    · simp [assocFind_cons, Ne.symm h]
    · split
      · rename_i h2; subst h2; simp [assocFind_cons, Ne.symm h]
      · simp [assocFind_cons, ih]

theorem assocFind_erase_self (t : List (Nat × β)) (k : Nat) : assocFind (assocErase t k) k = none := by
  induction t with
  | nil => rfl
  | cons e t ih =>
    obtain ⟨a, u⟩ := e
    rw [assocErase_cons]
    split
    · exact ih
    · rename_i h; simp [assocFind_cons, h, ih]

theorem assocFind_erase_other (t : List (Nat × β)) {k q : Nat} (h : q ≠ k) :
    assocFind (assocErase t k) q = assocFind t q := by
  induction t with
  | nil => rfl
  | cons e t ih =>
    obtain ⟨a, u⟩ := e
    rw [assocErase_cons]
    split
    · rename_i h2; subst h2; simp [assocFind_cons, Ne.symm h, ih]
    · simp [assocFind_cons, ih]

theorem keysAbove_weaken {t : List (Nat × β)} {a b : Nat} (hab : b ≤ a) (h : keysAbove a t = true) :
    keysAbove b t = true := by
  induction t with
  | nil => rfl
  | cons e t ih =>
    simp only [keysAbove, Bool.and_eq_true, Nat.blt_eq] at h ⊢
    exact ⟨by omega, ih h.2⟩

theorem keysAbove_set {t : List (Nat × β)} {b k : Nat} (v : β) (hk : b < k) (h : keysAbove b t = true) :
    keysAbove b (assocSet t k v) = true := by
  induction t with
  | nil => simp [assocSet, keysAbove, hk]
  | cons e t ih =>
    simp only [keysAbove, Bool.and_eq_true, Nat.blt_eq] at h
    rw [assocSet_cons]
    split
    · simp [keysAbove, hk, h.1, h.2]
    · split
      · simp [keysAbove, hk, h.2]
      · simp [keysAbove, h.1, ih h.2]

theorem keysRise_set {t : List (Nat × β)} (k : Nat) (v : β) (h : keysRise t = true) :
    keysRise (assocSet t k v) = true := by
  induction t with
  | nil => rfl
  | cons e t ih =>
    simp only [keysRise, Bool.and_eq_true] at h
    rw [assocSet_cons]
    split
    · rename_i h1; simp [keysRise, keysAbove, h1, h.1, h.2, keysAbove_weaken (Nat.le_of_lt h1) h.1]
    · split
      · rename_i h2; rw [← h2]; simp [keysRise, h.1, h.2]
      · rename_i h1 h2
        simp [keysRise, keysAbove_set v (show e.1 < k by omega) h.1, ih h.2]

theorem keysAbove_erase {t : List (Nat × β)} {b : Nat} (k : Nat) (h : keysAbove b t = true) :
    keysAbove b (assocErase t k) = true := by
  induction t with
  | nil => rfl
  | cons e t ih =>
    simp only [keysAbove, Bool.and_eq_true] at h
    rw [assocErase_cons]
    split
    · exact ih h.2
    · simp [keysAbove, h.1, ih h.2]

theorem keysRise_erase {t : List (Nat × β)} (k : Nat) (h : keysRise t = true) :
    keysRise (assocErase t k) = true := by
  induction t with
  | nil => rfl
  | cons e t ih =>
    simp only [keysRise, Bool.and_eq_true] at h
    rw [assocErase_cons]
    split
    · exact ih h.2
    · simp [keysRise, keysAbove_erase k h.1, ih h.2]

theorem mem_assocSet {t : List (Nat × β)} {k : Nat} {v : β} {e : Nat × β} (h : e ∈ assocSet t k v) :
    e = (k, v) ∨ e ∈ t := by
  induction t with
  | nil => simpa [assocSet] using h
  | cons c t ih =>
    rw [assocSet_cons] at h
    split at h
    · simpa using h
    · split at h
      · exact (List.mem_cons.mp h).imp id fun h => List.mem_cons_of_mem _ h
      · rcases List.mem_cons.mp h with h | h
        · exact .inr (by simp [h])
        · exact (ih h).imp id fun h => List.mem_cons_of_mem _ h

theorem mem_assocErase {t : List (Nat × β)} {k : Nat} {e : Nat × β} (h : e ∈ assocErase t k) : e ∈ t ∧ e.1 ≠ k := by
  induction t with
  | nil => cases h
  | cons c t ih =>
    rw [assocErase_cons] at h
    split at h
    · exact ⟨List.mem_cons_of_mem _ (ih h).1, (ih h).2⟩
    · rename_i h2
      rcases List.mem_cons.mp h with h | h
      · subst h; exact ⟨by simp, h2⟩
      · exact ⟨List.mem_cons_of_mem _ (ih h).1, (ih h).2⟩

theorem assocFind_eq_none_of_above {t : List (Nat × β)} {k : Nat} (h : keysAbove k t = true) :
    assocFind t k = none := by
  induction t with
  | nil => rfl
  | cons e t ih =>
    simp only [keysAbove, Bool.and_eq_true, Nat.blt_eq] at h
    rw [assocFind_cons, if_neg (by omega), ih h.2]

/-- Tables in canonical form that answer alike are equal. -/
theorem assoc_ext {t u : List (Nat × β)} (ht : keysRise t = true) (hu : keysRise u = true)
    (h : ∀ k, assocFind t k = assocFind u k) : t = u := by
  induction t generalizing u with
  | nil =>
    cases u with
    | nil => rfl
    | cons e u => simpa [assocFind_cons, assocFind] using h e.1
  | cons e t ih =>
    cases u with
    | nil => simpa [assocFind_cons, assocFind] using h e.1
    | cons c u =>
      simp only [keysRise, Bool.and_eq_true] at ht hu
      have above : ∀ {b k : Nat} {l : List (Nat × β)}, k ≤ b → keysAbove b l = true → assocFind l k = none :=
        fun hkb hl => assocFind_eq_none_of_above (keysAbove_weaken hkb hl)
      have hkey : e.1 = c.1 := by
        rcases Nat.lt_trichotomy e.1 c.1 with hlt | heq | hgt
        · have h1 := h e.1
          rw [assocFind_cons, assocFind_cons, if_pos rfl, if_neg (by omega), above (by omega) hu.1] at h1
          cases h1
        · exact heq
        · have h1 := h c.1
          rw [assocFind_cons, assocFind_cons, if_neg (by omega), if_pos rfl, above (by omega) ht.1] at h1
          cases h1
      have hval : e.2 = c.2 := by
        have h1 := h c.1
        rw [assocFind_cons, assocFind_cons, if_pos hkey, if_pos rfl] at h1
        exact Option.some.inj h1
      have hrest : t = u := ih ht.2 hu.2 fun k => by
        have hk := h k
        rw [assocFind_cons, assocFind_cons, hkey] at hk
        split at hk
        · rename_i hck
          rw [above (by omega) ht.1, above (by omega) hu.1]
        · exact hk
      rw [hrest, show e = c from Prod.ext hkey hval]

/-! ### Physical memory -/

/-- A byte reads as it was written. -/
@[simp] theorem memRead_write_self (m : List Host.Cell) (a : Nat) (b : Byte) : memRead (memWrite m a b) a = b := by
  unfold memRead memWrite
  by_cases h : b = unlistedByte
  · rw [h, beq_self_eq_true, cond_true, assocFind_erase_self]; rfl
  · rw [show (b == unlistedByte) = false from by simp [h], cond_false, assocFind_set_self]; rfl

/-- A byte is unchanged by a write of another. -/
theorem memRead_write_other (m : List Host.Cell) {a q : Nat} (b : Byte) (h : q ≠ a) :
    memRead (memWrite m a b) q = memRead m q := by
  unfold memRead memWrite
  by_cases hb : b = unlistedByte
  · rw [hb, beq_self_eq_true, cond_true, assocFind_erase_other m h]
  · rw [show (b == unlistedByte) = false from by simp [hb], cond_false, assocFind_set_other m b h]

/-- A write keeps the canonical form. -/
theorem memWrite_wf {m : List Host.Cell} (a : Nat) (b : Byte) (h : Memory.wf m = true) :
    Memory.wf (memWrite m a b) = true := by
  simp only [Memory.wf, Bool.and_eq_true, List.all_eq_true, bne_iff_ne, ne_eq] at h ⊢
  unfold memWrite
  by_cases hb : b = unlistedByte
  · simp only [hb, beq_self_eq_true, cond_true]
    exact ⟨keysRise_erase a h.1, fun c hc => h.2 c (mem_assocErase hc).1⟩
  · simp only [show (b == unlistedByte) = false from by simp [hb], cond_false]
    refine ⟨keysRise_set a b h.1, fun c hc => ?_⟩
    rcases mem_assocSet hc with rfl | hc
    · exact hb
    · exact h.2 c hc

/-- A write below a bound keeps every listed byte below it. -/
theorem memWrite_below {n : Nat} {m : List Host.Cell} {a : Nat} (b : Byte) (ha : a < n) (h : memBelow n m = true) :
    memBelow n (memWrite m a b) = true := by
  simp only [memBelow, List.all_eq_true, Nat.blt_eq] at h ⊢
  intro c hc
  unfold memWrite at hc
  by_cases hb : b = unlistedByte
  · simp only [hb, beq_self_eq_true, cond_true] at hc
    exact h c (mem_assocErase hc).1
  · simp only [show (b == unlistedByte) = false from by simp [hb], cond_false] at hc
    rcases mem_assocSet hc with rfl | hc
    · exact ha
    · exact h c hc

/-- Memories in canonical form that read alike are equal data. -/
theorem mem_ext {m n : List Host.Cell} (hm : Memory.wf m = true) (hn : Memory.wf n = true)
    (h : ∀ a, memRead m a = memRead n a) : m = n := by
  simp only [Memory.wf, Bool.and_eq_true, List.all_eq_true, bne_iff_ne, ne_eq] at hm hn
  have listed : ∀ (l : List Host.Cell) (k : Nat) (v : Byte), assocFind l k = some v → ∃ c ∈ l, c.2 = v := by
    intro l k v hl
    induction l with
    | nil => simp [assocFind] at hl
    | cons e t ih =>
      rw [assocFind_cons] at hl
      split at hl
      · exact ⟨e, by simp, by simpa using hl⟩
      · obtain ⟨c, hc, hv⟩ := ih hl
        exact ⟨c, List.mem_cons_of_mem _ hc, hv⟩
  refine assoc_ext hm.1 hn.1 fun k => ?_
  have hk := h k
  unfold memRead at hk
  cases h1 : assocFind m k with
  | none =>
    cases h2 : assocFind n k with
    | none => rfl
    | some v =>
      obtain ⟨c, hc, hv⟩ := listed n k v h2
      rw [h1, h2] at hk
      exact absurd (hv.trans hk.symm) (hn.2 c hc)
  | some u =>
    obtain ⟨c, hc, hv⟩ := listed m k u h1
    cases h2 : assocFind n k with
    | none => rw [h1, h2] at hk; exact absurd (hv.trans hk) (hm.2 c hc)
    | some v => rw [h1, h2] at hk; exact congrArg some hk

/-- Reset's memory is in canonical form. -/
theorem reset_mem_wf : Memory.wf State.reset.mem = true := by decide

end Sys2Proof.Machine
end

