-- ==== Sys2Proof/Laws/Rules.lean ====
section
/-! SUPPORT. How a rule in progress runs: what each step of the notation answers, how two steps chain, and what the end
of an instruction makes of it. -/

namespace Sys2Proof.Machine

variable {α β : Type}

/-! ### Running a rule forward -/

@[simp] theorem run_pure (a : α) (s : State) : (pure a : M α) s = .ok a s := rfl
@[simp] theorem run_get (s : State) : (get : M State) s = .ok s s := rfl
@[simp] theorem run_upd (f : State → State) (s : State) : upd f s = .ok () (f s) := rfl
@[simp] theorem run_raise (e : Exc) (s : State) : (raise e : M α) s = .error (.raise e) s := rfl
@[simp] theorem run_abort (r : AbortReason) (s : State) : (abort r : M α) s = .error (.abort r) s := rfl
@[simp] theorem run_raiseIf_false (e : Exc) (s : State) : raiseIf false e s = .ok () s := rfl
@[simp] theorem run_raiseIf_true (e : Exc) (s : State) : raiseIf true e s = .error (.raise e) s := rfl

/-- A step that completes hands its answer and its state to the next. -/
theorem run_bind_ok {m : M α} {f : α → M β} {s t : State} {a : α} (h : m s = .ok a t) : (m >>= f) s = f a t := by
  show EStateM.bind m f s = f a t
  simp only [EStateM.bind, h]

/-- A step that stops stops the rule. -/
theorem run_bind_error {m : M α} {f : α → M β} {s t : State} {e : Stop} (h : m s = .error e t) :
    (m >>= f) s = .error e t := by
  show EStateM.bind m f s = .error e t
  simp only [EStateM.bind, h]

@[simp] theorem run_bind_get (f : State → M β) (s : State) : ((get : M State) >>= f) s = f s s := rfl
@[simp] theorem run_bind_pure (a : α) (f : α → M β) (s : State) : ((pure a : M α) >>= f) s = f a s := rfl
@[simp] theorem run_bind_upd (g : State → State) (f : Unit → M β) (s : State) : (upd g >>= f) s = f () (g s) := rfl
@[simp] theorem run_bind_raise (e : Exc) (f : α → M β) (s : State) :
    ((raise e : M α) >>= f) s = .error (.raise e) s := rfl
@[simp] theorem run_bind_raiseIf_false (e : Exc) (f : Unit → M β) (s : State) : (raiseIf false e >>= f) s = f () s := rfl
@[simp] theorem run_bind_raiseIf_true (e : Exc) (f : Unit → M β) (s : State) :
    (raiseIf true e >>= f) s = .error (.raise e) s := rfl
@[simp] theorem run_bind_assoc {γ : Type} (m : M α) (f : α → M β) (g : β → M γ) (s : State) :
    ((m >>= f) >>= g) s = (m >>= fun a => f a >>= g) s := by
  show EStateM.bind (EStateM.bind m f) g s = EStateM.bind m (fun a => EStateM.bind (f a) g) s
  simp only [EStateM.bind]
  cases m s <;> rfl
@[simp] theorem run_cond (c : Bool) (x y : M α) (s : State) : (bif c then x else y) s = bif c then x s else y s := by
  cases c <;> rfl

/-! ### Reading a completed rule backward -/

/-- A chain completes exactly when both of its parts do. -/
theorem bind_ok_iff {m : M α} {f : α → M β} {s t : State} {b : β} :
    (m >>= f) s = .ok b t ↔ ∃ a u, m s = .ok a u ∧ f a u = .ok b t := by
  cases h : m s with
  | ok a u => rw [run_bind_ok h]; simp
  | error e u => rw [run_bind_error h]; simp

/-- A chain stops where its first part stops, or where its second part does. -/
theorem bind_error_iff {m : M α} {f : α → M β} {s t : State} {e : Stop} :
    (m >>= f) s = .error e t ↔ m s = .error e t ∨ ∃ a u, m s = .ok a u ∧ f a u = .error e t := by
  cases h : m s with
  | ok a u => rw [run_bind_ok h]; simp
  | error e u => rw [run_bind_error h]; simp

theorem pure_ok_iff {a b : α} {s t : State} : (pure a : M α) s = .ok b t ↔ a = b ∧ s = t := by simp
theorem upd_ok_iff {f : State → State} {s t : State} {u : Unit} : upd f s = .ok u t ↔ f s = t := by simp
theorem raise_ok_iff {e : Exc} {s t : State} {a : α} : (raise e : M α) s = .ok a t ↔ False := by simp
theorem abort_ok_iff {r : AbortReason} {s t : State} {a : α} : (abort r : M α) s = .ok a t ↔ False := by simp

/-- A check that is passed found nothing and changed nothing. -/
theorem raiseIf_ok_iff {c : Bool} {e : Exc} {s t : State} {u : Unit} :
    raiseIf c e s = .ok u t ↔ c = false ∧ s = t := by cases c <;> simp

/-- A check that stops raises its exception and changed nothing. -/
theorem raiseIf_error_iff {c : Bool} {e : Exc} {x : Stop} {s t : State} :
    raiseIf c e s = .error x t ↔ c = true ∧ x = .raise e ∧ s = t := by
  cases c <;> simp [eq_comm]

theorem cond_ok_iff {c : Bool} {x y : M α} {s t : State} {a : α} :
    (bif c then x else y) s = .ok a t ↔ c = true ∧ x s = .ok a t ∨ c = false ∧ y s = .ok a t := by
  cases c <;> simp

/-! ### The write after a probe -/

/-- All that the second translation of a probed place can do: what the translation answers, or the probe's addresses with
nothing changed where it raises, or an abort. -/
theorem translateProbed_cases (la : W32) (n : Nat) (as : List W32) (s : State) :
    (∃ bs t, translateSpan la n .write s.user s = .ok bs t ∧ translateProbed la n as s = .ok bs t)
      ∨ (∃ e t, translateSpan la n .write s.user s = .error (.raise e) t ∧ translateProbed la n as s = .ok as s)
      ∨ ∃ r t, translateSpan la n .write s.user s = .error (.abort r) t
          ∧ translateProbed la n as s = .error (.abort r) t := by
  unfold translateProbed
  rcases translateSpan la n .write s.user s with ⟨bs, t⟩ | ⟨e | r, t⟩
  · exact .inl ⟨_, _, rfl, rfl⟩
  · exact .inr (.inl ⟨_, _, rfl, rfl⟩)
  · exact .inr (.inr ⟨_, _, rfl, rfl⟩)

/-! ### The end of an instruction -/

/-- An instruction whose rule completes answers the rule's state. -/
theorem complete_ok {m : M Unit} {s t : State} {u : Unit} (h : m s = .ok u t) : complete m s = .next t := by
  simp only [complete, h]

/-- An instruction whose rule raises takes the exception from the state the raise left. -/
theorem complete_raise {m : M Unit} {s t : State} {e : Exc} (h : m s = .error (.raise e) t) :
    complete m s = .next (takeException e t) := by simp only [complete, h]

/-- An instruction whose rule aborts records the reason. -/
theorem complete_abort {m : M Unit} {s t : State} {r : AbortReason} (h : m s = .error (.abort r) t) :
    complete m s = .next (t.setAborted r) := by simp only [complete, h]

/-- Every instruction of the form answers a next state. -/
theorem complete_next (m : M Unit) (s : State) : ∃ t, complete m s = .next t := by
  unfold complete
  split <;> exact ⟨_, rfl⟩

end Sys2Proof.Machine
end

