-- ==== Sys2Proof/Laws/State.lean ====
section
/-! SUPPORT. One lemma per field per update of the state, and what a register or a segment register reads after a
write. -/

namespace Sys2Proof.Machine

@[simp] theorem State.setRegs_regs (s : State) (g : Regs) : (s.setRegs g).regs = g := rfl
@[simp] theorem State.setRegs_pc (s : State) (g : Regs) : (s.setRegs g).pc = s.pc := rfl
@[simp] theorem State.setRegs_cc (s : State) (g : Regs) : (s.setRegs g).cc = s.cc := rfl
@[simp] theorem State.setRegs_df (s : State) (g : Regs) : (s.setRegs g).df = s.df := rfl
@[simp] theorem State.setRegs_eflagsSys (s : State) (g : Regs) : (s.setRegs g).eflagsSys = s.eflagsSys := rfl
@[simp] theorem State.setRegs_cr0 (s : State) (g : Regs) : (s.setRegs g).cr0 = s.cr0 := rfl
@[simp] theorem State.setRegs_cr2 (s : State) (g : Regs) : (s.setRegs g).cr2 = s.cr2 := rfl
@[simp] theorem State.setRegs_cr3 (s : State) (g : Regs) : (s.setRegs g).cr3 = s.cr3 := rfl
@[simp] theorem State.setRegs_cr4 (s : State) (g : Regs) : (s.setRegs g).cr4 = s.cr4 := rfl
@[simp] theorem State.setRegs_cpl (s : State) (g : Regs) : (s.setRegs g).cpl = s.cpl := rfl
@[simp] theorem State.setRegs_segs (s : State) (g : Regs) : (s.setRegs g).segs = s.segs := rfl
@[simp] theorem State.setRegs_gdtr (s : State) (g : Regs) : (s.setRegs g).gdtr = s.gdtr := rfl
@[simp] theorem State.setRegs_idtr (s : State) (g : Regs) : (s.setRegs g).idtr = s.idtr := rfl
@[simp] theorem State.setRegs_tlb (s : State) (g : Regs) : (s.setRegs g).tlb = s.tlb := rfl
@[simp] theorem State.setRegs_tlbList (s : State) (g : Regs) : (s.setRegs g).tlbList = s.tlbList := rfl
@[simp] theorem State.setRegs_halted (s : State) (g : Regs) : (s.setRegs g).halted = s.halted := rfl
@[simp] theorem State.setRegs_pendingVector (s : State) (g : Regs) : (s.setRegs g).pendingVector = s.pendingVector := rfl
@[simp] theorem State.setRegs_cycleCount (s : State) (g : Regs) : (s.setRegs g).cycleCount = s.cycleCount := rfl
@[simp] theorem State.setRegs_aborted (s : State) (g : Regs) : (s.setRegs g).aborted = s.aborted := rfl
@[simp] theorem State.setRegs_mem (s : State) (g : Regs) : (s.setRegs g).mem = s.mem := rfl
@[simp] theorem State.setRegs_dec (s : State) (g : Regs) : (s.setRegs g).dec = s.dec := rfl
@[simp] theorem State.setRegs_memSize (s : State) (g : Regs) : (s.setRegs g).memSize = s.memSize := rfl
@[simp] theorem State.setRegs_irqLine (s : State) (g : Regs) : (s.setRegs g).irqLine = s.irqLine := rfl
@[simp] theorem State.setRegs_ports (s : State) (g : Regs) : (s.setRegs g).ports = s.ports := rfl
@[simp] theorem State.setRegs_history (s : State) (g : Regs) : (s.setRegs g).history = s.history := rfl
@[simp] theorem State.setRegs_stepFaulted (s : State) (g : Regs) : (s.setRegs g).stepFaulted = s.stepFaulted := rfl

@[simp] theorem State.setReg_regs (s : State) (w : Width) (r : Reg) (v : W32) : (s.setReg w r v).regs = s.regs.write w r v := rfl
@[simp] theorem State.setReg_pc (s : State) (w : Width) (r : Reg) (v : W32) : (s.setReg w r v).pc = s.pc := rfl
@[simp] theorem State.setReg_cc (s : State) (w : Width) (r : Reg) (v : W32) : (s.setReg w r v).cc = s.cc := rfl
@[simp] theorem State.setReg_df (s : State) (w : Width) (r : Reg) (v : W32) : (s.setReg w r v).df = s.df := rfl
@[simp] theorem State.setReg_eflagsSys (s : State) (w : Width) (r : Reg) (v : W32) : (s.setReg w r v).eflagsSys = s.eflagsSys := rfl
@[simp] theorem State.setReg_cr0 (s : State) (w : Width) (r : Reg) (v : W32) : (s.setReg w r v).cr0 = s.cr0 := rfl
@[simp] theorem State.setReg_cr2 (s : State) (w : Width) (r : Reg) (v : W32) : (s.setReg w r v).cr2 = s.cr2 := rfl
@[simp] theorem State.setReg_cr3 (s : State) (w : Width) (r : Reg) (v : W32) : (s.setReg w r v).cr3 = s.cr3 := rfl
@[simp] theorem State.setReg_cr4 (s : State) (w : Width) (r : Reg) (v : W32) : (s.setReg w r v).cr4 = s.cr4 := rfl
@[simp] theorem State.setReg_cpl (s : State) (w : Width) (r : Reg) (v : W32) : (s.setReg w r v).cpl = s.cpl := rfl
@[simp] theorem State.setReg_segs (s : State) (w : Width) (r : Reg) (v : W32) : (s.setReg w r v).segs = s.segs := rfl
@[simp] theorem State.setReg_gdtr (s : State) (w : Width) (r : Reg) (v : W32) : (s.setReg w r v).gdtr = s.gdtr := rfl
@[simp] theorem State.setReg_idtr (s : State) (w : Width) (r : Reg) (v : W32) : (s.setReg w r v).idtr = s.idtr := rfl
@[simp] theorem State.setReg_tlb (s : State) (w : Width) (r : Reg) (v : W32) : (s.setReg w r v).tlb = s.tlb := rfl
@[simp] theorem State.setReg_tlbList (s : State) (w : Width) (r : Reg) (v : W32) : (s.setReg w r v).tlbList = s.tlbList := rfl
@[simp] theorem State.setReg_halted (s : State) (w : Width) (r : Reg) (v : W32) : (s.setReg w r v).halted = s.halted := rfl
@[simp] theorem State.setReg_pendingVector (s : State) (w : Width) (r : Reg) (v : W32) : (s.setReg w r v).pendingVector = s.pendingVector := rfl
@[simp] theorem State.setReg_cycleCount (s : State) (w : Width) (r : Reg) (v : W32) : (s.setReg w r v).cycleCount = s.cycleCount := rfl
@[simp] theorem State.setReg_aborted (s : State) (w : Width) (r : Reg) (v : W32) : (s.setReg w r v).aborted = s.aborted := rfl
@[simp] theorem State.setReg_mem (s : State) (w : Width) (r : Reg) (v : W32) : (s.setReg w r v).mem = s.mem := rfl
@[simp] theorem State.setReg_dec (s : State) (w : Width) (r : Reg) (v : W32) : (s.setReg w r v).dec = s.dec := rfl
@[simp] theorem State.setReg_memSize (s : State) (w : Width) (r : Reg) (v : W32) : (s.setReg w r v).memSize = s.memSize := rfl
@[simp] theorem State.setReg_irqLine (s : State) (w : Width) (r : Reg) (v : W32) : (s.setReg w r v).irqLine = s.irqLine := rfl
@[simp] theorem State.setReg_ports (s : State) (w : Width) (r : Reg) (v : W32) : (s.setReg w r v).ports = s.ports := rfl
@[simp] theorem State.setReg_history (s : State) (w : Width) (r : Reg) (v : W32) : (s.setReg w r v).history = s.history := rfl
@[simp] theorem State.setReg_stepFaulted (s : State) (w : Width) (r : Reg) (v : W32) : (s.setReg w r v).stepFaulted = s.stepFaulted := rfl

@[simp] theorem State.setPc_regs (s : State) (v : W32) : (s.setPc v).regs = s.regs := rfl
@[simp] theorem State.setPc_pc (s : State) (v : W32) : (s.setPc v).pc = v := rfl
@[simp] theorem State.setPc_cc (s : State) (v : W32) : (s.setPc v).cc = s.cc := rfl
@[simp] theorem State.setPc_df (s : State) (v : W32) : (s.setPc v).df = s.df := rfl
@[simp] theorem State.setPc_eflagsSys (s : State) (v : W32) : (s.setPc v).eflagsSys = s.eflagsSys := rfl
@[simp] theorem State.setPc_cr0 (s : State) (v : W32) : (s.setPc v).cr0 = s.cr0 := rfl
@[simp] theorem State.setPc_cr2 (s : State) (v : W32) : (s.setPc v).cr2 = s.cr2 := rfl
@[simp] theorem State.setPc_cr3 (s : State) (v : W32) : (s.setPc v).cr3 = s.cr3 := rfl
@[simp] theorem State.setPc_cr4 (s : State) (v : W32) : (s.setPc v).cr4 = s.cr4 := rfl
@[simp] theorem State.setPc_cpl (s : State) (v : W32) : (s.setPc v).cpl = s.cpl := rfl
@[simp] theorem State.setPc_segs (s : State) (v : W32) : (s.setPc v).segs = s.segs := rfl
@[simp] theorem State.setPc_gdtr (s : State) (v : W32) : (s.setPc v).gdtr = s.gdtr := rfl
@[simp] theorem State.setPc_idtr (s : State) (v : W32) : (s.setPc v).idtr = s.idtr := rfl
@[simp] theorem State.setPc_tlb (s : State) (v : W32) : (s.setPc v).tlb = s.tlb := rfl
@[simp] theorem State.setPc_tlbList (s : State) (v : W32) : (s.setPc v).tlbList = s.tlbList := rfl
@[simp] theorem State.setPc_halted (s : State) (v : W32) : (s.setPc v).halted = s.halted := rfl
@[simp] theorem State.setPc_pendingVector (s : State) (v : W32) : (s.setPc v).pendingVector = s.pendingVector := rfl
@[simp] theorem State.setPc_cycleCount (s : State) (v : W32) : (s.setPc v).cycleCount = s.cycleCount := rfl
@[simp] theorem State.setPc_aborted (s : State) (v : W32) : (s.setPc v).aborted = s.aborted := rfl
@[simp] theorem State.setPc_mem (s : State) (v : W32) : (s.setPc v).mem = s.mem := rfl
@[simp] theorem State.setPc_dec (s : State) (v : W32) : (s.setPc v).dec = s.dec := rfl
@[simp] theorem State.setPc_memSize (s : State) (v : W32) : (s.setPc v).memSize = s.memSize := rfl
@[simp] theorem State.setPc_irqLine (s : State) (v : W32) : (s.setPc v).irqLine = s.irqLine := rfl
@[simp] theorem State.setPc_ports (s : State) (v : W32) : (s.setPc v).ports = s.ports := rfl
@[simp] theorem State.setPc_history (s : State) (v : W32) : (s.setPc v).history = s.history := rfl
@[simp] theorem State.setPc_stepFaulted (s : State) (v : W32) : (s.setPc v).stepFaulted = s.stepFaulted := rfl

@[simp] theorem State.setCc_regs (s : State) (c : CC) : (s.setCc c).regs = s.regs := rfl
@[simp] theorem State.setCc_pc (s : State) (c : CC) : (s.setCc c).pc = s.pc := rfl
@[simp] theorem State.setCc_cc (s : State) (c : CC) : (s.setCc c).cc = c := rfl
@[simp] theorem State.setCc_df (s : State) (c : CC) : (s.setCc c).df = s.df := rfl
@[simp] theorem State.setCc_eflagsSys (s : State) (c : CC) : (s.setCc c).eflagsSys = s.eflagsSys := rfl
@[simp] theorem State.setCc_cr0 (s : State) (c : CC) : (s.setCc c).cr0 = s.cr0 := rfl
@[simp] theorem State.setCc_cr2 (s : State) (c : CC) : (s.setCc c).cr2 = s.cr2 := rfl
@[simp] theorem State.setCc_cr3 (s : State) (c : CC) : (s.setCc c).cr3 = s.cr3 := rfl
@[simp] theorem State.setCc_cr4 (s : State) (c : CC) : (s.setCc c).cr4 = s.cr4 := rfl
@[simp] theorem State.setCc_cpl (s : State) (c : CC) : (s.setCc c).cpl = s.cpl := rfl
@[simp] theorem State.setCc_segs (s : State) (c : CC) : (s.setCc c).segs = s.segs := rfl
@[simp] theorem State.setCc_gdtr (s : State) (c : CC) : (s.setCc c).gdtr = s.gdtr := rfl
@[simp] theorem State.setCc_idtr (s : State) (c : CC) : (s.setCc c).idtr = s.idtr := rfl
@[simp] theorem State.setCc_tlb (s : State) (c : CC) : (s.setCc c).tlb = s.tlb := rfl
@[simp] theorem State.setCc_tlbList (s : State) (c : CC) : (s.setCc c).tlbList = s.tlbList := rfl
@[simp] theorem State.setCc_halted (s : State) (c : CC) : (s.setCc c).halted = s.halted := rfl
@[simp] theorem State.setCc_pendingVector (s : State) (c : CC) : (s.setCc c).pendingVector = s.pendingVector := rfl
@[simp] theorem State.setCc_cycleCount (s : State) (c : CC) : (s.setCc c).cycleCount = s.cycleCount := rfl
@[simp] theorem State.setCc_aborted (s : State) (c : CC) : (s.setCc c).aborted = s.aborted := rfl
@[simp] theorem State.setCc_mem (s : State) (c : CC) : (s.setCc c).mem = s.mem := rfl
@[simp] theorem State.setCc_dec (s : State) (c : CC) : (s.setCc c).dec = s.dec := rfl
@[simp] theorem State.setCc_memSize (s : State) (c : CC) : (s.setCc c).memSize = s.memSize := rfl
@[simp] theorem State.setCc_irqLine (s : State) (c : CC) : (s.setCc c).irqLine = s.irqLine := rfl
@[simp] theorem State.setCc_ports (s : State) (c : CC) : (s.setCc c).ports = s.ports := rfl
@[simp] theorem State.setCc_history (s : State) (c : CC) : (s.setCc c).history = s.history := rfl
@[simp] theorem State.setCc_stepFaulted (s : State) (c : CC) : (s.setCc c).stepFaulted = s.stepFaulted := rfl

@[simp] theorem State.setDf_regs (s : State) (b : Bool) : (s.setDf b).regs = s.regs := rfl
@[simp] theorem State.setDf_pc (s : State) (b : Bool) : (s.setDf b).pc = s.pc := rfl
@[simp] theorem State.setDf_cc (s : State) (b : Bool) : (s.setDf b).cc = s.cc := rfl
@[simp] theorem State.setDf_df (s : State) (b : Bool) : (s.setDf b).df = b := rfl
@[simp] theorem State.setDf_eflagsSys (s : State) (b : Bool) : (s.setDf b).eflagsSys = s.eflagsSys := rfl
@[simp] theorem State.setDf_cr0 (s : State) (b : Bool) : (s.setDf b).cr0 = s.cr0 := rfl
@[simp] theorem State.setDf_cr2 (s : State) (b : Bool) : (s.setDf b).cr2 = s.cr2 := rfl
@[simp] theorem State.setDf_cr3 (s : State) (b : Bool) : (s.setDf b).cr3 = s.cr3 := rfl
@[simp] theorem State.setDf_cr4 (s : State) (b : Bool) : (s.setDf b).cr4 = s.cr4 := rfl
@[simp] theorem State.setDf_cpl (s : State) (b : Bool) : (s.setDf b).cpl = s.cpl := rfl
@[simp] theorem State.setDf_segs (s : State) (b : Bool) : (s.setDf b).segs = s.segs := rfl
@[simp] theorem State.setDf_gdtr (s : State) (b : Bool) : (s.setDf b).gdtr = s.gdtr := rfl
@[simp] theorem State.setDf_idtr (s : State) (b : Bool) : (s.setDf b).idtr = s.idtr := rfl
@[simp] theorem State.setDf_tlb (s : State) (b : Bool) : (s.setDf b).tlb = s.tlb := rfl
@[simp] theorem State.setDf_tlbList (s : State) (b : Bool) : (s.setDf b).tlbList = s.tlbList := rfl
@[simp] theorem State.setDf_halted (s : State) (b : Bool) : (s.setDf b).halted = s.halted := rfl
@[simp] theorem State.setDf_pendingVector (s : State) (b : Bool) : (s.setDf b).pendingVector = s.pendingVector := rfl
@[simp] theorem State.setDf_cycleCount (s : State) (b : Bool) : (s.setDf b).cycleCount = s.cycleCount := rfl
@[simp] theorem State.setDf_aborted (s : State) (b : Bool) : (s.setDf b).aborted = s.aborted := rfl
@[simp] theorem State.setDf_mem (s : State) (b : Bool) : (s.setDf b).mem = s.mem := rfl
@[simp] theorem State.setDf_dec (s : State) (b : Bool) : (s.setDf b).dec = s.dec := rfl
@[simp] theorem State.setDf_memSize (s : State) (b : Bool) : (s.setDf b).memSize = s.memSize := rfl
@[simp] theorem State.setDf_irqLine (s : State) (b : Bool) : (s.setDf b).irqLine = s.irqLine := rfl
@[simp] theorem State.setDf_ports (s : State) (b : Bool) : (s.setDf b).ports = s.ports := rfl
@[simp] theorem State.setDf_history (s : State) (b : Bool) : (s.setDf b).history = s.history := rfl
@[simp] theorem State.setDf_stepFaulted (s : State) (b : Bool) : (s.setDf b).stepFaulted = s.stepFaulted := rfl

@[simp] theorem State.setSys_regs (s : State) (v : W32) : (s.setSys v).regs = s.regs := rfl
@[simp] theorem State.setSys_pc (s : State) (v : W32) : (s.setSys v).pc = s.pc := rfl
@[simp] theorem State.setSys_cc (s : State) (v : W32) : (s.setSys v).cc = s.cc := rfl
@[simp] theorem State.setSys_df (s : State) (v : W32) : (s.setSys v).df = s.df := rfl
@[simp] theorem State.setSys_eflagsSys (s : State) (v : W32) : (s.setSys v).eflagsSys = v := rfl
@[simp] theorem State.setSys_cr0 (s : State) (v : W32) : (s.setSys v).cr0 = s.cr0 := rfl
@[simp] theorem State.setSys_cr2 (s : State) (v : W32) : (s.setSys v).cr2 = s.cr2 := rfl
@[simp] theorem State.setSys_cr3 (s : State) (v : W32) : (s.setSys v).cr3 = s.cr3 := rfl
@[simp] theorem State.setSys_cr4 (s : State) (v : W32) : (s.setSys v).cr4 = s.cr4 := rfl
@[simp] theorem State.setSys_cpl (s : State) (v : W32) : (s.setSys v).cpl = s.cpl := rfl
@[simp] theorem State.setSys_segs (s : State) (v : W32) : (s.setSys v).segs = s.segs := rfl
@[simp] theorem State.setSys_gdtr (s : State) (v : W32) : (s.setSys v).gdtr = s.gdtr := rfl
@[simp] theorem State.setSys_idtr (s : State) (v : W32) : (s.setSys v).idtr = s.idtr := rfl
@[simp] theorem State.setSys_tlb (s : State) (v : W32) : (s.setSys v).tlb = s.tlb := rfl
@[simp] theorem State.setSys_tlbList (s : State) (v : W32) : (s.setSys v).tlbList = s.tlbList := rfl
@[simp] theorem State.setSys_halted (s : State) (v : W32) : (s.setSys v).halted = s.halted := rfl
@[simp] theorem State.setSys_pendingVector (s : State) (v : W32) : (s.setSys v).pendingVector = s.pendingVector := rfl
@[simp] theorem State.setSys_cycleCount (s : State) (v : W32) : (s.setSys v).cycleCount = s.cycleCount := rfl
@[simp] theorem State.setSys_aborted (s : State) (v : W32) : (s.setSys v).aborted = s.aborted := rfl
@[simp] theorem State.setSys_mem (s : State) (v : W32) : (s.setSys v).mem = s.mem := rfl
@[simp] theorem State.setSys_dec (s : State) (v : W32) : (s.setSys v).dec = s.dec := rfl
@[simp] theorem State.setSys_memSize (s : State) (v : W32) : (s.setSys v).memSize = s.memSize := rfl
@[simp] theorem State.setSys_irqLine (s : State) (v : W32) : (s.setSys v).irqLine = s.irqLine := rfl
@[simp] theorem State.setSys_ports (s : State) (v : W32) : (s.setSys v).ports = s.ports := rfl
@[simp] theorem State.setSys_history (s : State) (v : W32) : (s.setSys v).history = s.history := rfl
@[simp] theorem State.setSys_stepFaulted (s : State) (v : W32) : (s.setSys v).stepFaulted = s.stepFaulted := rfl

@[simp] theorem State.setCr0_regs (s : State) (v : W32) : (s.setCr0 v).regs = s.regs := rfl
@[simp] theorem State.setCr0_pc (s : State) (v : W32) : (s.setCr0 v).pc = s.pc := rfl
@[simp] theorem State.setCr0_cc (s : State) (v : W32) : (s.setCr0 v).cc = s.cc := rfl
@[simp] theorem State.setCr0_df (s : State) (v : W32) : (s.setCr0 v).df = s.df := rfl
@[simp] theorem State.setCr0_eflagsSys (s : State) (v : W32) : (s.setCr0 v).eflagsSys = s.eflagsSys := rfl
@[simp] theorem State.setCr0_cr0 (s : State) (v : W32) : (s.setCr0 v).cr0 = v := rfl
@[simp] theorem State.setCr0_cr2 (s : State) (v : W32) : (s.setCr0 v).cr2 = s.cr2 := rfl
@[simp] theorem State.setCr0_cr3 (s : State) (v : W32) : (s.setCr0 v).cr3 = s.cr3 := rfl
@[simp] theorem State.setCr0_cr4 (s : State) (v : W32) : (s.setCr0 v).cr4 = s.cr4 := rfl
@[simp] theorem State.setCr0_cpl (s : State) (v : W32) : (s.setCr0 v).cpl = s.cpl := rfl
@[simp] theorem State.setCr0_segs (s : State) (v : W32) : (s.setCr0 v).segs = s.segs := rfl
@[simp] theorem State.setCr0_gdtr (s : State) (v : W32) : (s.setCr0 v).gdtr = s.gdtr := rfl
@[simp] theorem State.setCr0_idtr (s : State) (v : W32) : (s.setCr0 v).idtr = s.idtr := rfl
@[simp] theorem State.setCr0_tlb (s : State) (v : W32) : (s.setCr0 v).tlb = s.tlb := rfl
@[simp] theorem State.setCr0_tlbList (s : State) (v : W32) : (s.setCr0 v).tlbList = s.tlbList := rfl
@[simp] theorem State.setCr0_halted (s : State) (v : W32) : (s.setCr0 v).halted = s.halted := rfl
@[simp] theorem State.setCr0_pendingVector (s : State) (v : W32) : (s.setCr0 v).pendingVector = s.pendingVector := rfl
@[simp] theorem State.setCr0_cycleCount (s : State) (v : W32) : (s.setCr0 v).cycleCount = s.cycleCount := rfl
@[simp] theorem State.setCr0_aborted (s : State) (v : W32) : (s.setCr0 v).aborted = s.aborted := rfl
@[simp] theorem State.setCr0_mem (s : State) (v : W32) : (s.setCr0 v).mem = s.mem := rfl
@[simp] theorem State.setCr0_dec (s : State) (v : W32) : (s.setCr0 v).dec = s.dec := rfl
@[simp] theorem State.setCr0_memSize (s : State) (v : W32) : (s.setCr0 v).memSize = s.memSize := rfl
@[simp] theorem State.setCr0_irqLine (s : State) (v : W32) : (s.setCr0 v).irqLine = s.irqLine := rfl
@[simp] theorem State.setCr0_ports (s : State) (v : W32) : (s.setCr0 v).ports = s.ports := rfl
@[simp] theorem State.setCr0_history (s : State) (v : W32) : (s.setCr0 v).history = s.history := rfl
@[simp] theorem State.setCr0_stepFaulted (s : State) (v : W32) : (s.setCr0 v).stepFaulted = s.stepFaulted := rfl

@[simp] theorem State.setCr2_regs (s : State) (v : W32) : (s.setCr2 v).regs = s.regs := rfl
@[simp] theorem State.setCr2_pc (s : State) (v : W32) : (s.setCr2 v).pc = s.pc := rfl
@[simp] theorem State.setCr2_cc (s : State) (v : W32) : (s.setCr2 v).cc = s.cc := rfl
@[simp] theorem State.setCr2_df (s : State) (v : W32) : (s.setCr2 v).df = s.df := rfl
@[simp] theorem State.setCr2_eflagsSys (s : State) (v : W32) : (s.setCr2 v).eflagsSys = s.eflagsSys := rfl
@[simp] theorem State.setCr2_cr0 (s : State) (v : W32) : (s.setCr2 v).cr0 = s.cr0 := rfl
@[simp] theorem State.setCr2_cr2 (s : State) (v : W32) : (s.setCr2 v).cr2 = v := rfl
@[simp] theorem State.setCr2_cr3 (s : State) (v : W32) : (s.setCr2 v).cr3 = s.cr3 := rfl
@[simp] theorem State.setCr2_cr4 (s : State) (v : W32) : (s.setCr2 v).cr4 = s.cr4 := rfl
@[simp] theorem State.setCr2_cpl (s : State) (v : W32) : (s.setCr2 v).cpl = s.cpl := rfl
@[simp] theorem State.setCr2_segs (s : State) (v : W32) : (s.setCr2 v).segs = s.segs := rfl
@[simp] theorem State.setCr2_gdtr (s : State) (v : W32) : (s.setCr2 v).gdtr = s.gdtr := rfl
@[simp] theorem State.setCr2_idtr (s : State) (v : W32) : (s.setCr2 v).idtr = s.idtr := rfl
@[simp] theorem State.setCr2_tlb (s : State) (v : W32) : (s.setCr2 v).tlb = s.tlb := rfl
@[simp] theorem State.setCr2_tlbList (s : State) (v : W32) : (s.setCr2 v).tlbList = s.tlbList := rfl
@[simp] theorem State.setCr2_halted (s : State) (v : W32) : (s.setCr2 v).halted = s.halted := rfl
@[simp] theorem State.setCr2_pendingVector (s : State) (v : W32) : (s.setCr2 v).pendingVector = s.pendingVector := rfl
@[simp] theorem State.setCr2_cycleCount (s : State) (v : W32) : (s.setCr2 v).cycleCount = s.cycleCount := rfl
@[simp] theorem State.setCr2_aborted (s : State) (v : W32) : (s.setCr2 v).aborted = s.aborted := rfl
@[simp] theorem State.setCr2_mem (s : State) (v : W32) : (s.setCr2 v).mem = s.mem := rfl
@[simp] theorem State.setCr2_dec (s : State) (v : W32) : (s.setCr2 v).dec = s.dec := rfl
@[simp] theorem State.setCr2_memSize (s : State) (v : W32) : (s.setCr2 v).memSize = s.memSize := rfl
@[simp] theorem State.setCr2_irqLine (s : State) (v : W32) : (s.setCr2 v).irqLine = s.irqLine := rfl
@[simp] theorem State.setCr2_ports (s : State) (v : W32) : (s.setCr2 v).ports = s.ports := rfl
@[simp] theorem State.setCr2_history (s : State) (v : W32) : (s.setCr2 v).history = s.history := rfl
@[simp] theorem State.setCr2_stepFaulted (s : State) (v : W32) : (s.setCr2 v).stepFaulted = s.stepFaulted := rfl

@[simp] theorem State.setCr3_regs (s : State) (v : W32) : (s.setCr3 v).regs = s.regs := rfl
@[simp] theorem State.setCr3_pc (s : State) (v : W32) : (s.setCr3 v).pc = s.pc := rfl
@[simp] theorem State.setCr3_cc (s : State) (v : W32) : (s.setCr3 v).cc = s.cc := rfl
@[simp] theorem State.setCr3_df (s : State) (v : W32) : (s.setCr3 v).df = s.df := rfl
@[simp] theorem State.setCr3_eflagsSys (s : State) (v : W32) : (s.setCr3 v).eflagsSys = s.eflagsSys := rfl
@[simp] theorem State.setCr3_cr0 (s : State) (v : W32) : (s.setCr3 v).cr0 = s.cr0 := rfl
@[simp] theorem State.setCr3_cr2 (s : State) (v : W32) : (s.setCr3 v).cr2 = s.cr2 := rfl
@[simp] theorem State.setCr3_cr3 (s : State) (v : W32) : (s.setCr3 v).cr3 = v := rfl
@[simp] theorem State.setCr3_cr4 (s : State) (v : W32) : (s.setCr3 v).cr4 = s.cr4 := rfl
@[simp] theorem State.setCr3_cpl (s : State) (v : W32) : (s.setCr3 v).cpl = s.cpl := rfl
@[simp] theorem State.setCr3_segs (s : State) (v : W32) : (s.setCr3 v).segs = s.segs := rfl
@[simp] theorem State.setCr3_gdtr (s : State) (v : W32) : (s.setCr3 v).gdtr = s.gdtr := rfl
@[simp] theorem State.setCr3_idtr (s : State) (v : W32) : (s.setCr3 v).idtr = s.idtr := rfl
@[simp] theorem State.setCr3_tlb (s : State) (v : W32) : (s.setCr3 v).tlb = s.tlb := rfl
@[simp] theorem State.setCr3_tlbList (s : State) (v : W32) : (s.setCr3 v).tlbList = s.tlbList := rfl
@[simp] theorem State.setCr3_halted (s : State) (v : W32) : (s.setCr3 v).halted = s.halted := rfl
@[simp] theorem State.setCr3_pendingVector (s : State) (v : W32) : (s.setCr3 v).pendingVector = s.pendingVector := rfl
@[simp] theorem State.setCr3_cycleCount (s : State) (v : W32) : (s.setCr3 v).cycleCount = s.cycleCount := rfl
@[simp] theorem State.setCr3_aborted (s : State) (v : W32) : (s.setCr3 v).aborted = s.aborted := rfl
@[simp] theorem State.setCr3_mem (s : State) (v : W32) : (s.setCr3 v).mem = s.mem := rfl
@[simp] theorem State.setCr3_dec (s : State) (v : W32) : (s.setCr3 v).dec = s.dec := rfl
@[simp] theorem State.setCr3_memSize (s : State) (v : W32) : (s.setCr3 v).memSize = s.memSize := rfl
@[simp] theorem State.setCr3_irqLine (s : State) (v : W32) : (s.setCr3 v).irqLine = s.irqLine := rfl
@[simp] theorem State.setCr3_ports (s : State) (v : W32) : (s.setCr3 v).ports = s.ports := rfl
@[simp] theorem State.setCr3_history (s : State) (v : W32) : (s.setCr3 v).history = s.history := rfl
@[simp] theorem State.setCr3_stepFaulted (s : State) (v : W32) : (s.setCr3 v).stepFaulted = s.stepFaulted := rfl

@[simp] theorem State.setCr4_regs (s : State) (v : W32) : (s.setCr4 v).regs = s.regs := rfl
@[simp] theorem State.setCr4_pc (s : State) (v : W32) : (s.setCr4 v).pc = s.pc := rfl
@[simp] theorem State.setCr4_cc (s : State) (v : W32) : (s.setCr4 v).cc = s.cc := rfl
@[simp] theorem State.setCr4_df (s : State) (v : W32) : (s.setCr4 v).df = s.df := rfl
@[simp] theorem State.setCr4_eflagsSys (s : State) (v : W32) : (s.setCr4 v).eflagsSys = s.eflagsSys := rfl
@[simp] theorem State.setCr4_cr0 (s : State) (v : W32) : (s.setCr4 v).cr0 = s.cr0 := rfl
@[simp] theorem State.setCr4_cr2 (s : State) (v : W32) : (s.setCr4 v).cr2 = s.cr2 := rfl
@[simp] theorem State.setCr4_cr3 (s : State) (v : W32) : (s.setCr4 v).cr3 = s.cr3 := rfl
@[simp] theorem State.setCr4_cr4 (s : State) (v : W32) : (s.setCr4 v).cr4 = v := rfl
@[simp] theorem State.setCr4_cpl (s : State) (v : W32) : (s.setCr4 v).cpl = s.cpl := rfl
@[simp] theorem State.setCr4_segs (s : State) (v : W32) : (s.setCr4 v).segs = s.segs := rfl
@[simp] theorem State.setCr4_gdtr (s : State) (v : W32) : (s.setCr4 v).gdtr = s.gdtr := rfl
@[simp] theorem State.setCr4_idtr (s : State) (v : W32) : (s.setCr4 v).idtr = s.idtr := rfl
@[simp] theorem State.setCr4_tlb (s : State) (v : W32) : (s.setCr4 v).tlb = s.tlb := rfl
@[simp] theorem State.setCr4_tlbList (s : State) (v : W32) : (s.setCr4 v).tlbList = s.tlbList := rfl
@[simp] theorem State.setCr4_halted (s : State) (v : W32) : (s.setCr4 v).halted = s.halted := rfl
@[simp] theorem State.setCr4_pendingVector (s : State) (v : W32) : (s.setCr4 v).pendingVector = s.pendingVector := rfl
@[simp] theorem State.setCr4_cycleCount (s : State) (v : W32) : (s.setCr4 v).cycleCount = s.cycleCount := rfl
@[simp] theorem State.setCr4_aborted (s : State) (v : W32) : (s.setCr4 v).aborted = s.aborted := rfl
@[simp] theorem State.setCr4_mem (s : State) (v : W32) : (s.setCr4 v).mem = s.mem := rfl
@[simp] theorem State.setCr4_dec (s : State) (v : W32) : (s.setCr4 v).dec = s.dec := rfl
@[simp] theorem State.setCr4_memSize (s : State) (v : W32) : (s.setCr4 v).memSize = s.memSize := rfl
@[simp] theorem State.setCr4_irqLine (s : State) (v : W32) : (s.setCr4 v).irqLine = s.irqLine := rfl
@[simp] theorem State.setCr4_ports (s : State) (v : W32) : (s.setCr4 v).ports = s.ports := rfl
@[simp] theorem State.setCr4_history (s : State) (v : W32) : (s.setCr4 v).history = s.history := rfl
@[simp] theorem State.setCr4_stepFaulted (s : State) (v : W32) : (s.setCr4 v).stepFaulted = s.stepFaulted := rfl

@[simp] theorem State.setCpl_regs (s : State) (n : BitVec 2) : (s.setCpl n).regs = s.regs := rfl
@[simp] theorem State.setCpl_pc (s : State) (n : BitVec 2) : (s.setCpl n).pc = s.pc := rfl
@[simp] theorem State.setCpl_cc (s : State) (n : BitVec 2) : (s.setCpl n).cc = s.cc := rfl
@[simp] theorem State.setCpl_df (s : State) (n : BitVec 2) : (s.setCpl n).df = s.df := rfl
@[simp] theorem State.setCpl_eflagsSys (s : State) (n : BitVec 2) : (s.setCpl n).eflagsSys = s.eflagsSys := rfl
@[simp] theorem State.setCpl_cr0 (s : State) (n : BitVec 2) : (s.setCpl n).cr0 = s.cr0 := rfl
@[simp] theorem State.setCpl_cr2 (s : State) (n : BitVec 2) : (s.setCpl n).cr2 = s.cr2 := rfl
@[simp] theorem State.setCpl_cr3 (s : State) (n : BitVec 2) : (s.setCpl n).cr3 = s.cr3 := rfl
@[simp] theorem State.setCpl_cr4 (s : State) (n : BitVec 2) : (s.setCpl n).cr4 = s.cr4 := rfl
@[simp] theorem State.setCpl_cpl (s : State) (n : BitVec 2) : (s.setCpl n).cpl = n := rfl
@[simp] theorem State.setCpl_segs (s : State) (n : BitVec 2) : (s.setCpl n).segs = s.segs := rfl
@[simp] theorem State.setCpl_gdtr (s : State) (n : BitVec 2) : (s.setCpl n).gdtr = s.gdtr := rfl
@[simp] theorem State.setCpl_idtr (s : State) (n : BitVec 2) : (s.setCpl n).idtr = s.idtr := rfl
@[simp] theorem State.setCpl_tlb (s : State) (n : BitVec 2) : (s.setCpl n).tlb = s.tlb := rfl
@[simp] theorem State.setCpl_tlbList (s : State) (n : BitVec 2) : (s.setCpl n).tlbList = s.tlbList := rfl
@[simp] theorem State.setCpl_halted (s : State) (n : BitVec 2) : (s.setCpl n).halted = s.halted := rfl
@[simp] theorem State.setCpl_pendingVector (s : State) (n : BitVec 2) : (s.setCpl n).pendingVector = s.pendingVector := rfl
@[simp] theorem State.setCpl_cycleCount (s : State) (n : BitVec 2) : (s.setCpl n).cycleCount = s.cycleCount := rfl
@[simp] theorem State.setCpl_aborted (s : State) (n : BitVec 2) : (s.setCpl n).aborted = s.aborted := rfl
@[simp] theorem State.setCpl_mem (s : State) (n : BitVec 2) : (s.setCpl n).mem = s.mem := rfl
@[simp] theorem State.setCpl_dec (s : State) (n : BitVec 2) : (s.setCpl n).dec = s.dec := rfl
@[simp] theorem State.setCpl_memSize (s : State) (n : BitVec 2) : (s.setCpl n).memSize = s.memSize := rfl
@[simp] theorem State.setCpl_irqLine (s : State) (n : BitVec 2) : (s.setCpl n).irqLine = s.irqLine := rfl
@[simp] theorem State.setCpl_ports (s : State) (n : BitVec 2) : (s.setCpl n).ports = s.ports := rfl
@[simp] theorem State.setCpl_history (s : State) (n : BitVec 2) : (s.setCpl n).history = s.history := rfl
@[simp] theorem State.setCpl_stepFaulted (s : State) (n : BitVec 2) : (s.setCpl n).stepFaulted = s.stepFaulted := rfl

@[simp] theorem State.setSegReg_regs (s : State) (n : Sreg) (r : SegReg) : (s.setSegReg n r).regs = s.regs := rfl
@[simp] theorem State.setSegReg_pc (s : State) (n : Sreg) (r : SegReg) : (s.setSegReg n r).pc = s.pc := rfl
@[simp] theorem State.setSegReg_cc (s : State) (n : Sreg) (r : SegReg) : (s.setSegReg n r).cc = s.cc := rfl
@[simp] theorem State.setSegReg_df (s : State) (n : Sreg) (r : SegReg) : (s.setSegReg n r).df = s.df := rfl
@[simp] theorem State.setSegReg_eflagsSys (s : State) (n : Sreg) (r : SegReg) : (s.setSegReg n r).eflagsSys = s.eflagsSys := rfl
@[simp] theorem State.setSegReg_cr0 (s : State) (n : Sreg) (r : SegReg) : (s.setSegReg n r).cr0 = s.cr0 := rfl
@[simp] theorem State.setSegReg_cr2 (s : State) (n : Sreg) (r : SegReg) : (s.setSegReg n r).cr2 = s.cr2 := rfl
@[simp] theorem State.setSegReg_cr3 (s : State) (n : Sreg) (r : SegReg) : (s.setSegReg n r).cr3 = s.cr3 := rfl
@[simp] theorem State.setSegReg_cr4 (s : State) (n : Sreg) (r : SegReg) : (s.setSegReg n r).cr4 = s.cr4 := rfl
@[simp] theorem State.setSegReg_cpl (s : State) (n : Sreg) (r : SegReg) : (s.setSegReg n r).cpl = s.cpl := rfl
@[simp] theorem State.setSegReg_segs (s : State) (n : Sreg) (r : SegReg) : (s.setSegReg n r).segs = s.segs.set n r := rfl
@[simp] theorem State.setSegReg_gdtr (s : State) (n : Sreg) (r : SegReg) : (s.setSegReg n r).gdtr = s.gdtr := rfl
@[simp] theorem State.setSegReg_idtr (s : State) (n : Sreg) (r : SegReg) : (s.setSegReg n r).idtr = s.idtr := rfl
@[simp] theorem State.setSegReg_tlb (s : State) (n : Sreg) (r : SegReg) : (s.setSegReg n r).tlb = s.tlb := rfl
@[simp] theorem State.setSegReg_tlbList (s : State) (n : Sreg) (r : SegReg) : (s.setSegReg n r).tlbList = s.tlbList := rfl
@[simp] theorem State.setSegReg_halted (s : State) (n : Sreg) (r : SegReg) : (s.setSegReg n r).halted = s.halted := rfl
@[simp] theorem State.setSegReg_pendingVector (s : State) (n : Sreg) (r : SegReg) : (s.setSegReg n r).pendingVector = s.pendingVector := rfl
@[simp] theorem State.setSegReg_cycleCount (s : State) (n : Sreg) (r : SegReg) : (s.setSegReg n r).cycleCount = s.cycleCount := rfl
@[simp] theorem State.setSegReg_aborted (s : State) (n : Sreg) (r : SegReg) : (s.setSegReg n r).aborted = s.aborted := rfl
@[simp] theorem State.setSegReg_mem (s : State) (n : Sreg) (r : SegReg) : (s.setSegReg n r).mem = s.mem := rfl
@[simp] theorem State.setSegReg_dec (s : State) (n : Sreg) (r : SegReg) : (s.setSegReg n r).dec = s.dec := rfl
@[simp] theorem State.setSegReg_memSize (s : State) (n : Sreg) (r : SegReg) : (s.setSegReg n r).memSize = s.memSize := rfl
@[simp] theorem State.setSegReg_irqLine (s : State) (n : Sreg) (r : SegReg) : (s.setSegReg n r).irqLine = s.irqLine := rfl
@[simp] theorem State.setSegReg_ports (s : State) (n : Sreg) (r : SegReg) : (s.setSegReg n r).ports = s.ports := rfl
@[simp] theorem State.setSegReg_history (s : State) (n : Sreg) (r : SegReg) : (s.setSegReg n r).history = s.history := rfl
@[simp] theorem State.setSegReg_stepFaulted (s : State) (n : Sreg) (r : SegReg) : (s.setSegReg n r).stepFaulted = s.stepFaulted := rfl

@[simp] theorem State.setGdtr_regs (s : State) (t : TableReg) : (s.setGdtr t).regs = s.regs := rfl
@[simp] theorem State.setGdtr_pc (s : State) (t : TableReg) : (s.setGdtr t).pc = s.pc := rfl
@[simp] theorem State.setGdtr_cc (s : State) (t : TableReg) : (s.setGdtr t).cc = s.cc := rfl
@[simp] theorem State.setGdtr_df (s : State) (t : TableReg) : (s.setGdtr t).df = s.df := rfl
@[simp] theorem State.setGdtr_eflagsSys (s : State) (t : TableReg) : (s.setGdtr t).eflagsSys = s.eflagsSys := rfl
@[simp] theorem State.setGdtr_cr0 (s : State) (t : TableReg) : (s.setGdtr t).cr0 = s.cr0 := rfl
@[simp] theorem State.setGdtr_cr2 (s : State) (t : TableReg) : (s.setGdtr t).cr2 = s.cr2 := rfl
@[simp] theorem State.setGdtr_cr3 (s : State) (t : TableReg) : (s.setGdtr t).cr3 = s.cr3 := rfl
@[simp] theorem State.setGdtr_cr4 (s : State) (t : TableReg) : (s.setGdtr t).cr4 = s.cr4 := rfl
@[simp] theorem State.setGdtr_cpl (s : State) (t : TableReg) : (s.setGdtr t).cpl = s.cpl := rfl
@[simp] theorem State.setGdtr_segs (s : State) (t : TableReg) : (s.setGdtr t).segs = s.segs := rfl
@[simp] theorem State.setGdtr_gdtr (s : State) (t : TableReg) : (s.setGdtr t).gdtr = t := rfl
@[simp] theorem State.setGdtr_idtr (s : State) (t : TableReg) : (s.setGdtr t).idtr = s.idtr := rfl
@[simp] theorem State.setGdtr_tlb (s : State) (t : TableReg) : (s.setGdtr t).tlb = s.tlb := rfl
@[simp] theorem State.setGdtr_tlbList (s : State) (t : TableReg) : (s.setGdtr t).tlbList = s.tlbList := rfl
@[simp] theorem State.setGdtr_halted (s : State) (t : TableReg) : (s.setGdtr t).halted = s.halted := rfl
@[simp] theorem State.setGdtr_pendingVector (s : State) (t : TableReg) : (s.setGdtr t).pendingVector = s.pendingVector := rfl
@[simp] theorem State.setGdtr_cycleCount (s : State) (t : TableReg) : (s.setGdtr t).cycleCount = s.cycleCount := rfl
@[simp] theorem State.setGdtr_aborted (s : State) (t : TableReg) : (s.setGdtr t).aborted = s.aborted := rfl
@[simp] theorem State.setGdtr_mem (s : State) (t : TableReg) : (s.setGdtr t).mem = s.mem := rfl
@[simp] theorem State.setGdtr_dec (s : State) (t : TableReg) : (s.setGdtr t).dec = s.dec := rfl
@[simp] theorem State.setGdtr_memSize (s : State) (t : TableReg) : (s.setGdtr t).memSize = s.memSize := rfl
@[simp] theorem State.setGdtr_irqLine (s : State) (t : TableReg) : (s.setGdtr t).irqLine = s.irqLine := rfl
@[simp] theorem State.setGdtr_ports (s : State) (t : TableReg) : (s.setGdtr t).ports = s.ports := rfl
@[simp] theorem State.setGdtr_history (s : State) (t : TableReg) : (s.setGdtr t).history = s.history := rfl
@[simp] theorem State.setGdtr_stepFaulted (s : State) (t : TableReg) : (s.setGdtr t).stepFaulted = s.stepFaulted := rfl

@[simp] theorem State.setIdtr_regs (s : State) (t : TableReg) : (s.setIdtr t).regs = s.regs := rfl
@[simp] theorem State.setIdtr_pc (s : State) (t : TableReg) : (s.setIdtr t).pc = s.pc := rfl
@[simp] theorem State.setIdtr_cc (s : State) (t : TableReg) : (s.setIdtr t).cc = s.cc := rfl
@[simp] theorem State.setIdtr_df (s : State) (t : TableReg) : (s.setIdtr t).df = s.df := rfl
@[simp] theorem State.setIdtr_eflagsSys (s : State) (t : TableReg) : (s.setIdtr t).eflagsSys = s.eflagsSys := rfl
@[simp] theorem State.setIdtr_cr0 (s : State) (t : TableReg) : (s.setIdtr t).cr0 = s.cr0 := rfl
@[simp] theorem State.setIdtr_cr2 (s : State) (t : TableReg) : (s.setIdtr t).cr2 = s.cr2 := rfl
@[simp] theorem State.setIdtr_cr3 (s : State) (t : TableReg) : (s.setIdtr t).cr3 = s.cr3 := rfl
@[simp] theorem State.setIdtr_cr4 (s : State) (t : TableReg) : (s.setIdtr t).cr4 = s.cr4 := rfl
@[simp] theorem State.setIdtr_cpl (s : State) (t : TableReg) : (s.setIdtr t).cpl = s.cpl := rfl
@[simp] theorem State.setIdtr_segs (s : State) (t : TableReg) : (s.setIdtr t).segs = s.segs := rfl
@[simp] theorem State.setIdtr_gdtr (s : State) (t : TableReg) : (s.setIdtr t).gdtr = s.gdtr := rfl
@[simp] theorem State.setIdtr_idtr (s : State) (t : TableReg) : (s.setIdtr t).idtr = t := rfl
@[simp] theorem State.setIdtr_tlb (s : State) (t : TableReg) : (s.setIdtr t).tlb = s.tlb := rfl
@[simp] theorem State.setIdtr_tlbList (s : State) (t : TableReg) : (s.setIdtr t).tlbList = s.tlbList := rfl
@[simp] theorem State.setIdtr_halted (s : State) (t : TableReg) : (s.setIdtr t).halted = s.halted := rfl
@[simp] theorem State.setIdtr_pendingVector (s : State) (t : TableReg) : (s.setIdtr t).pendingVector = s.pendingVector := rfl
@[simp] theorem State.setIdtr_cycleCount (s : State) (t : TableReg) : (s.setIdtr t).cycleCount = s.cycleCount := rfl
@[simp] theorem State.setIdtr_aborted (s : State) (t : TableReg) : (s.setIdtr t).aborted = s.aborted := rfl
@[simp] theorem State.setIdtr_mem (s : State) (t : TableReg) : (s.setIdtr t).mem = s.mem := rfl
@[simp] theorem State.setIdtr_dec (s : State) (t : TableReg) : (s.setIdtr t).dec = s.dec := rfl
@[simp] theorem State.setIdtr_memSize (s : State) (t : TableReg) : (s.setIdtr t).memSize = s.memSize := rfl
@[simp] theorem State.setIdtr_irqLine (s : State) (t : TableReg) : (s.setIdtr t).irqLine = s.irqLine := rfl
@[simp] theorem State.setIdtr_ports (s : State) (t : TableReg) : (s.setIdtr t).ports = s.ports := rfl
@[simp] theorem State.setIdtr_history (s : State) (t : TableReg) : (s.setIdtr t).history = s.history := rfl
@[simp] theorem State.setIdtr_stepFaulted (s : State) (t : TableReg) : (s.setIdtr t).stepFaulted = s.stepFaulted := rfl

@[simp] theorem State.setTlb_regs (s : State) (t : List (Nat × TlbEntry)) (l : List Nat) : (s.setTlb t l).regs = s.regs := rfl
@[simp] theorem State.setTlb_pc (s : State) (t : List (Nat × TlbEntry)) (l : List Nat) : (s.setTlb t l).pc = s.pc := rfl
@[simp] theorem State.setTlb_cc (s : State) (t : List (Nat × TlbEntry)) (l : List Nat) : (s.setTlb t l).cc = s.cc := rfl
@[simp] theorem State.setTlb_df (s : State) (t : List (Nat × TlbEntry)) (l : List Nat) : (s.setTlb t l).df = s.df := rfl
@[simp] theorem State.setTlb_eflagsSys (s : State) (t : List (Nat × TlbEntry)) (l : List Nat) : (s.setTlb t l).eflagsSys = s.eflagsSys := rfl
@[simp] theorem State.setTlb_cr0 (s : State) (t : List (Nat × TlbEntry)) (l : List Nat) : (s.setTlb t l).cr0 = s.cr0 := rfl
@[simp] theorem State.setTlb_cr2 (s : State) (t : List (Nat × TlbEntry)) (l : List Nat) : (s.setTlb t l).cr2 = s.cr2 := rfl
@[simp] theorem State.setTlb_cr3 (s : State) (t : List (Nat × TlbEntry)) (l : List Nat) : (s.setTlb t l).cr3 = s.cr3 := rfl
@[simp] theorem State.setTlb_cr4 (s : State) (t : List (Nat × TlbEntry)) (l : List Nat) : (s.setTlb t l).cr4 = s.cr4 := rfl
@[simp] theorem State.setTlb_cpl (s : State) (t : List (Nat × TlbEntry)) (l : List Nat) : (s.setTlb t l).cpl = s.cpl := rfl
@[simp] theorem State.setTlb_segs (s : State) (t : List (Nat × TlbEntry)) (l : List Nat) : (s.setTlb t l).segs = s.segs := rfl
@[simp] theorem State.setTlb_gdtr (s : State) (t : List (Nat × TlbEntry)) (l : List Nat) : (s.setTlb t l).gdtr = s.gdtr := rfl
@[simp] theorem State.setTlb_idtr (s : State) (t : List (Nat × TlbEntry)) (l : List Nat) : (s.setTlb t l).idtr = s.idtr := rfl
@[simp] theorem State.setTlb_tlb (s : State) (t : List (Nat × TlbEntry)) (l : List Nat) : (s.setTlb t l).tlb = t := rfl
@[simp] theorem State.setTlb_tlbList (s : State) (t : List (Nat × TlbEntry)) (l : List Nat) : (s.setTlb t l).tlbList = l := rfl
@[simp] theorem State.setTlb_halted (s : State) (t : List (Nat × TlbEntry)) (l : List Nat) : (s.setTlb t l).halted = s.halted := rfl
@[simp] theorem State.setTlb_pendingVector (s : State) (t : List (Nat × TlbEntry)) (l : List Nat) : (s.setTlb t l).pendingVector = s.pendingVector := rfl
@[simp] theorem State.setTlb_cycleCount (s : State) (t : List (Nat × TlbEntry)) (l : List Nat) : (s.setTlb t l).cycleCount = s.cycleCount := rfl
@[simp] theorem State.setTlb_aborted (s : State) (t : List (Nat × TlbEntry)) (l : List Nat) : (s.setTlb t l).aborted = s.aborted := rfl
@[simp] theorem State.setTlb_mem (s : State) (t : List (Nat × TlbEntry)) (l : List Nat) : (s.setTlb t l).mem = s.mem := rfl
@[simp] theorem State.setTlb_dec (s : State) (t : List (Nat × TlbEntry)) (l : List Nat) : (s.setTlb t l).dec = s.dec := rfl
@[simp] theorem State.setTlb_memSize (s : State) (t : List (Nat × TlbEntry)) (l : List Nat) : (s.setTlb t l).memSize = s.memSize := rfl
@[simp] theorem State.setTlb_irqLine (s : State) (t : List (Nat × TlbEntry)) (l : List Nat) : (s.setTlb t l).irqLine = s.irqLine := rfl
@[simp] theorem State.setTlb_ports (s : State) (t : List (Nat × TlbEntry)) (l : List Nat) : (s.setTlb t l).ports = s.ports := rfl
@[simp] theorem State.setTlb_history (s : State) (t : List (Nat × TlbEntry)) (l : List Nat) : (s.setTlb t l).history = s.history := rfl
@[simp] theorem State.setTlb_stepFaulted (s : State) (t : List (Nat × TlbEntry)) (l : List Nat) : (s.setTlb t l).stepFaulted = s.stepFaulted := rfl

@[simp] theorem State.setHalted_regs (s : State) (b : Bool) : (s.setHalted b).regs = s.regs := rfl
@[simp] theorem State.setHalted_pc (s : State) (b : Bool) : (s.setHalted b).pc = s.pc := rfl
@[simp] theorem State.setHalted_cc (s : State) (b : Bool) : (s.setHalted b).cc = s.cc := rfl
@[simp] theorem State.setHalted_df (s : State) (b : Bool) : (s.setHalted b).df = s.df := rfl
@[simp] theorem State.setHalted_eflagsSys (s : State) (b : Bool) : (s.setHalted b).eflagsSys = s.eflagsSys := rfl
@[simp] theorem State.setHalted_cr0 (s : State) (b : Bool) : (s.setHalted b).cr0 = s.cr0 := rfl
@[simp] theorem State.setHalted_cr2 (s : State) (b : Bool) : (s.setHalted b).cr2 = s.cr2 := rfl
@[simp] theorem State.setHalted_cr3 (s : State) (b : Bool) : (s.setHalted b).cr3 = s.cr3 := rfl
@[simp] theorem State.setHalted_cr4 (s : State) (b : Bool) : (s.setHalted b).cr4 = s.cr4 := rfl
@[simp] theorem State.setHalted_cpl (s : State) (b : Bool) : (s.setHalted b).cpl = s.cpl := rfl
@[simp] theorem State.setHalted_segs (s : State) (b : Bool) : (s.setHalted b).segs = s.segs := rfl
@[simp] theorem State.setHalted_gdtr (s : State) (b : Bool) : (s.setHalted b).gdtr = s.gdtr := rfl
@[simp] theorem State.setHalted_idtr (s : State) (b : Bool) : (s.setHalted b).idtr = s.idtr := rfl
@[simp] theorem State.setHalted_tlb (s : State) (b : Bool) : (s.setHalted b).tlb = s.tlb := rfl
@[simp] theorem State.setHalted_tlbList (s : State) (b : Bool) : (s.setHalted b).tlbList = s.tlbList := rfl
@[simp] theorem State.setHalted_halted (s : State) (b : Bool) : (s.setHalted b).halted = b := rfl
@[simp] theorem State.setHalted_pendingVector (s : State) (b : Bool) : (s.setHalted b).pendingVector = s.pendingVector := rfl
@[simp] theorem State.setHalted_cycleCount (s : State) (b : Bool) : (s.setHalted b).cycleCount = s.cycleCount := rfl
@[simp] theorem State.setHalted_aborted (s : State) (b : Bool) : (s.setHalted b).aborted = s.aborted := rfl
@[simp] theorem State.setHalted_mem (s : State) (b : Bool) : (s.setHalted b).mem = s.mem := rfl
@[simp] theorem State.setHalted_dec (s : State) (b : Bool) : (s.setHalted b).dec = s.dec := rfl
@[simp] theorem State.setHalted_memSize (s : State) (b : Bool) : (s.setHalted b).memSize = s.memSize := rfl
@[simp] theorem State.setHalted_irqLine (s : State) (b : Bool) : (s.setHalted b).irqLine = s.irqLine := rfl
@[simp] theorem State.setHalted_ports (s : State) (b : Bool) : (s.setHalted b).ports = s.ports := rfl
@[simp] theorem State.setHalted_history (s : State) (b : Bool) : (s.setHalted b).history = s.history := rfl
@[simp] theorem State.setHalted_stepFaulted (s : State) (b : Bool) : (s.setHalted b).stepFaulted = s.stepFaulted := rfl

@[simp] theorem State.setPending_regs (s : State) (v : Option Byte) : (s.setPending v).regs = s.regs := rfl
@[simp] theorem State.setPending_pc (s : State) (v : Option Byte) : (s.setPending v).pc = s.pc := rfl
@[simp] theorem State.setPending_cc (s : State) (v : Option Byte) : (s.setPending v).cc = s.cc := rfl
@[simp] theorem State.setPending_df (s : State) (v : Option Byte) : (s.setPending v).df = s.df := rfl
@[simp] theorem State.setPending_eflagsSys (s : State) (v : Option Byte) : (s.setPending v).eflagsSys = s.eflagsSys := rfl
@[simp] theorem State.setPending_cr0 (s : State) (v : Option Byte) : (s.setPending v).cr0 = s.cr0 := rfl
@[simp] theorem State.setPending_cr2 (s : State) (v : Option Byte) : (s.setPending v).cr2 = s.cr2 := rfl
@[simp] theorem State.setPending_cr3 (s : State) (v : Option Byte) : (s.setPending v).cr3 = s.cr3 := rfl
@[simp] theorem State.setPending_cr4 (s : State) (v : Option Byte) : (s.setPending v).cr4 = s.cr4 := rfl
@[simp] theorem State.setPending_cpl (s : State) (v : Option Byte) : (s.setPending v).cpl = s.cpl := rfl
@[simp] theorem State.setPending_segs (s : State) (v : Option Byte) : (s.setPending v).segs = s.segs := rfl
@[simp] theorem State.setPending_gdtr (s : State) (v : Option Byte) : (s.setPending v).gdtr = s.gdtr := rfl
@[simp] theorem State.setPending_idtr (s : State) (v : Option Byte) : (s.setPending v).idtr = s.idtr := rfl
@[simp] theorem State.setPending_tlb (s : State) (v : Option Byte) : (s.setPending v).tlb = s.tlb := rfl
@[simp] theorem State.setPending_tlbList (s : State) (v : Option Byte) : (s.setPending v).tlbList = s.tlbList := rfl
@[simp] theorem State.setPending_halted (s : State) (v : Option Byte) : (s.setPending v).halted = s.halted := rfl
@[simp] theorem State.setPending_pendingVector (s : State) (v : Option Byte) : (s.setPending v).pendingVector = v := rfl
@[simp] theorem State.setPending_cycleCount (s : State) (v : Option Byte) : (s.setPending v).cycleCount = s.cycleCount := rfl
@[simp] theorem State.setPending_aborted (s : State) (v : Option Byte) : (s.setPending v).aborted = s.aborted := rfl
@[simp] theorem State.setPending_mem (s : State) (v : Option Byte) : (s.setPending v).mem = s.mem := rfl
@[simp] theorem State.setPending_dec (s : State) (v : Option Byte) : (s.setPending v).dec = s.dec := rfl
@[simp] theorem State.setPending_memSize (s : State) (v : Option Byte) : (s.setPending v).memSize = s.memSize := rfl
@[simp] theorem State.setPending_irqLine (s : State) (v : Option Byte) : (s.setPending v).irqLine = s.irqLine := rfl
@[simp] theorem State.setPending_ports (s : State) (v : Option Byte) : (s.setPending v).ports = s.ports := rfl
@[simp] theorem State.setPending_history (s : State) (v : Option Byte) : (s.setPending v).history = s.history := rfl
@[simp] theorem State.setPending_stepFaulted (s : State) (v : Option Byte) : (s.setPending v).stepFaulted = s.stepFaulted := rfl

@[simp] theorem State.setCycle_regs (s : State) (n : BitVec 64) : (s.setCycle n).regs = s.regs := rfl
@[simp] theorem State.setCycle_pc (s : State) (n : BitVec 64) : (s.setCycle n).pc = s.pc := rfl
@[simp] theorem State.setCycle_cc (s : State) (n : BitVec 64) : (s.setCycle n).cc = s.cc := rfl
@[simp] theorem State.setCycle_df (s : State) (n : BitVec 64) : (s.setCycle n).df = s.df := rfl
@[simp] theorem State.setCycle_eflagsSys (s : State) (n : BitVec 64) : (s.setCycle n).eflagsSys = s.eflagsSys := rfl
@[simp] theorem State.setCycle_cr0 (s : State) (n : BitVec 64) : (s.setCycle n).cr0 = s.cr0 := rfl
@[simp] theorem State.setCycle_cr2 (s : State) (n : BitVec 64) : (s.setCycle n).cr2 = s.cr2 := rfl
@[simp] theorem State.setCycle_cr3 (s : State) (n : BitVec 64) : (s.setCycle n).cr3 = s.cr3 := rfl
@[simp] theorem State.setCycle_cr4 (s : State) (n : BitVec 64) : (s.setCycle n).cr4 = s.cr4 := rfl
@[simp] theorem State.setCycle_cpl (s : State) (n : BitVec 64) : (s.setCycle n).cpl = s.cpl := rfl
@[simp] theorem State.setCycle_segs (s : State) (n : BitVec 64) : (s.setCycle n).segs = s.segs := rfl
@[simp] theorem State.setCycle_gdtr (s : State) (n : BitVec 64) : (s.setCycle n).gdtr = s.gdtr := rfl
@[simp] theorem State.setCycle_idtr (s : State) (n : BitVec 64) : (s.setCycle n).idtr = s.idtr := rfl
@[simp] theorem State.setCycle_tlb (s : State) (n : BitVec 64) : (s.setCycle n).tlb = s.tlb := rfl
@[simp] theorem State.setCycle_tlbList (s : State) (n : BitVec 64) : (s.setCycle n).tlbList = s.tlbList := rfl
@[simp] theorem State.setCycle_halted (s : State) (n : BitVec 64) : (s.setCycle n).halted = s.halted := rfl
@[simp] theorem State.setCycle_pendingVector (s : State) (n : BitVec 64) : (s.setCycle n).pendingVector = s.pendingVector := rfl
@[simp] theorem State.setCycle_cycleCount (s : State) (n : BitVec 64) : (s.setCycle n).cycleCount = n := rfl
@[simp] theorem State.setCycle_aborted (s : State) (n : BitVec 64) : (s.setCycle n).aborted = s.aborted := rfl
@[simp] theorem State.setCycle_mem (s : State) (n : BitVec 64) : (s.setCycle n).mem = s.mem := rfl
@[simp] theorem State.setCycle_dec (s : State) (n : BitVec 64) : (s.setCycle n).dec = s.dec := rfl
@[simp] theorem State.setCycle_memSize (s : State) (n : BitVec 64) : (s.setCycle n).memSize = s.memSize := rfl
@[simp] theorem State.setCycle_irqLine (s : State) (n : BitVec 64) : (s.setCycle n).irqLine = s.irqLine := rfl
@[simp] theorem State.setCycle_ports (s : State) (n : BitVec 64) : (s.setCycle n).ports = s.ports := rfl
@[simp] theorem State.setCycle_history (s : State) (n : BitVec 64) : (s.setCycle n).history = s.history := rfl
@[simp] theorem State.setCycle_stepFaulted (s : State) (n : BitVec 64) : (s.setCycle n).stepFaulted = s.stepFaulted := rfl

@[simp] theorem State.setAborted_regs (s : State) (r : AbortReason) : (s.setAborted r).regs = s.regs := rfl
@[simp] theorem State.setAborted_pc (s : State) (r : AbortReason) : (s.setAborted r).pc = s.pc := rfl
@[simp] theorem State.setAborted_cc (s : State) (r : AbortReason) : (s.setAborted r).cc = s.cc := rfl
@[simp] theorem State.setAborted_df (s : State) (r : AbortReason) : (s.setAborted r).df = s.df := rfl
@[simp] theorem State.setAborted_eflagsSys (s : State) (r : AbortReason) : (s.setAborted r).eflagsSys = s.eflagsSys := rfl
@[simp] theorem State.setAborted_cr0 (s : State) (r : AbortReason) : (s.setAborted r).cr0 = s.cr0 := rfl
@[simp] theorem State.setAborted_cr2 (s : State) (r : AbortReason) : (s.setAborted r).cr2 = s.cr2 := rfl
@[simp] theorem State.setAborted_cr3 (s : State) (r : AbortReason) : (s.setAborted r).cr3 = s.cr3 := rfl
@[simp] theorem State.setAborted_cr4 (s : State) (r : AbortReason) : (s.setAborted r).cr4 = s.cr4 := rfl
@[simp] theorem State.setAborted_cpl (s : State) (r : AbortReason) : (s.setAborted r).cpl = s.cpl := rfl
@[simp] theorem State.setAborted_segs (s : State) (r : AbortReason) : (s.setAborted r).segs = s.segs := rfl
@[simp] theorem State.setAborted_gdtr (s : State) (r : AbortReason) : (s.setAborted r).gdtr = s.gdtr := rfl
@[simp] theorem State.setAborted_idtr (s : State) (r : AbortReason) : (s.setAborted r).idtr = s.idtr := rfl
@[simp] theorem State.setAborted_tlb (s : State) (r : AbortReason) : (s.setAborted r).tlb = s.tlb := rfl
@[simp] theorem State.setAborted_tlbList (s : State) (r : AbortReason) : (s.setAborted r).tlbList = s.tlbList := rfl
@[simp] theorem State.setAborted_halted (s : State) (r : AbortReason) : (s.setAborted r).halted = s.halted := rfl
@[simp] theorem State.setAborted_pendingVector (s : State) (r : AbortReason) : (s.setAborted r).pendingVector = s.pendingVector := rfl
@[simp] theorem State.setAborted_cycleCount (s : State) (r : AbortReason) : (s.setAborted r).cycleCount = s.cycleCount := rfl
@[simp] theorem State.setAborted_aborted (s : State) (r : AbortReason) : (s.setAborted r).aborted = some r := rfl
@[simp] theorem State.setAborted_mem (s : State) (r : AbortReason) : (s.setAborted r).mem = s.mem := rfl
@[simp] theorem State.setAborted_dec (s : State) (r : AbortReason) : (s.setAborted r).dec = s.dec := rfl
@[simp] theorem State.setAborted_memSize (s : State) (r : AbortReason) : (s.setAborted r).memSize = s.memSize := rfl
@[simp] theorem State.setAborted_irqLine (s : State) (r : AbortReason) : (s.setAborted r).irqLine = s.irqLine := rfl
@[simp] theorem State.setAborted_ports (s : State) (r : AbortReason) : (s.setAborted r).ports = s.ports := rfl
@[simp] theorem State.setAborted_history (s : State) (r : AbortReason) : (s.setAborted r).history = s.history := rfl
@[simp] theorem State.setAborted_stepFaulted (s : State) (r : AbortReason) : (s.setAborted r).stepFaulted = s.stepFaulted := rfl

@[simp] theorem State.setMem_regs (s : State) (m : List Host.Cell) : (s.setMem m).regs = s.regs := rfl
@[simp] theorem State.setMem_pc (s : State) (m : List Host.Cell) : (s.setMem m).pc = s.pc := rfl
@[simp] theorem State.setMem_cc (s : State) (m : List Host.Cell) : (s.setMem m).cc = s.cc := rfl
@[simp] theorem State.setMem_df (s : State) (m : List Host.Cell) : (s.setMem m).df = s.df := rfl
@[simp] theorem State.setMem_eflagsSys (s : State) (m : List Host.Cell) : (s.setMem m).eflagsSys = s.eflagsSys := rfl
@[simp] theorem State.setMem_cr0 (s : State) (m : List Host.Cell) : (s.setMem m).cr0 = s.cr0 := rfl
@[simp] theorem State.setMem_cr2 (s : State) (m : List Host.Cell) : (s.setMem m).cr2 = s.cr2 := rfl
@[simp] theorem State.setMem_cr3 (s : State) (m : List Host.Cell) : (s.setMem m).cr3 = s.cr3 := rfl
@[simp] theorem State.setMem_cr4 (s : State) (m : List Host.Cell) : (s.setMem m).cr4 = s.cr4 := rfl
@[simp] theorem State.setMem_cpl (s : State) (m : List Host.Cell) : (s.setMem m).cpl = s.cpl := rfl
@[simp] theorem State.setMem_segs (s : State) (m : List Host.Cell) : (s.setMem m).segs = s.segs := rfl
@[simp] theorem State.setMem_gdtr (s : State) (m : List Host.Cell) : (s.setMem m).gdtr = s.gdtr := rfl
@[simp] theorem State.setMem_idtr (s : State) (m : List Host.Cell) : (s.setMem m).idtr = s.idtr := rfl
@[simp] theorem State.setMem_tlb (s : State) (m : List Host.Cell) : (s.setMem m).tlb = s.tlb := rfl
@[simp] theorem State.setMem_tlbList (s : State) (m : List Host.Cell) : (s.setMem m).tlbList = s.tlbList := rfl
@[simp] theorem State.setMem_halted (s : State) (m : List Host.Cell) : (s.setMem m).halted = s.halted := rfl
@[simp] theorem State.setMem_pendingVector (s : State) (m : List Host.Cell) : (s.setMem m).pendingVector = s.pendingVector := rfl
@[simp] theorem State.setMem_cycleCount (s : State) (m : List Host.Cell) : (s.setMem m).cycleCount = s.cycleCount := rfl
@[simp] theorem State.setMem_aborted (s : State) (m : List Host.Cell) : (s.setMem m).aborted = s.aborted := rfl
@[simp] theorem State.setMem_mem (s : State) (m : List Host.Cell) : (s.setMem m).mem = m := rfl
@[simp] theorem State.setMem_dec (s : State) (m : List Host.Cell) : (s.setMem m).dec = s.dec := rfl
@[simp] theorem State.setMem_memSize (s : State) (m : List Host.Cell) : (s.setMem m).memSize = s.memSize := rfl
@[simp] theorem State.setMem_irqLine (s : State) (m : List Host.Cell) : (s.setMem m).irqLine = s.irqLine := rfl
@[simp] theorem State.setMem_ports (s : State) (m : List Host.Cell) : (s.setMem m).ports = s.ports := rfl
@[simp] theorem State.setMem_history (s : State) (m : List Host.Cell) : (s.setMem m).history = s.history := rfl
@[simp] theorem State.setMem_stepFaulted (s : State) (m : List Host.Cell) : (s.setMem m).stepFaulted = s.stepFaulted := rfl

@[simp] theorem State.setDec_regs (s : State) (d : DecodeState) : (s.setDec d).regs = s.regs := rfl
@[simp] theorem State.setDec_pc (s : State) (d : DecodeState) : (s.setDec d).pc = s.pc := rfl
@[simp] theorem State.setDec_cc (s : State) (d : DecodeState) : (s.setDec d).cc = s.cc := rfl
@[simp] theorem State.setDec_df (s : State) (d : DecodeState) : (s.setDec d).df = s.df := rfl
@[simp] theorem State.setDec_eflagsSys (s : State) (d : DecodeState) : (s.setDec d).eflagsSys = s.eflagsSys := rfl
@[simp] theorem State.setDec_cr0 (s : State) (d : DecodeState) : (s.setDec d).cr0 = s.cr0 := rfl
@[simp] theorem State.setDec_cr2 (s : State) (d : DecodeState) : (s.setDec d).cr2 = s.cr2 := rfl
@[simp] theorem State.setDec_cr3 (s : State) (d : DecodeState) : (s.setDec d).cr3 = s.cr3 := rfl
@[simp] theorem State.setDec_cr4 (s : State) (d : DecodeState) : (s.setDec d).cr4 = s.cr4 := rfl
@[simp] theorem State.setDec_cpl (s : State) (d : DecodeState) : (s.setDec d).cpl = s.cpl := rfl
@[simp] theorem State.setDec_segs (s : State) (d : DecodeState) : (s.setDec d).segs = s.segs := rfl
@[simp] theorem State.setDec_gdtr (s : State) (d : DecodeState) : (s.setDec d).gdtr = s.gdtr := rfl
@[simp] theorem State.setDec_idtr (s : State) (d : DecodeState) : (s.setDec d).idtr = s.idtr := rfl
@[simp] theorem State.setDec_tlb (s : State) (d : DecodeState) : (s.setDec d).tlb = s.tlb := rfl
@[simp] theorem State.setDec_tlbList (s : State) (d : DecodeState) : (s.setDec d).tlbList = s.tlbList := rfl
@[simp] theorem State.setDec_halted (s : State) (d : DecodeState) : (s.setDec d).halted = s.halted := rfl
@[simp] theorem State.setDec_pendingVector (s : State) (d : DecodeState) : (s.setDec d).pendingVector = s.pendingVector := rfl
@[simp] theorem State.setDec_cycleCount (s : State) (d : DecodeState) : (s.setDec d).cycleCount = s.cycleCount := rfl
@[simp] theorem State.setDec_aborted (s : State) (d : DecodeState) : (s.setDec d).aborted = s.aborted := rfl
@[simp] theorem State.setDec_mem (s : State) (d : DecodeState) : (s.setDec d).mem = s.mem := rfl
@[simp] theorem State.setDec_dec (s : State) (d : DecodeState) : (s.setDec d).dec = d := rfl
@[simp] theorem State.setDec_memSize (s : State) (d : DecodeState) : (s.setDec d).memSize = s.memSize := rfl
@[simp] theorem State.setDec_irqLine (s : State) (d : DecodeState) : (s.setDec d).irqLine = s.irqLine := rfl
@[simp] theorem State.setDec_ports (s : State) (d : DecodeState) : (s.setDec d).ports = s.ports := rfl
@[simp] theorem State.setDec_history (s : State) (d : DecodeState) : (s.setDec d).history = s.history := rfl
@[simp] theorem State.setDec_stepFaulted (s : State) (d : DecodeState) : (s.setDec d).stepFaulted = s.stepFaulted := rfl

@[simp] theorem State.setStepFaulted_regs (s : State) (b : Bool) : (s.setStepFaulted b).regs = s.regs := rfl
@[simp] theorem State.setStepFaulted_pc (s : State) (b : Bool) : (s.setStepFaulted b).pc = s.pc := rfl
@[simp] theorem State.setStepFaulted_cc (s : State) (b : Bool) : (s.setStepFaulted b).cc = s.cc := rfl
@[simp] theorem State.setStepFaulted_df (s : State) (b : Bool) : (s.setStepFaulted b).df = s.df := rfl
@[simp] theorem State.setStepFaulted_eflagsSys (s : State) (b : Bool) : (s.setStepFaulted b).eflagsSys = s.eflagsSys := rfl
@[simp] theorem State.setStepFaulted_cr0 (s : State) (b : Bool) : (s.setStepFaulted b).cr0 = s.cr0 := rfl
@[simp] theorem State.setStepFaulted_cr2 (s : State) (b : Bool) : (s.setStepFaulted b).cr2 = s.cr2 := rfl
@[simp] theorem State.setStepFaulted_cr3 (s : State) (b : Bool) : (s.setStepFaulted b).cr3 = s.cr3 := rfl
@[simp] theorem State.setStepFaulted_cr4 (s : State) (b : Bool) : (s.setStepFaulted b).cr4 = s.cr4 := rfl
@[simp] theorem State.setStepFaulted_cpl (s : State) (b : Bool) : (s.setStepFaulted b).cpl = s.cpl := rfl
@[simp] theorem State.setStepFaulted_segs (s : State) (b : Bool) : (s.setStepFaulted b).segs = s.segs := rfl
@[simp] theorem State.setStepFaulted_gdtr (s : State) (b : Bool) : (s.setStepFaulted b).gdtr = s.gdtr := rfl
@[simp] theorem State.setStepFaulted_idtr (s : State) (b : Bool) : (s.setStepFaulted b).idtr = s.idtr := rfl
@[simp] theorem State.setStepFaulted_tlb (s : State) (b : Bool) : (s.setStepFaulted b).tlb = s.tlb := rfl
@[simp] theorem State.setStepFaulted_tlbList (s : State) (b : Bool) : (s.setStepFaulted b).tlbList = s.tlbList := rfl
@[simp] theorem State.setStepFaulted_halted (s : State) (b : Bool) : (s.setStepFaulted b).halted = s.halted := rfl
@[simp] theorem State.setStepFaulted_pendingVector (s : State) (b : Bool) : (s.setStepFaulted b).pendingVector = s.pendingVector := rfl
@[simp] theorem State.setStepFaulted_cycleCount (s : State) (b : Bool) : (s.setStepFaulted b).cycleCount = s.cycleCount := rfl
@[simp] theorem State.setStepFaulted_aborted (s : State) (b : Bool) : (s.setStepFaulted b).aborted = s.aborted := rfl
@[simp] theorem State.setStepFaulted_mem (s : State) (b : Bool) : (s.setStepFaulted b).mem = s.mem := rfl
@[simp] theorem State.setStepFaulted_dec (s : State) (b : Bool) : (s.setStepFaulted b).dec = s.dec := rfl
@[simp] theorem State.setStepFaulted_memSize (s : State) (b : Bool) : (s.setStepFaulted b).memSize = s.memSize := rfl
@[simp] theorem State.setStepFaulted_irqLine (s : State) (b : Bool) : (s.setStepFaulted b).irqLine = s.irqLine := rfl
@[simp] theorem State.setStepFaulted_ports (s : State) (b : Bool) : (s.setStepFaulted b).ports = s.ports := rfl
@[simp] theorem State.setStepFaulted_history (s : State) (b : Bool) : (s.setStepFaulted b).history = s.history := rfl
@[simp] theorem State.setStepFaulted_stepFaulted (s : State) (b : Bool) : (s.setStepFaulted b).stepFaulted = b := rfl

@[simp] theorem State.setPlatform_regs (s : State) (h : List PlatEvent) (line : Bool) : (s.setPlatform h line).regs = s.regs := rfl
@[simp] theorem State.setPlatform_pc (s : State) (h : List PlatEvent) (line : Bool) : (s.setPlatform h line).pc = s.pc := rfl
@[simp] theorem State.setPlatform_cc (s : State) (h : List PlatEvent) (line : Bool) : (s.setPlatform h line).cc = s.cc := rfl
@[simp] theorem State.setPlatform_df (s : State) (h : List PlatEvent) (line : Bool) : (s.setPlatform h line).df = s.df := rfl
@[simp] theorem State.setPlatform_eflagsSys (s : State) (h : List PlatEvent) (line : Bool) : (s.setPlatform h line).eflagsSys = s.eflagsSys := rfl
@[simp] theorem State.setPlatform_cr0 (s : State) (h : List PlatEvent) (line : Bool) : (s.setPlatform h line).cr0 = s.cr0 := rfl
@[simp] theorem State.setPlatform_cr2 (s : State) (h : List PlatEvent) (line : Bool) : (s.setPlatform h line).cr2 = s.cr2 := rfl
@[simp] theorem State.setPlatform_cr3 (s : State) (h : List PlatEvent) (line : Bool) : (s.setPlatform h line).cr3 = s.cr3 := rfl
@[simp] theorem State.setPlatform_cr4 (s : State) (h : List PlatEvent) (line : Bool) : (s.setPlatform h line).cr4 = s.cr4 := rfl
@[simp] theorem State.setPlatform_cpl (s : State) (h : List PlatEvent) (line : Bool) : (s.setPlatform h line).cpl = s.cpl := rfl
@[simp] theorem State.setPlatform_segs (s : State) (h : List PlatEvent) (line : Bool) : (s.setPlatform h line).segs = s.segs := rfl
@[simp] theorem State.setPlatform_gdtr (s : State) (h : List PlatEvent) (line : Bool) : (s.setPlatform h line).gdtr = s.gdtr := rfl
@[simp] theorem State.setPlatform_idtr (s : State) (h : List PlatEvent) (line : Bool) : (s.setPlatform h line).idtr = s.idtr := rfl
@[simp] theorem State.setPlatform_tlb (s : State) (h : List PlatEvent) (line : Bool) : (s.setPlatform h line).tlb = s.tlb := rfl
@[simp] theorem State.setPlatform_tlbList (s : State) (h : List PlatEvent) (line : Bool) : (s.setPlatform h line).tlbList = s.tlbList := rfl
@[simp] theorem State.setPlatform_halted (s : State) (h : List PlatEvent) (line : Bool) : (s.setPlatform h line).halted = s.halted := rfl
@[simp] theorem State.setPlatform_pendingVector (s : State) (h : List PlatEvent) (line : Bool) : (s.setPlatform h line).pendingVector = s.pendingVector := rfl
@[simp] theorem State.setPlatform_cycleCount (s : State) (h : List PlatEvent) (line : Bool) : (s.setPlatform h line).cycleCount = s.cycleCount := rfl
@[simp] theorem State.setPlatform_aborted (s : State) (h : List PlatEvent) (line : Bool) : (s.setPlatform h line).aborted = s.aborted := rfl
@[simp] theorem State.setPlatform_mem (s : State) (h : List PlatEvent) (line : Bool) : (s.setPlatform h line).mem = s.mem := rfl
@[simp] theorem State.setPlatform_dec (s : State) (h : List PlatEvent) (line : Bool) : (s.setPlatform h line).dec = s.dec := rfl
@[simp] theorem State.setPlatform_memSize (s : State) (h : List PlatEvent) (line : Bool) : (s.setPlatform h line).memSize = s.memSize := rfl
@[simp] theorem State.setPlatform_irqLine (s : State) (h : List PlatEvent) (line : Bool) : (s.setPlatform h line).irqLine = line := rfl
@[simp] theorem State.setPlatform_ports (s : State) (h : List PlatEvent) (line : Bool) : (s.setPlatform h line).ports = s.ports := rfl
@[simp] theorem State.setPlatform_history (s : State) (h : List PlatEvent) (line : Bool) : (s.setPlatform h line).history = h := rfl
@[simp] theorem State.setPlatform_stepFaulted (s : State) (h : List PlatEvent) (line : Bool) : (s.setPlatform h line).stepFaulted = s.stepFaulted := rfl

/-! ### Registers -/

/-- A register reads what was written to it. -/
@[simp] theorem Regs.get_set_self (g : Regs) (r : Reg) (v : W32) : (g.set r v).get r = v := by cases r <;> rfl

/-- A register is unchanged by a write of another. -/
theorem Regs.get_set_other (g : Regs) {r q : Reg} (v : W32) (h : q ≠ r) : (g.set r v).get q = g.get q := by
  cases r <;> cases q <;> first | rfl | exact absurd rfl h

/-- Writing a register twice leaves the second value. -/
@[simp] theorem Regs.set_set (g : Regs) (r : Reg) (v u : W32) : (g.set r v).set r u = g.set r u := by cases r <;> rfl

/-- A 32-bit operand is the whole register. -/
@[simp] theorem Regs.read_w32 (g : Regs) (r : Reg) : g.read .w32 r = g.get r := rfl

/-- A 32-bit write replaces the whole register. -/
@[simp] theorem Regs.write_w32 (g : Regs) (r : Reg) (v : W32) : g.write .w32 r v = g.set r v := rfl

/-- A write at any width changes one of the eight registers, the home of the operand. -/
theorem Regs.write_get_other (g : Regs) (w : Width) (r q : Reg) (v : W32) (h : q ≠ (match w with | .w8 => byteHome r | _ => r)) :
    (g.write w r v).get q = g.get q := by
  cases w with
  | w8 => unfold Regs.write; dsimp only; cases byteHigh r <;> exact Regs.get_set_other g _ h
  | w16 => exact Regs.get_set_other g _ h
  | w32 => exact Regs.get_set_other g _ h

/-! ### Segment registers -/

/-- A segment register reads what was written to it. -/
@[simp] theorem Segs.get_set_self (g : Segs) (n : Sreg) (r : SegReg) : (g.set n r).get n = r := by cases n <;> rfl

/-- A segment register is unchanged by a write of another. -/
theorem Segs.get_set_other (g : Segs) {n k : Sreg} (r : SegReg) (h : k ≠ n) : (g.set n r).get k = g.get k := by
  cases n <;> cases k <;> first | rfl | exact absurd rfl h

/-- LDTR is changed by a write of LDTR alone. -/
theorem Segs.set_ldtr (g : Segs) {n : Sreg} (r : SegReg) (h : n ≠ .ldtr) : (g.set n r).ldtr = g.ldtr := by
  cases n <;> first | rfl | exact absurd rfl h

/-- TR is changed by a write of TR alone. -/
theorem Segs.set_tr (g : Segs) {n : Sreg} (r : SegReg) (h : n ≠ .tr) : (g.set n r).tr = g.tr := by
  cases n <;> first | rfl | exact absurd rfl h

/-- CS is changed by a write of CS alone. -/
theorem Segs.set_cs (g : Segs) {n : Sreg} (r : SegReg) (h : n ≠ .cs) : (g.set n r).cs = g.cs := by
  cases n <;> first | rfl | exact absurd rfl h

/-! ### Flags -/

@[simp] theorem flagsWrite_regs (s : State) (v m : W32) : (flagsWrite s v m).regs = s.regs := rfl
@[simp] theorem flagsWrite_pc (s : State) (v m : W32) : (flagsWrite s v m).pc = s.pc := rfl
@[simp] theorem flagsWrite_cc (s : State) (v m : W32) : (flagsWrite s v m).cc = s.cc.setImage v := rfl
@[simp] theorem flagsWrite_df (s : State) (v m : W32) : (flagsWrite s v m).df = v.getLsbD 10 := rfl
@[simp] theorem flagsWrite_eflagsSys (s : State) (v m : W32) : (flagsWrite s v m).eflagsSys = (s.eflagsSys &&& ~~~m) ||| (v &&& m) := rfl
@[simp] theorem flagsWrite_cr0 (s : State) (v m : W32) : (flagsWrite s v m).cr0 = s.cr0 := rfl
@[simp] theorem flagsWrite_cr2 (s : State) (v m : W32) : (flagsWrite s v m).cr2 = s.cr2 := rfl
@[simp] theorem flagsWrite_cr3 (s : State) (v m : W32) : (flagsWrite s v m).cr3 = s.cr3 := rfl
@[simp] theorem flagsWrite_cr4 (s : State) (v m : W32) : (flagsWrite s v m).cr4 = s.cr4 := rfl
@[simp] theorem flagsWrite_cpl (s : State) (v m : W32) : (flagsWrite s v m).cpl = s.cpl := rfl
@[simp] theorem flagsWrite_segs (s : State) (v m : W32) : (flagsWrite s v m).segs = s.segs := rfl
@[simp] theorem flagsWrite_gdtr (s : State) (v m : W32) : (flagsWrite s v m).gdtr = s.gdtr := rfl
@[simp] theorem flagsWrite_idtr (s : State) (v m : W32) : (flagsWrite s v m).idtr = s.idtr := rfl
@[simp] theorem flagsWrite_tlb (s : State) (v m : W32) : (flagsWrite s v m).tlb = s.tlb := rfl
@[simp] theorem flagsWrite_tlbList (s : State) (v m : W32) : (flagsWrite s v m).tlbList = s.tlbList := rfl
@[simp] theorem flagsWrite_halted (s : State) (v m : W32) : (flagsWrite s v m).halted = s.halted := rfl
@[simp] theorem flagsWrite_pendingVector (s : State) (v m : W32) : (flagsWrite s v m).pendingVector = s.pendingVector := rfl
@[simp] theorem flagsWrite_cycleCount (s : State) (v m : W32) : (flagsWrite s v m).cycleCount = s.cycleCount := rfl
@[simp] theorem flagsWrite_aborted (s : State) (v m : W32) : (flagsWrite s v m).aborted = s.aborted := rfl
@[simp] theorem flagsWrite_mem (s : State) (v m : W32) : (flagsWrite s v m).mem = s.mem := rfl
@[simp] theorem flagsWrite_dec (s : State) (v m : W32) : (flagsWrite s v m).dec = s.dec := rfl
@[simp] theorem flagsWrite_memSize (s : State) (v m : W32) : (flagsWrite s v m).memSize = s.memSize := rfl
@[simp] theorem flagsWrite_irqLine (s : State) (v m : W32) : (flagsWrite s v m).irqLine = s.irqLine := rfl
@[simp] theorem flagsWrite_ports (s : State) (v m : W32) : (flagsWrite s v m).ports = s.ports := rfl
@[simp] theorem flagsWrite_history (s : State) (v m : W32) : (flagsWrite s v m).history = s.history := rfl
@[simp] theorem flagsWrite_stepFaulted (s : State) (v m : W32) : (flagsWrite s v m).stepFaulted = s.stepFaulted := rfl

@[simp] theorem State.deliveryFlags_eq (s : State) (b : Bool) :
    s.deliveryFlags b = s.setSys (s.eflagsSys &&& ~~~(0x00004100#32 ||| atBit b 9)) := rfl

end Sys2Proof.Machine
end

