-- ==== Sys2Proof/Laws/Effects.lean ====
section
/-! SUPPORT. What a rule in progress keeps. A property that a handful of basic updates keep is kept by every shared
operation built from them, whether the operation completes or stops; each operation's lemma is proved here once. -/

namespace Sys2Proof.Machine

variable {α β : Type} {P : State → Prop}

/-- The property holds of every state the rule can leave. -/
def Keeps (P : State → Prop) (m : M α) : Prop :=
  ∀ s, P s → (∀ a t, m s = .ok a t → P t) ∧ ∀ e t, m s = .error e t → P t

theorem Keeps.of_ok {m : M α} (h : Keeps P m) {s t : State} {a : α} (hs : P s) (hm : m s = .ok a t) : P t :=
  (h s hs).1 a t hm

theorem Keeps.of_error {m : M α} (h : Keeps P m) {s t : State} {e : Stop} (hs : P s) (hm : m s = .error e t) : P t :=
  (h s hs).2 e t hm

theorem keeps_pure (a : α) : Keeps P (pure a : M α) := fun s hs =>
  ⟨fun b t h => (by cases h; exact hs), fun e t h => (by cases h)⟩

theorem keeps_raise (e : Exc) : Keeps P (raise e : M α) := fun s hs =>
  ⟨fun b t h => (by cases h), fun x t h => (by cases h; exact hs)⟩

theorem keeps_abort (r : AbortReason) : Keeps P (abort r : M α) := fun s hs =>
  ⟨fun b t h => (by cases h), fun x t h => (by cases h; exact hs)⟩

theorem keeps_raiseIf (c : Bool) (e : Exc) : Keeps P (raiseIf c e) := by
  cases c
  · exact keeps_pure ()
  · exact keeps_raise e

theorem keeps_upd {f : State → State} (h : ∀ s, P s → P (f s)) : Keeps P (upd f) := fun s hs =>
  ⟨fun b t ht => (by cases ht; exact h s hs), fun x t ht => (by cases ht)⟩

theorem keeps_bind {m : M α} {f : α → M β} (hm : Keeps P m) (hf : ∀ a, Keeps P (f a)) : Keeps P (m >>= f) :=
  fun s hs =>
    ⟨fun b t h => by
      obtain ⟨a, u, h1, h2⟩ := bind_ok_iff.mp h
      exact (hf a).of_ok (hm.of_ok hs h1) h2,
    fun x t h => by
      rcases bind_error_iff.mp h with h | ⟨a, u, h1, h2⟩
      · exact hm.of_error hs h
      · exact (hf a).of_error (hm.of_ok hs h1) h2⟩

/-- The chain after reading the state: what follows is known to start in that very state. -/
theorem keeps_get_bind {f : State → M β}
    (hf : ∀ s, P s → (∀ a t, f s s = .ok a t → P t) ∧ ∀ e t, f s s = .error e t → P t) :
    Keeps P ((get : M State) >>= f) := fun s hs => hf s hs

theorem keeps_get_any {f : State → M β} (hf : ∀ s, Keeps P (f s)) : Keeps P ((get : M State) >>= f) :=
  keeps_get_bind fun s hs => hf s s hs

/-- The same, keeping what is known of the state that was read. -/
theorem keeps_get_of {f : State → M β} (hf : ∀ s, P s → Keeps P (f s)) : Keeps P ((get : M State) >>= f) :=
  keeps_get_bind fun s hs => hf s hs s hs

theorem keeps_cond {c : Bool} {x y : M α} (hx : c = true → Keeps P x) (hy : c = false → Keeps P y) :
    Keeps P (bif c then x else y) := by
  cases c
  · exact hy rfl
  · exact hx rfl

/-! ### Memory and the TLB -/

/-- The updates a translation or a memory access makes. -/
structure WalkClosed (P : State → Prop) : Prop where
  cr2 : ∀ s v, P s → P (s.setCr2 v)
  byte : ∀ (s : State) (a : W32) (b : Byte), s.inMem a = true → P s → P (s.setMem (memWrite s.mem a.toNat b))
  insert : ∀ (s : State) (la : W32) (e : TlbEntry), P s → P (s.tlbInsert (vpnOf la) e)

theorem storeBytes_keeps (hP : WalkClosed P) (as : List W32) (bs : List Byte) :
    ∀ s : State, as.all s.inMem = true → P s → P (s.storeBytes as bs) := by
  induction as generalizing bs with
  | nil => intro s _ hs; exact hs
  | cons a as ih =>
    intro s ha hs
    cases bs with
    | nil => exact hs
    | cons b bs =>
      simp only [List.all_cons, Bool.and_eq_true] at ha
      exact ih bs _ ha.2 (hP.byte s a b ha.1 hs)

theorem keeps_physReadAt (as : List W32) : Keeps P (physReadAt as) :=
  keeps_get_any fun _ => keeps_cond (fun _ => keeps_pure _) fun _ => keeps_abort _

theorem keeps_physRead (pa : W32) (n : Nat) : Keeps P (physRead pa n) := keeps_physReadAt _

theorem keeps_physWrite (hP : WalkClosed P) (pa : W32) (n : Nat) (v : W32) : Keeps P (physWrite pa n v) := by
  refine keeps_get_bind fun s hs => ?_
  cases h : (addrsFrom n pa).all s.inMem
  · refine ⟨fun a t ht => ?_, fun e t ht => ?_⟩
    · rw [run_cond, cond_false] at ht; cases ht
    · rw [run_cond, cond_false] at ht; cases ht; exact hs
  · refine ⟨fun a t ht => ?_, fun e t ht => ?_⟩
    · rw [run_cond, cond_true] at ht; cases ht; exact storeBytes_keeps hP _ _ s h hs
    · rw [run_cond, cond_true] at ht; cases ht

theorem keeps_physWriteEach (hP : WalkClosed P) (as : List W32) (bs : List Byte) : Keeps P (physWriteEach as bs) := by
  induction as generalizing bs with
  | nil => exact keeps_pure ()
  | cons a as ih =>
    cases bs with
    | nil => exact keeps_pure ()
    | cons b bs => exact keeps_bind (keeps_physWrite hP _ _ _) fun _ => ih bs

theorem keeps_pageFault (hP : WalkClosed P) (la : W32) (present : Bool) (kind : Access) (user : Bool) :
    Keeps P (pageFault la present kind user : M α) :=
  keeps_bind (keeps_upd fun s => hP.cr2 s la) fun _ => keeps_raise _

theorem keeps_walkTables (hP : WalkClosed P) (la : W32) (kind : Access) (user : Bool) :
    Keeps P (walkTables la kind user) := by
  refine keeps_get_any fun s => keeps_bind (keeps_physRead _ _) fun pde => ?_
  refine keeps_cond (fun _ => keeps_pageFault hP _ _ _ _) fun _ => ?_
  refine keeps_bind (keeps_cond (fun _ => keeps_physWrite hP _ _ _) fun _ => keeps_pure _) fun _ => ?_
  refine keeps_bind (keeps_physRead _ _) fun pte => ?_
  refine keeps_cond (fun _ => keeps_pageFault hP _ _ _ _) fun _ => ?_
  refine keeps_cond (fun _ => keeps_pageFault hP _ _ _ _) fun _ => ?_
  refine keeps_cond (fun _ => keeps_pageFault hP _ _ _ _) fun _ => ?_
  refine keeps_bind (keeps_cond (fun _ => keeps_physWrite hP _ _ _) fun _ => keeps_pure _) fun _ => ?_
  exact keeps_bind (keeps_upd fun s => hP.insert s la _) fun _ => keeps_pure _

theorem keeps_walk (hP : WalkClosed P) (la : W32) (kind : Access) (user : Bool) : Keeps P (walk la kind user) :=
  keeps_get_any fun _ => keeps_cond (fun _ => keeps_walkTables hP _ _ _) fun _ =>
    keeps_bind (keeps_upd fun s => hP.insert s la _) fun _ => keeps_pure _

theorem keeps_translatePage (hP : WalkClosed P) (la : W32) (kind : Access) (user : Bool) :
    Keeps P (translatePage la kind user) := by
  refine keeps_get_any fun s => ?_
  cases s.tlbAt kind user (vpnOf la) with
  | some p => exact keeps_pure p
  | none => exact keeps_walk hP _ _ _

theorem keeps_translate (hP : WalkClosed P) (la : W32) (kind : Access) (user : Bool) :
    Keeps P (translate la kind user) := keeps_bind (keeps_translatePage hP _ _ _) fun _ => keeps_pure _

theorem keeps_translateSpan (hP : WalkClosed P) (la : W32) (n : Nat) (kind : Access) (user : Bool) :
    Keeps P (translateSpan la n kind user) :=
  keeps_bind (keeps_translatePage hP _ _ _) fun _ =>
    keeps_cond (fun _ => keeps_pure _) fun _ =>
      keeps_bind (keeps_translatePage hP _ _ _) fun _ => keeps_pure _

theorem keeps_linRead (hP : WalkClosed P) (la : W32) (n : Nat) (user : Bool) : Keeps P (linRead la n user) :=
  keeps_bind (keeps_translateSpan hP _ _ _ _) fun _ => keeps_physReadAt _

theorem keeps_linWrite (hP : WalkClosed P) (la : W32) (n : Nat) (v : W32) (user : Bool) :
    Keeps P (linWrite la n v user) :=
  keeps_bind (keeps_translateSpan hP _ _ _ _) fun _ => keeps_physWriteEach hP _ _

theorem keeps_accRead (hP : WalkClosed P) (la : W32) (n : Nat) : Keeps P (accRead la n) :=
  keeps_get_any fun _ => keeps_linRead hP _ _ _

theorem keeps_accWrite (hP : WalkClosed P) (la : W32) (n : Nat) (v : W32) : Keeps P (accWrite la n v) :=
  keeps_get_any fun _ => keeps_linWrite hP _ _ _ _

theorem keeps_accProbe (hP : WalkClosed P) (la : W32) (n : Nat) : Keeps P (accProbe la n) :=
  keeps_get_any fun _ => keeps_translateSpan hP _ _ _ _

theorem keeps_accReadW (hP : WalkClosed P) (la : W32) (n : Nat) : Keeps P (accReadW la n) :=
  keeps_bind (keeps_accProbe hP _ _) fun _ => keeps_bind (keeps_physReadAt _) fun _ => keeps_pure _

theorem keeps_translateProbed (hP : WalkClosed P) (la : W32) (n : Nat) (as : List W32) :
    Keeps P (translateProbed la n as) := fun s hs => by
  have ht := keeps_translateSpan hP la n .write s.user
  rcases translateProbed_cases la n as s with ⟨x, t, h, h'⟩ | ⟨e, t, h, h'⟩ | ⟨r, t, h, h'⟩
  · rw [h']; exact ⟨fun _ _ h => (by cases h; exact ht.of_ok hs ‹_›), fun _ _ h => (by cases h)⟩
  · rw [h']; exact ⟨fun _ _ h => (by cases h; exact hs), fun _ _ h => (by cases h)⟩
  · rw [h']; exact ⟨fun _ _ h => (by cases h), fun _ _ h => (by cases h; exact ht.of_error hs ‹_›)⟩

theorem keeps_accWriteProbed (hP : WalkClosed P) (la : W32) (n : Nat) (as : List W32) (v : W32) :
    Keeps P (accWriteProbed la n as v) :=
  keeps_bind (keeps_translateProbed hP _ _ _) fun _ => keeps_physWriteEach hP _ _

theorem keeps_sysRead (hP : WalkClosed P) (la : W32) (n : Nat) : Keeps P (sysRead la n) := keeps_linRead hP _ _ _

theorem keeps_sysWrite (hP : WalkClosed P) (la : W32) (n : Nat) (v : W32) : Keeps P (sysWrite la n v) :=
  keeps_linWrite hP _ _ _ _

theorem keeps_descRead (hP : WalkClosed P) (sel : W16) : Keeps P (descRead sel) :=
  keeps_get_any fun _ => keeps_cond (fun _ => keeps_pure _) fun _ =>
    keeps_bind (keeps_sysRead hP _ _) fun _ => keeps_bind (keeps_sysRead hP _ _) fun _ => keeps_pure _

theorem keeps_descReadOr (hP : WalkClosed P) (sel : W16) (e : Exc) : Keeps P (descReadOr sel e) := by
  refine keeps_bind (keeps_descRead hP _) fun d => ?_
  cases d with
  | some d => exact keeps_pure d
  | none => exact keeps_raise e

theorem keeps_markAccessed (hP : WalkClosed P) (d : Desc) : Keeps P (markAccessed d) :=
  keeps_cond (fun _ => keeps_sysWrite hP _ _ _) fun _ => keeps_pure _

theorem keeps_innerStack (hP : WalkClosed P) (lvl : BitVec 2) : Keeps P (innerStack lvl) := by
  refine keeps_get_any fun s => ?_
  repeat' first
    | exact keeps_pure _
    | refine keeps_bind (keeps_raiseIf _ _) fun _ => ?_
    | refine keeps_bind (keeps_sysRead hP _ _) fun _ => ?_
    | refine keeps_bind (keeps_descReadOr hP _ _) fun _ => ?_

theorem keeps_readIdtGate (hP : WalkClosed P) (v : Byte) (sw : Bool) : Keeps P (readIdtGate v sw) := by
  refine keeps_get_any fun s => ?_
  repeat' first
    | exact keeps_pure _
    | exact keeps_abort _
    | refine keeps_bind (keeps_raiseIf _ _) fun _ => ?_
    | refine keeps_bind (keeps_sysRead hP _ _) fun _ => ?_
    | refine keeps_cond (fun _ => ?_) fun _ => ?_

theorem keeps_gateTarget (hP : WalkClosed P) (sel : W16) : Keeps P (gateTarget sel) := by
  refine keeps_get_any fun s => ?_
  repeat' first
    | exact keeps_pure _
    | refine keeps_bind (keeps_raiseIf _ _) fun _ => ?_
    | refine keeps_bind (keeps_descReadOr hP _ _) fun _ => ?_

theorem keeps_returnTarget (hP : WalkClosed P) (sel : W16) : Keeps P (returnTarget sel) := by
  refine keeps_get_any fun s => ?_
  repeat' first
    | exact keeps_pure _
    | refine keeps_bind (keeps_raiseIf _ _) fun _ => ?_
    | refine keeps_bind (keeps_descReadOr hP _ _) fun _ => ?_

theorem keeps_returnStack (hP : WalkClosed P) (sel : W16) (rpl : BitVec 2) : Keeps P (returnStack sel rpl) := by
  unfold returnStack
  repeat' first
    | exact keeps_pure _
    | refine keeps_bind (keeps_raiseIf _ _) fun _ => ?_
    | refine keeps_bind (keeps_descReadOr hP _ _) fun _ => ?_

theorem keeps_pushList (hP : WalkClosed P) (sys : Bool) (base mask : W32) (n : Nat) (vs : List W32) :
    ∀ p, Keeps P (pushList sys base mask n p vs) := by
  induction vs with
  | nil => exact fun p => keeps_pure p
  | cons v vs ih =>
    exact fun p => keeps_bind
      (keeps_cond (fun _ => keeps_sysWrite hP _ _ _) fun _ => keeps_accWrite hP _ _ _) fun _ => ih _

/-! ### Operands -/

theorem keeps_locate (rm : Rm) : Keeps P (locate rm) := by
  refine keeps_get_any fun s => ?_
  cases s.locOf rm with
  | some l => exact keeps_pure l
  | none => exact keeps_raise _

theorem keeps_locateMem (rm : Rm) : Keeps P (locateMem rm) := by
  refine keeps_bind (keeps_locate rm) fun l => ?_
  cases l with
  | reg r => exact keeps_raise _
  | mem n off => exact keeps_pure _

theorem keeps_locateReg (rm : Rm) : Keeps P (locateReg rm) := by
  refine keeps_bind (keeps_locate rm) fun l => ?_
  cases l with
  | reg r => exact keeps_pure _
  | mem n off => exact keeps_raise _

theorem keeps_readLoc (hP : WalkClosed P) (w : Width) (l : Loc) : Keeps P (readLoc w l) := by
  cases l with
  | reg r => exact keeps_get_any fun _ => keeps_pure _
  | mem n off => exact keeps_get_any fun _ => keeps_accRead hP _ _

theorem keeps_readLocW (hP : WalkClosed P) (w : Width) (l : Loc) : Keeps P (readLocW w l) := by
  cases l with
  | reg r => exact keeps_get_any fun _ => keeps_pure _
  | mem n off => exact keeps_get_any fun _ => keeps_accReadW hP _ _

theorem keeps_readRm (hP : WalkClosed P) (w : Width) (rm : Rm) : Keeps P (readRm w rm) :=
  keeps_bind (keeps_locate rm) fun _ => keeps_readLoc hP _ _

theorem keeps_readReg (w : Width) (r : Reg) : Keeps P (readReg w r) := keeps_get_any fun _ => keeps_pure _

/-! ### A state that differs by a walk alone -/

theorem State.sameButWalk.refl (s : State) : s.sameButWalk s := rfl

theorem State.sameButWalk.trans {s t u : State} (h1 : s.sameButWalk t) (h2 : t.sameButWalk u) : s.sameButWalk u := by
  unfold State.sameButWalk at *
  rw [h2, h1]

theorem walkClosed_sameButWalk (s : State) : WalkClosed s.sameButWalk where
  cr2 t v h := h.trans rfl
  byte t a b _ h := h.trans rfl
  insert t la e h := h.trans (by unfold State.tlbInsert; cases Nat.ble _ _ <;> rfl)

/-- An access that completes leaves every register, flag and mode as it was. -/
theorem sameButWalk_of_ok {m : M α} {s t : State} {a : α} (hm : ∀ P, WalkClosed P → Keeps P m) (h : m s = .ok a t) :
    s.sameButWalk t := (hm _ (walkClosed_sameButWalk s)).of_ok (State.sameButWalk.refl s) h

/-- An access that stops leaves every register but CR2, every flag and mode as it was. -/
theorem sameButWalk_of_error {m : M α} {s t : State} {e : Stop} (hm : ∀ P, WalkClosed P → Keeps P m)
    (h : m s = .error e t) : s.sameButWalk t :=
  (hm _ (walkClosed_sameButWalk s)).of_error (State.sameButWalk.refl s) h

section
variable {s t : State}
theorem State.sameButWalk.regs (h : s.sameButWalk t) : t.regs = s.regs := by rw [h]
theorem State.sameButWalk.pc (h : s.sameButWalk t) : t.pc = s.pc := by rw [h]
theorem State.sameButWalk.cc (h : s.sameButWalk t) : t.cc = s.cc := by rw [h]
theorem State.sameButWalk.df (h : s.sameButWalk t) : t.df = s.df := by rw [h]
theorem State.sameButWalk.eflagsSys (h : s.sameButWalk t) : t.eflagsSys = s.eflagsSys := by rw [h]
theorem State.sameButWalk.cr0 (h : s.sameButWalk t) : t.cr0 = s.cr0 := by rw [h]
theorem State.sameButWalk.cr3 (h : s.sameButWalk t) : t.cr3 = s.cr3 := by rw [h]
theorem State.sameButWalk.cr4 (h : s.sameButWalk t) : t.cr4 = s.cr4 := by rw [h]
theorem State.sameButWalk.cpl (h : s.sameButWalk t) : t.cpl = s.cpl := by rw [h]
theorem State.sameButWalk.segs (h : s.sameButWalk t) : t.segs = s.segs := by rw [h]
theorem State.sameButWalk.gdtr (h : s.sameButWalk t) : t.gdtr = s.gdtr := by rw [h]
theorem State.sameButWalk.idtr (h : s.sameButWalk t) : t.idtr = s.idtr := by rw [h]
theorem State.sameButWalk.dec (h : s.sameButWalk t) : t.dec = s.dec := by rw [h]
theorem State.sameButWalk.memSize (h : s.sameButWalk t) : t.memSize = s.memSize := by rw [h]
theorem State.sameButWalk.ports (h : s.sameButWalk t) : t.ports = s.ports := by rw [h]
theorem State.sameButWalk.history (h : s.sameButWalk t) : t.history = s.history := by rw [h]
theorem State.sameButWalk.osz (h : s.sameButWalk t) : t.osz = s.osz := by rw [h]; rfl
theorem State.sameButWalk.asz (h : s.sameButWalk t) : t.asz = s.asz := by rw [h]; rfl
theorem State.sameButWalk.nextpc (h : s.sameButWalk t) : t.nextpc = s.nextpc := by rw [h]; rfl
theorem State.sameButWalk.stackMask (h : s.sameButWalk t) : t.stackMask = s.stackMask := by rw [h]; rfl
theorem State.sameButWalk.pe (h : s.sameButWalk t) : t.pe = s.pe := by rw [h]; rfl
theorem State.sameButWalk.user (h : s.sameButWalk t) : t.user = s.user := by rw [h]; rfl
theorem State.sameButWalk.lin (h : s.sameButWalk t) (n : Sreg) (off : W32) : t.lin n off = s.lin n off := by
  rw [h]; rfl
theorem State.sameButWalk.locOf (h : s.sameButWalk t) (rm : Rm) : t.locOf rm = s.locOf rm := by rw [h]; rfl
end

end Sys2Proof.Machine
end

