-- ==== Sys2Proof/Laws/Encoding.lean ====
section
/-! SUPPORT. The fields of the encoded bytes, and what the decoder reads back from an encoded operand. -/

namespace Sys2Proof

/-! ### Numbers -/

@[simp] theorem Reg.ofNum_num (r : Reg) : Reg.ofNum r.num = r := by cases r <;> rfl
@[simp] theorem Sreg.ofNum_num (r : Sreg) : Sreg.ofNum r.num = r := by cases r <;> rfl
@[simp] theorem Cond.ofNum_num (c : Cond) : Cond.ofNum c.num = c := by cases c <;> rfl
@[simp] theorem Base16.ofNum_num (b : Base16) : Base16.ofNum b.num = b := by cases b <;> rfl
@[simp] theorem Reg.num_ofNum (n : BitVec 3) : (Reg.ofNum n).num = n := by revert n; decide

/-! ### The ModRM and SIB bytes -/

@[simp] theorem modF_modrmByte (mod : BitVec 2) (reg rm : BitVec 3) : modF (modrmByte mod reg rm) = mod := by
  revert mod reg rm; decide
@[simp] theorem regF_modrmByte (mod : BitVec 2) (reg rm : BitVec 3) : regF (modrmByte mod reg rm) = reg := by
  revert mod reg rm; decide
@[simp] theorem rmF_modrmByte (mod : BitVec 2) (reg rm : BitVec 3) : rmF (modrmByte mod reg rm) = rm := by
  revert mod reg rm; decide
@[simp] theorem modF_sibByte (sc : BitVec 2) (i b : Reg) : modF (sibByte sc i b) = sc :=
  modF_modrmByte sc i.num b.num
@[simp] theorem regF_sibByte (sc : BitVec 2) (i b : Reg) : regF (sibByte sc i b) = i.num :=
  regF_modrmByte sc i.num b.num
@[simp] theorem rmF_sibByte (sc : BitVec 2) (i b : Reg) : rmF (sibByte sc i b) = b.num :=
  rmF_modrmByte sc i.num b.num

/-! ### Little-endian parts -/

theorem le16_join (v : W16) : (v.extractLsb' 8 8 ++ v.extractLsb' 0 8 : BitVec 16) = v := by
  refine BitVec.eq_of_getLsbD_eq fun i hi => ?_
  simp only [BitVec.getLsbD_append, BitVec.getLsbD_extractLsb']
  by_cases h : i < 8
  · simp [h]
  · simp [h, show i - 8 < 8 by omega, show 8 + (i - 8) = i by omega]

theorem le32_join (v : W32) :
    (v.extractLsb' 24 8 ++ (v.extractLsb' 16 8 ++ (v.extractLsb' 8 8 ++ v.extractLsb' 0 8 : BitVec 16) : BitVec 24)
      : BitVec 32) = v := by
  refine BitVec.eq_of_getLsbD_eq fun i hi => ?_
  simp only [BitVec.getLsbD_append, BitVec.getLsbD_extractLsb']
  by_cases h : i < 8
  · simp [h, show i < 16 by omega, show i < 24 by omega]
  · by_cases h1 : i < 16
    · simp [h, h1, show i < 24 by omega, show i - 8 < 8 by omega, show 8 + (i - 8) = i by omega]
    · by_cases h2 : i < 24
      · simp [h1, h2, show i - 16 < 8 by omega, show 16 + (i - 16) = i by omega]
      · simp [h2, show i - 24 < 8 by omega, show 24 + (i - 24) = i by omega]

variable {α : Type}

@[simp] theorem run_done (a : α) (len : Nat) (bs : List Byte) : (Fetch.done a).run len bs = .ok (a, bs) := rfl

theorem run_byte (k : Byte → Fetch α) {len : Nat} (b : Byte) (bs : List Byte) (h : len + 1 ≤ 15) :
    (Fetch.byte k).run len (b :: bs) = (k b).run (len + 1) bs := by
  rw [Fetch.run, if_neg (by simp [Config.maxInsnLen]; omega)]

theorem run_word (k : W16 → Fetch α) {len : Nat} (v : W16) (bs : List Byte) (h : len + 2 ≤ 15) :
    (Fetch.word k).run len (le16 v ++ bs) = (k v).run (len + 2) bs := by
  show (Fetch.word k).run len (v.extractLsb' 0 8 :: v.extractLsb' 8 8 :: bs) = _
  rw [Fetch.run, if_neg (by simp [Config.maxInsnLen]; omega)]
  simp only [le16_join]

theorem run_dword (k : W32 → Fetch α) {len : Nat} (v : W32) (bs : List Byte) (h : len + 4 ≤ 15) :
    (Fetch.dword k).run len (le32 v ++ bs) = (k v).run (len + 4) bs := by
  show (Fetch.dword k).run len
    (v.extractLsb' 0 8 :: v.extractLsb' 8 8 :: v.extractLsb' 16 8 :: v.extractLsb' 24 8 :: bs) = _
  rw [Fetch.run, if_neg (by simp [Config.maxInsnLen]; omega)]
  simp only [le32_join]

/-- An immediate of the operand size is read back. -/
theorem run_immV (m : Mode) (k : ImmV → Fetch α) {len : Nat} (v : ImmV) (bs : List Byte) (hv : v.okOsz m = true)
    (h : len + 4 ≤ 15) : (immV m k).run len (v.bytes ++ bs) = (k v).run (len + v.bytes.length) bs := by
  cases v with
  | i16 v =>
    have hm : m.osz32 = false := by simpa [ImmV.okOsz] using hv
    simpa [immV, hm, ImmV.bytes, le16] using run_word (fun v => k (.i16 v)) v bs (by omega)
  | i32 v =>
    have hm : m.osz32 = true := hv
    simpa [immV, hm, ImmV.bytes, le32] using run_dword (fun v => k (.i32 v)) v bs h

/-- A direct offset of the address size is read back. -/
theorem run_immA (m : Mode) (k : ImmV → Fetch α) {len : Nat} (v : ImmV) (bs : List Byte) (hv : v.okAsz m = true)
    (h : len + 4 ≤ 15) : (immA m k).run len (v.bytes ++ bs) = (k v).run (len + v.bytes.length) bs := by
  cases v with
  | i16 v =>
    have hm : m.asz32 = false := by simpa [ImmV.okAsz] using hv
    simpa [immA, hm, ImmV.bytes, le16] using run_word (fun v => k (.i16 v)) v bs (by omega)
  | i32 v =>
    have hm : m.asz32 = true := hv
    simpa [immA, hm, ImmV.bytes, le32] using run_dword (fun v => k (.i32 v)) v bs h

theorem run_dispF16 (k : Disp 16 → Fetch α) {len : Nat} (d : Disp 16) (bs : List Byte) (h : len + 2 ≤ 15) :
    (dispF16 (modOf16 d) k).run len (dispBytes16 d ++ bs) = (k d).run (len + (dispBytes16 d).length) bs := by
  cases d with
  | none => rfl
  | d8 d => exact run_byte (fun d => k (.d8 d)) d bs (by omega)
  | dn d => exact run_word (fun d => k (.dn d)) d bs h

theorem run_dispF32 (k : Disp 32 → Fetch α) {len : Nat} (d : Disp 32) (bs : List Byte) (h : len + 4 ≤ 15) :
    (dispF32 (modOf32 d) k).run len (dispBytes32 d ++ bs) = (k d).run (len + (dispBytes32 d).length) bs := by
  cases d with
  | none => rfl
  | d8 d => exact run_byte (fun d => k (.d8 d)) d bs (by omega)
  | dn d => exact run_dword (fun d => k (.dn d)) d bs h

theorem modOf16_ne_three (d : Disp 16) : (modOf16 d == 3#2) = false := by cases d <;> rfl
theorem modOf32_ne_three (d : Disp 32) : (modOf32 d == 3#2) = false := by cases d <;> rfl

/-- The ModRM byte that an encoded r/m operand begins with. -/
def rmHead (reg : BitVec 3) (rm : Rm) : Byte := (encodeRm reg rm).headD 0#8

@[simp] theorem regF_rmHead (reg : BitVec 3) {m : Mode} {rm : Rm} (h : rm.ok m = true) : regF (rmHead reg rm) = reg := by
  cases rm <;> first | exact regF_modrmByte _ _ _ | cases h

/-- A complete r/m operand is read back, whatever is decoded after it. -/
theorem run_rmOf (m : Mode) (k : Byte → Rm → Fetch α) (reg : BitVec 3) {len : Nat} {rm : Rm} (bs : List Byte)
    (hrm : rm.ok m = true) (h : len + 6 ≤ 15) :
    (Fetch.byte fun b => rmOf m b (k b)).run len (encodeRm reg rm ++ bs)
      = (k (rmHead reg rm) rm).run (len + (encodeRm reg rm).length) bs := by
  cases rm with
  | reg r =>
    rw [encodeRm, List.cons_append, run_byte _ _ _ (by omega), rmOf]
    simp [rmHead, encodeRm]
  | abs16 d =>
    have hm : m.asz32 = false := by simpa [Rm.ok] using hrm
    rw [encodeRm, List.cons_append, run_byte _ _ _ (by omega), rmOf]
    simp only [modF_modrmByte, rmF_modrmByte, hm, rmOf16]
    exact run_word (fun d => k _ (.abs16 d)) d bs (by omega)
  | ind16 b d =>
    simp only [Rm.ok, Bool.and_eq_true, Bool.not_eq_true'] at hrm
    obtain ⟨hm, hd⟩ := hrm
    have hspecial : (modOf16 d == 0#2 && b.num == 6#3) = false := by
      cases d <;> cases b <;> first | rfl | cases hd
    rw [encodeRm, List.cons_append, run_byte _ _ _ (by omega), rmOf]
    simp only [modF_modrmByte, rmF_modrmByte, hm, modOf16_ne_three, rmOf16, hspecial, cond_false, Base16.ofNum_num]
    rw [run_dispF16 (fun d' => k (modrmByte (modOf16 d) reg b.num) (.ind16 b d')) d bs (by omega)]
    show _ = (k (modrmByte (modOf16 d) reg b.num) _).run (len + (_ :: dispBytes16 d).length) bs
    rw [List.length_cons, Nat.add_assoc, Nat.add_comm 1]
  | abs32 d =>
    have hm : m.asz32 = true := hrm
    rw [encodeRm, List.cons_append, run_byte _ _ _ (by omega), rmOf]
    simp only [modF_modrmByte, rmF_modrmByte, hm, rmOf32]
    exact run_dword (fun d => k _ (.abs32 d)) d bs (by omega)
  | ind32 b d =>
    simp only [Rm.ok, Bool.and_eq_true, Bool.not_eq_true'] at hrm
    obtain ⟨⟨hm, hb⟩, hd⟩ := hrm
    have hsib : (b.num == 4#3) = false := by revert hb; cases b <;> decide
    have hspecial : (modOf32 d == 0#2 && b.num == 5#3) = false := by
      cases d <;> cases b <;> first | rfl | cases hd
    rw [encodeRm, List.cons_append, run_byte _ _ _ (by omega), rmOf]
    simp only [modF_modrmByte, rmF_modrmByte, hm, modOf32_ne_three, rmOf32, hsib, hspecial, cond_false, cond_true,
      Reg.ofNum_num]
    rw [run_dispF32 (fun d' => k (modrmByte (modOf32 d) reg b.num) (.ind32 b d')) d bs (by omega)]
    show _ = (k (modrmByte (modOf32 d) reg b.num) _).run (len + (_ :: dispBytes32 d).length) bs
    rw [List.length_cons, Nat.add_assoc, Nat.add_comm 1]
  | sib sc ix b d =>
    simp only [Rm.ok, Bool.and_eq_true, Bool.not_eq_true'] at hrm
    obtain ⟨hm, hd⟩ := hrm
    have hspecial : (modOf32 d == 0#2 && b.num == 5#3) = false := by
      cases d <;> cases b <;> first | rfl | cases hd
    rw [encodeRm, List.cons_append, List.cons_append, run_byte _ _ _ (by omega), rmOf]
    simp only [modF_modrmByte, rmF_modrmByte, hm, modOf32_ne_three, rmOf32, beq_self_eq_true, cond_false, cond_true,
      sibOf]
    rw [run_byte _ _ _ (by omega)]
    simp only [modF_sibByte, rmF_sibByte, regF_sibByte, hspecial, cond_false, Reg.ofNum_num]
    rw [run_dispF32 (fun d' => k (modrmByte (modOf32 d) reg 4#3) (.sib sc ix b d')) d bs (by omega)]
    show _ = (k (modrmByte (modOf32 d) reg 4#3) _).run (len + (_ :: _ :: dispBytes32 d).length) bs
    rw [List.length_cons, List.length_cons, show len + 1 + 1 + (dispBytes32 d).length = len + ((dispBytes32 d).length + 1 + 1) by omega]
  | sibAbs sc ix d =>
    have hm : m.asz32 = true := hrm
    rw [encodeRm, List.cons_append, List.cons_append, run_byte _ _ _ (by omega), rmOf]
    simp only [modF_modrmByte, rmF_modrmByte, hm, rmOf32, sibOf]
    show (Fetch.byte _).run _ _ = _
    rw [run_byte _ _ _ (by omega)]
    simp only [modF_sibByte, rmF_sibByte, regF_sibByte, Reg.ofNum_num]
    exact run_dword (fun d => k _ (.sibAbs sc ix d)) d bs (by omega)
  | cut mod rm => cases hrm
  | absent => cases hrm

/-- An encoded r/m operand begins with its ModRM byte, unless decoding ended at the opcode. -/
theorem encodeRm_cons (reg : BitVec 3) {m : Mode} {rm : Rm} (h : rm.ok m = true) :
    ∃ t, encodeRm reg rm = rmHead reg rm :: t := by
  cases rm <;> first | exact ⟨_, rfl⟩ | cases h

/-- The same where the ModRM byte is first dispatched on, as in a group. -/
theorem run_rmByte (m : Mode) (F : Byte → Fetch α) (k : Rm → Fetch α) (reg : BitVec 3) {len : Nat} {rm : Rm}
    (bs : List Byte) (hrm : rm.ok m = true) (h : len + 6 ≤ 15)
    (hF : ∀ b, regF b = reg → F b = rmOf m b k) :
    (Fetch.byte F).run len (encodeRm reg rm ++ bs) = (k rm).run (len + (encodeRm reg rm).length) bs := by
  rw [← run_rmOf m (fun _ => k) reg bs hrm h]
  obtain ⟨t, ht⟩ := encodeRm_cons reg hrm
  rw [ht, List.cons_append, run_byte _ _ _ (by omega), run_byte _ _ _ (by omega), hF _ (regF_rmHead reg hrm)]

/-- An encoded r/m operand has at most six bytes. -/
theorem encodeRm_length_le (reg : BitVec 3) (rm : Rm) : (encodeRm reg rm).length ≤ 6 := by
  have h16 : ∀ d : Disp 16, (dispBytes16 d).length ≤ 2 := by intro d; cases d <;> simp [dispBytes16, le16]
  have h32 : ∀ d : Disp 32, (dispBytes32 d).length ≤ 4 := by intro d; cases d <;> simp [dispBytes32, le32]
  cases rm with
  | ind16 b d => have := h16 d; simp [encodeRm]; omega
  | ind32 b d => have := h32 d; simp [encodeRm]; omega
  | sib sc ix b d => have := h32 d; simp [encodeRm]; omega
  | _ => simp [encodeRm, le16, le32]

/-- An immediate has at most four bytes. -/
theorem immBytes_length_le (v : ImmV) : v.bytes.length ≤ 4 := by cases v <;> simp [ImmV.bytes, le16, le32]

end Sys2Proof
end

