-- ==== Sys2Proof/Laws/Transfers.lean ====
section
/-! SUPPORT. What the operations that write registers keep: a property closed under the updates a program can make is
kept by selector loads, stack operations, port calls, deliveries and returns, and by the operation behind every
instruction but the system ones, which need closure under their own updates. -/

namespace Sys2Proof.Machine

variable {α β : Type} {P : State → Prop}

/-- The updates the operations below the system instructions make. -/
structure CoreClosed (P : State → Prop) : Prop extends WalkClosed P where
  regs : ∀ s g, P s → P (s.setRegs g)
  pc : ∀ s v, P s → P (s.setPc v)
  cc : ∀ (s : State) c, c.op2 = s.cc.op2 ∨ c.op2 = s.cc.carryKind → P s → P (s.setCc c)
  df : ∀ s b, P s → P (s.setDf b)
  sysClear : ∀ (s : State) m, P s → P (s.setSys (s.eflagsSys &&& m))
  sysSet : ∀ (s : State) m, m &&& ~~~Config.sysFlagMask = 0#32 → P s → P (s.setSys (s.eflagsSys ||| m))
  sysMask : ∀ (s : State) v m, m &&& ~~~Config.sysFlagMask = 0#32 → P s →
    P (s.setSys ((s.eflagsSys &&& ~~~m) ||| (v &&& m)))
  seg : ∀ s n r, n ≠ .ldtr → n ≠ .tr → P s → P (s.setSegReg n r)
  cpl : ∀ (s : State) n, s.pe = true → P s → P (s.setCpl n)
  platform : ∀ s h b, P s → P (s.setPlatform h b)
  aborted : ∀ s r, P s → P (s.setAborted r)
  stepFaulted : ∀ s b, P s → P (s.setStepFaulted b)

/-- None of these updates leaves or enters protected mode. -/
theorem CoreClosed.andPe (h : CoreClosed P) (b : Bool) : CoreClosed fun s => P s ∧ s.pe = b where
  cr2 s v hs := ⟨h.cr2 s v hs.1, hs.2⟩
  byte s a x ha hs := ⟨h.byte s a x ha hs.1, hs.2⟩
  insert s la e hs := ⟨h.insert s la e hs.1, by
    rw [← hs.2]; unfold State.tlbInsert; cases Nat.ble _ _ <;> rfl⟩
  regs s g hs := ⟨h.regs s g hs.1, hs.2⟩
  pc s v hs := ⟨h.pc s v hs.1, hs.2⟩
  cc s c hc hs := ⟨h.cc s c hc hs.1, hs.2⟩
  df s v hs := ⟨h.df s v hs.1, hs.2⟩
  sysClear s m hs := ⟨h.sysClear s m hs.1, hs.2⟩
  sysSet s m hm hs := ⟨h.sysSet s m hm hs.1, hs.2⟩
  sysMask s v m hm hs := ⟨h.sysMask s v m hm hs.1, hs.2⟩
  seg s n r h1 h2 hs := ⟨h.seg s n r h1 h2 hs.1, hs.2⟩
  cpl s n hp hs := ⟨h.cpl s n hp hs.1, hs.2⟩
  platform s x v hs := ⟨h.platform s x v hs.1, hs.2⟩
  aborted s r hs := ⟨h.aborted s r hs.1, hs.2⟩
  stepFaulted s v hs := ⟨h.stepFaulted s v hs.1, hs.2⟩

/-- A rule that keeps a property together with the mode keeps the property where it starts in that mode. -/
theorem keeps_get_pe {f : State → M β} (ht : ∀ s, s.pe = true → Keeps (fun u => P u ∧ u.pe = true) (f s))
    (hf : ∀ s, s.pe = false → Keeps P (f s)) : Keeps P ((get : M State) >>= f) :=
  keeps_get_bind fun s hs => by
    cases h : s.pe with
    | true =>
      have k := ht s h s ⟨hs, h⟩
      exact ⟨fun a t e => (k.1 a t e).1, fun e t x => (k.2 e t x).1⟩
    | false => exact hf s h s hs

theorem keeps_get : Keeps P (get : M State) := keeps_get_any (f := pure) fun s => keeps_pure s

theorem CoreClosed.setReg (h : CoreClosed P) (s : State) (w : Width) (r : Reg) (v : W32) (hs : P s) :
    P (s.setReg w r v) := h.regs s _ hs

theorem keeps_updReg (h : CoreClosed P) (w : Width) (r : Reg) (v : W32) : Keeps P (upd fun s => s.setReg w r v) :=
  keeps_upd fun s hs => h.setReg s w r v hs

theorem keeps_writeReg (h : CoreClosed P) (w : Width) (r : Reg) (v : W32) : Keeps P (writeReg w r v) :=
  keeps_updReg h w r v

theorem keeps_updRegs (h : CoreClosed P) (f : State → Regs) : Keeps P (upd fun s => s.setRegs (f s)) :=
  keeps_upd fun s hs => h.regs s _ hs

theorem keeps_updPc (h : CoreClosed P) (v : W32) : Keeps P (upd fun s => s.setPc v) := keeps_upd fun s hs => h.pc s v hs

theorem keeps_advance (h : CoreClosed P) : Keeps P advance := keeps_upd fun s hs => h.pc s _ hs

theorem keeps_jumpTo (h : CoreClosed P) (v : W32) : Keeps P (jumpTo v) := keeps_updPc h v

theorem keeps_updCc (h : CoreClosed P) {f : CC → CC} (hf : ∀ c, (f c).op2 = c.op2 ∨ (f c).op2 = c.carryKind) :
    Keeps P (updCc f) := keeps_upd fun s hs => h.cc s _ (hf s.cc) hs

theorem keeps_writeLoc (h : CoreClosed P) (w : Width) (l : Loc) (v : W32) : Keeps P (writeLoc w l v) := by
  cases l with
  | reg r => exact keeps_updReg h w r v
  | mem n off => exact keeps_get_any fun _ => keeps_accWrite h.toWalkClosed _ _ _

theorem keeps_writeBack (h : CoreClosed P) (w : Width) (l : Loc) (d : Held) (v : W32) : Keeps P (writeBack w l d v) := by
  cases l with
  | reg r => exact keeps_updReg h w r v
  | mem n off => exact keeps_get_any fun _ => keeps_accWriteProbed h.toWalkClosed _ _ _ _

theorem keeps_writeRm (h : CoreClosed P) (w : Width) (rm : Rm) (v : W32) : Keeps P (writeRm w rm v) :=
  keeps_bind (keeps_locate rm) fun _ => keeps_writeLoc h _ _ _

theorem keeps_storeWord (h : CoreClosed P) (w : Width) (rm : Rm) (v : W32) : Keeps P (storeWord w rm v) := by
  refine keeps_bind (keeps_locate rm) fun l => ?_
  cases l with
  | reg r => exact keeps_updReg h w r v
  | mem n off => exact keeps_writeLoc h _ _ _

/-! ### Flags as a whole -/

/-- Replacing the flags from an image keeps the property where the mask has system flags alone. -/
theorem CoreClosed.flagsWrite (h : CoreClosed P) {s : State} (v : W32) {m : W32}
    (hm : m &&& ~~~Config.sysFlagMask = 0#32) (hs : P s) : P (flagsWrite s v m) :=
  h.sysMask _ v m hm (h.df _ _ (h.cc s (s.cc.setImage v) (.inl rfl) hs))

theorem popfMask_system (s : State) : popfMask s &&& ~~~Config.sysFlagMask = 0#32 := by
  unfold popfMask
  cases s.osz == .w16 <;> cases !s.pe || s.cpl == 0#2 <;> cases s.iopl.ult s.cpl <;> decide

theorem iretMask_system (s : State) : iretMask s &&& ~~~Config.sysFlagMask = 0#32 := by
  unfold iretMask
  cases s.osz == .w16 <;> cases s.cpl == 0#2 <;> cases s.iopl.ult s.cpl <;> decide

/-! ### Ports, selectors, the stack -/

theorem keeps_ioCheck : Keeps P ioCheck := keeps_get_any fun _ => keeps_raiseIf _ _

theorem keeps_callReadHandler (h : CoreClosed P) (p : W16) (w : Width) : Keeps P (callReadHandler p w) :=
  keeps_get_any fun _ => keeps_bind (keeps_upd fun s hs => h.platform s _ _ hs) fun _ => keeps_pure _

theorem keeps_callWriteHandler (h : CoreClosed P) (p : W16) (w : Width) (v : W32) : Keeps P (callWriteHandler p w v) :=
  keeps_get_any fun _ => keeps_upd fun s hs => h.platform s _ _ hs

theorem keeps_portReadByte (h : CoreClosed P) (p : W16) : Keeps P (portReadByte p) :=
  keeps_get_any fun _ => keeps_cond (fun _ => keeps_callReadHandler h _ _) fun _ => keeps_pure _

theorem keeps_portWriteByte (h : CoreClosed P) (p : W16) (v : W32) : Keeps P (portWriteByte p v) :=
  keeps_get_any fun _ => keeps_cond (fun _ => keeps_callWriteHandler h _ _ _) fun _ => keeps_pure _

theorem keeps_portRead (h : CoreClosed P) (p : W16) (w : Width) : Keeps P (portRead p w) := by
  refine keeps_get_any fun s => keeps_cond (fun _ => keeps_callReadHandler h _ _) fun _ => ?_
  cases w <;>
    repeat' first
      | exact keeps_pure _
      | exact keeps_portReadByte h _
      | refine keeps_bind (keeps_portReadByte h _) fun _ => ?_

theorem keeps_portWrite (h : CoreClosed P) (p : W16) (w : Width) (v : W32) : Keeps P (portWrite p w v) := by
  refine keeps_get_any fun s => keeps_cond (fun _ => keeps_callWriteHandler h _ _ _) fun _ => ?_
  cases w <;>
    repeat' first
      | exact keeps_portWriteByte h _ _
      | refine keeps_bind (keeps_portWriteByte h _ _) fun _ => ?_

theorem keeps_setSeg (h : CoreClosed P) {n : Sreg} (h1 : n ≠ .ldtr) (h2 : n ≠ .tr) (sel : W16) (b l r : W32) :
    Keeps P (setSeg n sel b l r) := keeps_upd fun s hs => h.seg s n _ h1 h2 hs

theorem keeps_setSegFrom (h : CoreClosed P) {n : Sreg} (h1 : n ≠ .ldtr) (h2 : n ≠ .tr) (sel : W16) (d : Desc) :
    Keeps P (setSegFrom n sel d) := keeps_setSeg h h1 h2 _ _ _ _

theorem keeps_loadSegReal (h : CoreClosed P) {n : Sreg} (h1 : n ≠ .ldtr) (h2 : n ≠ .tr) (sel : W16) :
    Keeps P (loadSegReal n sel) := keeps_setSeg h h1 h2 _ _ _ _

/-- A selector load for a register other than LDTR and TR. -/
theorem keeps_loadSeg (h : CoreClosed P) {n : Sreg} (h1 : n ≠ .ldtr) (h2 : n ≠ .tr) (sel : W16) :
    Keeps P (loadSeg n sel) := by
  have w := h.toWalkClosed
  have ss : Keeps P (loadSegStack sel) := by
    refine keeps_bind (keeps_raiseIf _ _) fun _ => keeps_get_any fun s => ?_
    repeat' first
      | exact keeps_setSegFrom h (by decide) (by decide) _ _
      | refine keeps_bind (keeps_descReadOr w _ _) fun _ => ?_
      | refine keeps_bind (keeps_raiseIf _ _) fun _ => ?_
      | refine keeps_bind (keeps_markAccessed w _) fun _ => ?_
  have data : Keeps P (loadSegData n sel) := by
    refine keeps_cond (fun _ => keeps_setSeg h h1 h2 _ _ _ _) fun _ => keeps_get_any fun s => ?_
    repeat' first
      | exact keeps_setSegFrom h h1 h2 _ _
      | refine keeps_bind (keeps_descReadOr w _ _) fun _ => ?_
      | refine keeps_bind (keeps_raiseIf _ _) fun _ => ?_
      | refine keeps_bind (keeps_markAccessed w _) fun _ => ?_
  exact keeps_get_any fun s =>
    keeps_cond (fun _ => keeps_loadSegReal h h1 h2 _) fun _ => keeps_cond (fun _ => ss) fun _ => data

theorem keeps_push (h : CoreClosed P) (w : Width) (v : W32) : Keeps P (push w v) :=
  keeps_get_any fun _ => keeps_bind (keeps_accWrite h.toWalkClosed _ _ _) fun _ => keeps_updReg h _ _ _

theorem keeps_pop (h : CoreClosed P) (w : Width) : Keeps P (pop w) :=
  keeps_get_any fun _ =>
    keeps_bind (keeps_accRead h.toWalkClosed _ _) fun _ => keeps_bind (keeps_updReg h _ _ _) fun _ => keeps_pure _

/-! ### Taking an exception and returning from one -/

theorem keeps_deliverReal (h : CoreClosed P) (v : Byte) (ret : W32) : Keeps P (deliverReal v ret) := by
  have w := h.toWalkClosed
  refine keeps_get_any fun s => ?_
  repeat' first
    | exact keeps_updPc h _
    | refine keeps_bind (keeps_raiseIf _ _) fun _ => ?_
    | refine keeps_bind (keeps_sysRead w _ _) fun _ => ?_
    | refine keeps_bind (keeps_accWrite w _ _ _) fun _ => ?_
    | refine keeps_bind (keeps_updReg h _ _ _) fun _ => ?_
    | refine keeps_bind (keeps_upd fun s hs => h.sysClear s _ hs) fun _ => ?_
    | refine keeps_bind (keeps_loadSegReal h (by decide) (by decide) _) fun _ => ?_

/-- A delivery in protected mode keeps the property and the mode. -/
theorem keeps_deliverProt (h : CoreClosed P) (v : Byte) (sw : Bool) (code : Option W32) (hw : Bool) (ret : W32) :
    Keeps (fun s => P s ∧ s.pe = true) (deliverProt v sw code hw ret) := by
  have q := h.andPe true
  have w := q.toWalkClosed
  refine keeps_get_any fun s => ?_
  repeat' first
    | exact keeps_upd fun s hs => q.sysClear s _ hs
    | refine keeps_bind (keeps_readIdtGate w _ _) fun _ => ?_
    | refine keeps_bind (keeps_gateTarget w _) fun _ => ?_
    | refine keeps_bind (keeps_innerStack w _) fun _ => ?_
    | refine keeps_bind (keeps_markAccessed w _) fun _ => ?_
    | refine keeps_bind (keeps_pushList w _ _ _ _ _ _) fun _ => ?_
    | refine keeps_bind (keeps_updReg q _ _ _) fun _ => ?_
    | refine keeps_bind (keeps_updPc q _) fun _ => ?_
    | refine keeps_bind (keeps_upd fun s hs => q.cpl s _ hs.2 hs) fun _ => ?_
    | refine keeps_bind (keeps_setSegFrom q (by decide) (by decide) _ _) fun _ => ?_
    | refine keeps_cond (fun _ => ?_) fun _ => ?_

theorem keeps_deliver (h : CoreClosed P) (v : Byte) (sw : Bool) (code : Option W32) (hw : Bool) (ret : W32) :
    Keeps P (deliver v sw code hw ret) :=
  keeps_get_pe
    (fun s hs => by rw [hs]; exact keeps_deliverProt h _ _ _ _ _)
    fun s hs => by rw [hs]; exact keeps_deliverReal h _ _

/-- Taking an exception keeps the property, however many deliveries fail. -/
theorem CoreClosed.deliverChain (h : CoreClosed P) (n : Nat) :
    ∀ (e : Exc) (ret : W32) (s : State), P s → P (deliverChain n e ret s) := by
  induction n with
  | zero => exact fun e ret s hs => h.aborted s _ hs
  | succ n ih =>
    intro e ret s hs
    rw [Sys2Proof.Machine.deliverChain]
    cases hd : deliver e.vector false e.code false ret s with
    | ok a t => exact (keeps_deliver h _ _ _ _ _).of_ok hs hd
    | error x t =>
      have ht := (keeps_deliver h _ _ _ _ _).of_error hs hd
      cases x with
      | raise e' => exact ih e' ret t ht
      | abort r => exact h.aborted t r ht

theorem CoreClosed.takeException (h : CoreClosed P) (e : Exc) (s : State) (hs : P s) : P (takeException e s) :=
  h.deliverChain 3 e s.pc _ (h.stepFaulted s true hs)

/-- The whole of an instruction keeps what its rule keeps. -/
theorem CoreClosed.complete (h : CoreClosed P) {m : M Unit} (hm : Keeps P m) {s t : State} (hs : P s)
    (ht : complete m s = .next t) : P t := by
  cases hr : m s with
  | ok a u =>
    rw [complete_ok hr] at ht
    cases ht
    exact hm.of_ok hs hr
  | error x u =>
    have hu := hm.of_error hs hr
    cases x with
    | raise e =>
      rw [complete_raise hr] at ht
      cases ht
      exact h.takeException e u hu
    | abort r =>
      rw [complete_abort hr] at ht
      cases ht
      exact h.aborted u r hu

theorem CoreClosed.clearIfInner (h : CoreClosed P) {n : Sreg} (h1 : n ≠ .ldtr) (h2 : n ≠ .tr) (s : State) (hs : P s) :
    P (s.clearIfInner n) := by
  unfold State.clearIfInner
  dsimp only
  cases (!(s.segs.get n).rights.getLsbD 11 || !(s.segs.get n).rights.getLsbD 10)
      && (dplOf (s.segs.get n).rights).ult s.cpl with
  | true => exact h.seg s n _ h1 h2 hs
  | false => exact hs

theorem CoreClosed.clearDataSegs (h : CoreClosed P) (s : State) (hs : P s) : P s.clearDataSegs :=
  h.clearIfInner (by decide) (by decide) _ <| h.clearIfInner (by decide) (by decide) _ <|
    h.clearIfInner (by decide) (by decide) _ <| h.clearIfInner (by decide) (by decide) _ hs

/-- A return in protected mode keeps the property and the mode. -/
theorem keeps_returnProt (h : CoreClosed P) (iret : Bool) (imm : W32) :
    Keeps (fun s => P s ∧ s.pe = true) (returnProt iret imm) := by
  have q := h.andPe true
  have w := q.toWalkClosed
  refine keeps_get_any fun s => ?_
  have flags (fl : W32) : Keeps (fun s => P s ∧ s.pe = true)
      (upd fun s' => bif iret then flagsWrite s' fl (iretMask s) else s') :=
    keeps_upd fun t ht => by
      cases iret with
      | true => exact q.flagsWrite fl (iretMask_system s) ht
      | false => exact ht
  repeat' first
    | exact flags _
    | exact keeps_abort _
    | exact keeps_upd fun s hs => q.clearDataSegs s hs
    | exact keeps_accRead w _ _
    | exact keeps_pure _
    | refine keeps_bind (flags _) fun _ => ?_
    | refine keeps_bind (keeps_accRead w _ _) fun _ => ?_
    | refine keeps_bind (keeps_returnTarget w _) fun _ => ?_
    | refine keeps_bind (keeps_returnStack w _ _) fun _ => ?_
    | refine keeps_bind (keeps_markAccessed w _) fun _ => ?_
    | refine keeps_bind (keeps_updReg q _ _ _) fun _ => ?_
    | refine keeps_bind (keeps_updPc q _) fun _ => ?_
    | refine keeps_bind (keeps_upd fun s hs => q.cpl s _ hs.2 hs) fun _ => ?_
    | refine keeps_bind (keeps_setSegFrom q (by decide) (by decide) _ _) fun _ => ?_
    | refine keeps_bind (keeps_cond (fun _ => keeps_accRead w _ _) fun _ => keeps_pure _) fun _ => ?_
    | refine keeps_cond (fun _ => ?_) fun _ => ?_

theorem keeps_returnReal (h : CoreClosed P) : Keeps P returnReal := by
  have w := h.toWalkClosed
  refine keeps_get_any fun s => ?_
  repeat' first
    | exact keeps_abort _
    | exact keeps_upd fun t ht => h.flagsWrite _ (by cases s.osz == .w32 <;> decide) ht
    | refine keeps_bind (keeps_accRead w _ _) fun _ => ?_
    | refine keeps_bind (keeps_updReg h _ _ _) fun _ => ?_
    | refine keeps_bind (keeps_updPc h _) fun _ => ?_
    | refine keeps_bind (keeps_loadSegReal h (by decide) (by decide) _) fun _ => ?_
    | refine keeps_cond (fun _ => ?_) fun _ => ?_

theorem keeps_returnFromException (h : CoreClosed P) : Keeps P returnFromException :=
  keeps_get_pe
    (fun s hs => by
      rw [hs, Bool.not_true, cond_false]
      exact keeps_cond (fun _ => keeps_abort _) fun _ => keeps_returnProt h _ _)
    fun s hs => by rw [hs]; exact keeps_returnReal h

end Sys2Proof.Machine
end

