-- ==== Sys2Proof/Laws/Instructions.lean ====
section
/-! SUPPORT. What the operation behind each instruction keeps: the ones below the system instructions keep every
property closed under the updates a program makes, the system ones need closure under their own updates too. -/

namespace Sys2Proof.Machine

variable {α β : Type} {P : State → Prop}

/-! ### Data movement -/

theorem keeps_pushRegs (h : CoreClosed P) (w : Width) (rs : List Reg) : ∀ off, Keeps P (pushRegs w rs off) := by
  induction rs with
  | nil => exact fun _ => keeps_pure _
  | cons r rs ih =>
    exact fun _ => keeps_get_any fun _ => keeps_bind (keeps_accWrite h.toWalkClosed _ _ _) fun _ => ih _

theorem keeps_pushAll (h : CoreClosed P) (w : Width) : Keeps P (pushAll w) :=
  keeps_get_any fun _ => keeps_bind (keeps_pushRegs h _ _ _) fun _ =>
    keeps_bind (keeps_updReg h _ _ _) fun _ => keeps_advance h

theorem keeps_popItems (h : CoreClosed P) (w : Width) (k : Nat) : ∀ off, Keeps P (popItems w k off) := by
  induction k with
  | zero => exact fun _ => keeps_pure _
  | succ k ih =>
    exact fun _ => keeps_get_any fun _ => keeps_bind (keeps_accRead h.toWalkClosed _ _) fun _ =>
      keeps_bind (ih _) fun _ => keeps_pure _

theorem keeps_popAll (h : CoreClosed P) (w : Width) : Keeps P (popAll w) :=
  keeps_get_any fun _ => keeps_bind (keeps_popItems h _ _ _) fun _ => keeps_bind (keeps_updRegs h _) fun _ =>
    keeps_bind (keeps_updRegs h _) fun _ => keeps_bind (keeps_updReg h _ _ _) fun _ => keeps_advance h

theorem keeps_moveTo (h : CoreClosed P) (w : Width) (rm : Rm) {v : M W32} (hv : Keeps P v) :
    Keeps P (moveTo w rm v) :=
  keeps_bind hv fun _ => keeps_bind (keeps_writeRm h _ _ _) fun _ => keeps_advance h

theorem keeps_moveFrom (h : CoreClosed P) (wd : Width) (r : Reg) (ws : Width) (rm : Rm) (f : W32 → W32) :
    Keeps P (moveFrom wd r ws rm f) :=
  keeps_bind (keeps_readRm h.toWalkClosed _ _) fun _ => keeps_bind (keeps_writeReg h _ _ _) fun _ => keeps_advance h

theorem keeps_exchange (h : CoreClosed P) (w : Width) (rm : Rm) (r : Reg) : Keeps P (exchange w rm r) :=
  keeps_bind (keeps_locate rm) fun _ => keeps_bind (keeps_readLocW h.toWalkClosed _ _) fun _ =>
    keeps_bind (keeps_readReg _ _) fun _ => keeps_bind (keeps_writeBack h _ _ _ _) fun _ =>
      keeps_bind (keeps_writeReg h _ _ _) fun _ => keeps_advance h

theorem keeps_exchangeAcc (h : CoreClosed P) (w : Width) (r : Reg) : Keeps P (exchangeAcc w r) :=
  keeps_bind (keeps_readReg _ _) fun _ => keeps_bind (keeps_readReg _ _) fun _ =>
    keeps_bind (keeps_writeReg h _ _ _) fun _ => keeps_bind (keeps_writeReg h _ _ _) fun _ => keeps_advance h

theorem keeps_loadMoffs (h : CoreClosed P) (w : Width) (ia : ImmV) : Keeps P (loadMoffs w ia) :=
  keeps_get_any fun _ => keeps_bind (keeps_accRead h.toWalkClosed _ _) fun _ =>
    keeps_bind (keeps_writeReg h _ _ _) fun _ => keeps_advance h

theorem keeps_storeMoffs (h : CoreClosed P) (w : Width) (ia : ImmV) : Keeps P (storeMoffs w ia) :=
  keeps_get_any fun _ => keeps_bind (keeps_accWrite h.toWalkClosed _ _ _) fun _ => keeps_advance h

theorem keeps_loadEffAddr (h : CoreClosed P) (w : Width) (r : Reg) (rm : Rm) : Keeps P (loadEffAddr w r rm) :=
  keeps_bind (keeps_locateMem rm) fun _ => keeps_bind (keeps_writeReg h _ _ _) fun _ => keeps_advance h

theorem keeps_translateByte (h : CoreClosed P) : Keeps P translateByte :=
  keeps_get_any fun _ => keeps_bind (keeps_accRead h.toWalkClosed _ _) fun _ =>
    keeps_bind (keeps_writeReg h _ _ _) fun _ => keeps_advance h

theorem keeps_pushValue (h : CoreClosed P) (w : Width) {v : M W32} (hv : Keeps P v) : Keeps P (pushValue w v) :=
  keeps_bind hv fun _ => keeps_bind (keeps_push h _ _) fun _ => keeps_advance h

theorem keeps_popReg (h : CoreClosed P) (w : Width) (r : Reg) : Keeps P (popReg w r) :=
  keeps_bind (keeps_pop h _) fun _ => keeps_bind (keeps_writeReg h _ _ _) fun _ => keeps_advance h

theorem keeps_popRm (h : CoreClosed P) (w : Width) (rm : Rm) : Keeps P (popRm w rm) := by
  refine keeps_bind (keeps_locate rm) fun _ => keeps_get_any fun s =>
    keeps_bind (keeps_accRead h.toWalkClosed _ _) fun v => ?_
  dsimp only
  split
  · exact keeps_bind (keeps_updReg h _ _ _) fun _ => keeps_bind (keeps_writeReg h _ _ _) fun _ => keeps_advance h
  · exact keeps_bind (keeps_writeLoc h _ _ _) fun _ => keeps_bind (keeps_updReg h _ _ _) fun _ => keeps_advance h
  · exact keeps_raise _

theorem keeps_condMove (h : CoreClosed P) (w : Width) (c : Cond) (r : Reg) (rm : Rm) :
    Keeps P (condMove w c r rm) :=
  keeps_bind (keeps_readRm h.toWalkClosed _ _) fun _ =>
    keeps_bind (keeps_upd fun s hs => by
      cases s.cc.cond c with
      | true => exact h.setReg s _ _ _ hs
      | false => exact hs) fun _ => keeps_advance h

theorem keeps_condSet (h : CoreClosed P) (c : Cond) (rm : Rm) : Keeps P (condSet c rm) :=
  keeps_get_any fun _ => keeps_bind (keeps_writeRm h _ _ _) fun _ => keeps_advance h

/-! ### Arithmetic, logic, shifts -/

theorem aluRecord_op2 (op : AluOp) (w : Width) (c : CC) (a b : W32) : (aluRecord op w c a b).op2 = c.op2 := by
  cases op <;> rfl

theorem keeps_aluToRm (h : CoreClosed P) (op : AluOp) (w : Width) (rm : Rm) {src : M W32} (hs : Keeps P src) :
    Keeps P (aluToRm op w rm src) :=
  have hw := h.toWalkClosed
  keeps_bind (keeps_locate rm) fun _ =>
    keeps_cond
      (fun _ => keeps_bind (keeps_readLocW hw _ _) fun _ => keeps_bind hs fun _ => keeps_get_any fun _ =>
        keeps_bind (keeps_writeBack h _ _ _ _) fun _ =>
          keeps_bind (keeps_updCc h fun c => .inl (aluRecord_op2 op w c _ _)) fun _ => keeps_advance h)
      fun _ => keeps_bind (keeps_readLoc hw _ _) fun _ => keeps_bind hs fun _ =>
        keeps_bind (keeps_updCc h fun c => .inl (aluRecord_op2 op w c _ _)) fun _ => keeps_advance h

theorem keeps_aluToReg (h : CoreClosed P) (op : AluOp) (w : Width) (r : Reg) {src : M W32} (hs : Keeps P src) :
    Keeps P (aluToReg op w r src) :=
  keeps_bind (keeps_readReg _ _) fun _ => keeps_bind hs fun _ => keeps_get_any fun _ =>
    keeps_bind (keeps_cond (fun _ => keeps_writeReg h _ _ _) fun _ => keeps_pure _) fun _ =>
      keeps_bind (keeps_updCc h fun c => .inl (aluRecord_op2 op w c _ _)) fun _ => keeps_advance h

theorem keeps_testWith (h : CoreClosed P) (w : Width) {x y : M W32} (hx : Keeps P x) (hy : Keeps P y) :
    Keeps P (testWith w x y) :=
  keeps_bind hx fun _ => keeps_bind hy fun _ => keeps_bind (keeps_updCc h fun _ => .inl rfl) fun _ => keeps_advance h

theorem keeps_incDecLoc (h : CoreClosed P) (f : Family) (w : Width) (l : Loc) : Keeps P (incDecLoc f w l) :=
  keeps_bind (keeps_readLocW h.toWalkClosed _ _) fun _ => keeps_bind (keeps_writeBack h _ _ _ _) fun _ =>
    keeps_bind (keeps_updCc h fun _ => .inr rfl) fun _ => keeps_advance h

theorem keeps_incDecRm (h : CoreClosed P) (f : Family) (w : Width) (rm : Rm) : Keeps P (incDecRm f w rm) :=
  keeps_bind (keeps_locate rm) fun _ => keeps_incDecLoc h _ _ _

theorem keeps_negate (h : CoreClosed P) (w : Width) (rm : Rm) : Keeps P (negate w rm) :=
  keeps_bind (keeps_locate rm) fun _ => keeps_bind (keeps_readLocW h.toWalkClosed _ _) fun _ =>
    keeps_bind (keeps_writeBack h _ _ _ _) fun _ => keeps_bind (keeps_updCc h fun _ => .inl rfl) fun _ => keeps_advance h

theorem keeps_complement (h : CoreClosed P) (w : Width) (rm : Rm) : Keeps P (complement w rm) :=
  keeps_bind (keeps_locate rm) fun _ => keeps_bind (keeps_readLocW h.toWalkClosed _ _) fun _ =>
    keeps_bind (keeps_writeBack h _ _ _ _) fun _ => keeps_advance h

theorem keeps_mulUnsigned (h : CoreClosed P) (w : Width) (rm : Rm) : Keeps P (mulUnsigned w rm) :=
  keeps_bind (keeps_readRm h.toWalkClosed _ _) fun _ => keeps_bind (keeps_readReg _ _) fun _ =>
    keeps_bind (keeps_updRegs h _) fun _ => keeps_bind (keeps_updCc h fun _ => .inl rfl) fun _ => keeps_advance h

theorem keeps_mulSigned (h : CoreClosed P) (w : Width) (rm : Rm) : Keeps P (mulSigned w rm) :=
  keeps_bind (keeps_readRm h.toWalkClosed _ _) fun _ => keeps_bind (keeps_readReg _ _) fun _ =>
    keeps_bind (keeps_updRegs h _) fun _ => keeps_bind (keeps_updCc h fun _ => .inl rfl) fun _ => keeps_advance h

theorem keeps_mulInto (h : CoreClosed P) (w : Width) (r : Reg) {x y : M W32} (hx : Keeps P x) (hy : Keeps P y) :
    Keeps P (mulInto w r x y) :=
  keeps_bind hx fun _ => keeps_bind hy fun _ => keeps_bind (keeps_writeReg h _ _ _) fun _ =>
    keeps_bind (keeps_updCc h fun _ => .inl rfl) fun _ => keeps_advance h

theorem keeps_divUnsigned (h : CoreClosed P) (w : Width) (rm : Rm) : Keeps P (divUnsigned w rm) :=
  keeps_bind (keeps_readRm h.toWalkClosed _ _) fun _ => keeps_get_any fun _ => keeps_bind (keeps_raiseIf _ _) fun _ =>
    keeps_bind (keeps_raiseIf _ _) fun _ => keeps_bind (keeps_updRegs h _) fun _ => keeps_advance h

theorem keeps_divSigned (h : CoreClosed P) (w : Width) (rm : Rm) : Keeps P (divSigned w rm) :=
  keeps_bind (keeps_readRm h.toWalkClosed _ _) fun _ => keeps_get_any fun _ => keeps_bind (keeps_raiseIf _ _) fun _ =>
    keeps_bind (keeps_raiseIf _ _) fun _ => keeps_bind (keeps_updRegs h _) fun _ => keeps_advance h

theorem keeps_decimalAdjust (h : CoreClosed P) (b : Bool) : Keeps P (decimalAdjust b) :=
  keeps_get_any fun _ => keeps_bind (keeps_writeReg h _ _ _) fun _ =>
    keeps_bind (keeps_updCc h fun _ => .inl rfl) fun _ => keeps_advance h

theorem keeps_asciiAdjust (h : CoreClosed P) (b : Bool) : Keeps P (asciiAdjust b) :=
  keeps_get_any fun _ => keeps_bind (keeps_writeReg h _ _ _) fun _ =>
    keeps_bind (keeps_upd fun s hs => h.setReg s _ _ _ hs) fun _ =>
      keeps_bind (keeps_updCc h fun _ => .inl rfl) fun _ => keeps_advance h

theorem keeps_asciiMul (h : CoreClosed P) (b : Byte) : Keeps P (asciiMul b) :=
  keeps_bind (keeps_raiseIf _ _) fun _ => keeps_bind (keeps_readReg _ _) fun _ =>
    keeps_bind (keeps_writeReg h _ _ _) fun _ => keeps_bind (keeps_writeReg h _ _ _) fun _ =>
      keeps_bind (keeps_updCc h fun _ => .inl rfl) fun _ => keeps_advance h

theorem keeps_asciiDiv (h : CoreClosed P) (b : Byte) : Keeps P (asciiDiv b) :=
  keeps_bind (keeps_readReg _ _) fun _ => keeps_bind (keeps_readReg _ _) fun _ =>
    keeps_bind (keeps_writeReg h _ _ _) fun _ => keeps_bind (keeps_writeReg h _ _ _) fun _ =>
      keeps_bind (keeps_updCc h fun _ => .inl rfl) fun _ => keeps_advance h

theorem keeps_compareExchange (h : CoreClosed P) (w : Width) (rm : Rm) (r : Reg) : Keeps P (compareExchange w rm r) :=
  keeps_bind (keeps_locate rm) fun _ => keeps_bind (keeps_readLocW h.toWalkClosed _ _) fun _ =>
    keeps_bind (keeps_readReg _ _) fun _ => keeps_bind (keeps_readReg _ _) fun _ =>
      keeps_bind (keeps_cond (fun _ => keeps_writeBack h _ _ _ _) fun _ => keeps_writeReg h _ _ _) fun _ =>
        keeps_bind (keeps_updCc h fun _ => .inl rfl) fun _ => keeps_advance h

theorem keeps_exchangeAdd (h : CoreClosed P) (w : Width) (rm : Rm) (r : Reg) : Keeps P (exchangeAdd w rm r) := by
  refine keeps_bind (keeps_locate rm) fun l => keeps_bind (keeps_readLocW h.toWalkClosed _ _) fun _ =>
    keeps_bind (keeps_readReg _ _) fun _ => ?_
  have last : Keeps P advance := keeps_advance h
  cases l with
  | reg q =>
    exact keeps_bind (keeps_writeReg h _ _ _) fun _ => keeps_bind (keeps_writeReg h _ _ _) fun _ =>
      keeps_bind (keeps_updCc h fun _ => .inl rfl) fun _ => last
  | mem n off =>
    exact keeps_bind (keeps_writeBack h _ _ _ _) fun _ => keeps_bind (keeps_writeReg h _ _ _) fun _ =>
      keeps_bind (keeps_updCc h fun _ => .inl rfl) fun _ => last

theorem shiftFlags_op2 (op : ShiftOp) (w : Width) (c : CC) (x : W32) (n : Nat) : (shiftFlags op w c x n).op2 = c.op2 := by
  cases op <;> rfl

theorem keeps_shiftRm (h : CoreClosed P) (op : ShiftOp) (w : Width) (rm : Rm) {k : M W32} (hk : Keeps P k) :
    Keeps P (shiftRm op w rm k) :=
  keeps_bind (keeps_locate rm) fun _ => keeps_bind (keeps_readLocW h.toWalkClosed _ _) fun _ => keeps_bind hk fun _ =>
    keeps_get_any fun _ => keeps_cond
      (fun _ => keeps_bind (keeps_writeBack h _ _ _ _) fun _ => keeps_advance h)
      fun _ => keeps_bind (keeps_writeBack h _ _ _ _) fun _ =>
        keeps_bind (keeps_updCc h fun c => .inl (shiftFlags_op2 op w c _ _)) fun _ => keeps_advance h

theorem keeps_doubleShift (h : CoreClosed P) (left : Bool) (w : Width) (rm : Rm) (r : Reg) {k : M W32}
    (hk : Keeps P k) : Keeps P (doubleShift left w rm r k) :=
  keeps_bind hk fun _ => keeps_bind (keeps_locate rm) fun _ => keeps_bind (keeps_readLocW h.toWalkClosed _ _) fun _ =>
    keeps_bind (keeps_readReg _ _) fun _ => keeps_cond
      (fun _ => keeps_bind (keeps_writeBack h _ _ _ _) fun _ => keeps_advance h)
      fun _ => keeps_bind (keeps_writeBack h _ _ _ _) fun _ =>
        keeps_bind (keeps_updCc h fun _ => .inl rfl) fun _ => keeps_advance h

theorem keeps_bitByImm (w : Width) (rm : Rm) (ib : Byte) : Keeps P (bitByImm w rm ib) :=
  keeps_bind (keeps_locate rm) fun _ => keeps_pure _

theorem keeps_bitByReg (w : Width) (rm : Rm) (r : Reg) : Keeps P (bitByReg w rm r) := by
  refine keeps_bind (keeps_locate rm) fun l => keeps_get_any fun s => ?_
  cases l <;> exact keeps_pure _

theorem keeps_bitTest (h : CoreClosed P) (w : Width) {pl : M (Loc × Nat)} (hp : Keeps P pl) : Keeps P (bitTest w pl) :=
  keeps_bind hp fun _ => keeps_bind (keeps_readLoc h.toWalkClosed _ _) fun _ =>
    keeps_bind (keeps_updCc h fun _ => .inl rfl) fun _ => keeps_advance h

theorem keeps_bitModify (h : CoreClosed P) (op : BitOp) (w : Width) {pl : M (Loc × Nat)} (hp : Keeps P pl) :
    Keeps P (bitModify op w pl) :=
  keeps_bind hp fun _ => keeps_bind (keeps_readLocW h.toWalkClosed _ _) fun _ =>
    keeps_bind (keeps_writeBack h _ _ _ _) fun _ => keeps_bind (keeps_updCc h fun _ => .inl rfl) fun _ => keeps_advance h

theorem keeps_bitScan (h : CoreClosed P) (pick : W32 → Nat) (w : Width) (r : Reg) (rm : Rm) :
    Keeps P (bitScan pick w r rm) :=
  keeps_bind (keeps_readRm h.toWalkClosed _ _) fun _ => keeps_cond
    (fun _ => keeps_bind (keeps_updCc h fun _ => .inl rfl) fun _ => keeps_advance h)
    fun _ => keeps_bind (keeps_writeReg h _ _ _) fun _ =>
      keeps_bind (keeps_updCc h fun _ => .inl rfl) fun _ => keeps_advance h

/-! ### Control transfer, strings, ports -/

theorem keeps_branchIf (h : CoreClosed P) (c : Bool) (d : W32) : Keeps P (branchIf c d) :=
  keeps_get_any fun _ => keeps_jumpTo h _

theorem keeps_callNear (h : CoreClosed P) (w : Width) {t : M W32} (ht : Keeps P t) : Keeps P (callNear w t) :=
  keeps_bind ht fun _ => keeps_get_any fun _ => keeps_bind (keeps_push h _ _) fun _ => keeps_jumpTo h _

theorem keeps_retNear (h : CoreClosed P) (w : Width) (imm : W32) : Keeps P (retNear w imm) :=
  keeps_get_any fun _ => keeps_bind (keeps_accRead h.toWalkClosed _ _) fun _ =>
    keeps_bind (keeps_updReg h _ _ _) fun _ => keeps_jumpTo h _

theorem keeps_countLoop (h : CoreClosed P) (test : Bool → Bool) (d : W32) : Keeps P (countLoop test d) :=
  keeps_get_any fun _ => keeps_bind (keeps_writeReg h _ _ _) fun _ => keeps_jumpTo h _

theorem keeps_enterCopies (h : CoreClosed P) (w : Width) (k : Nat) : ∀ bp sp, Keeps P (enterCopies w k bp sp) := by
  induction k with
  | zero => exact fun _ _ => keeps_pure _
  | succ k ih =>
    exact fun _ _ => keeps_get_any fun _ => keeps_bind (keeps_accRead h.toWalkClosed _ _) fun _ =>
      keeps_bind (keeps_accWrite h.toWalkClosed _ _ _) fun _ => ih _ _

theorem keeps_enterFrame (h : CoreClosed P) (w : Width) (size : W32) (lvl : Byte) : Keeps P (enterFrame w size lvl) :=
  have hw := h.toWalkClosed
  keeps_get_any fun _ => keeps_bind (keeps_accWrite hw _ _ _) fun _ =>
    keeps_bind (keeps_cond (fun _ => keeps_pure _) fun _ => keeps_bind (keeps_enterCopies h _ _ _ _) fun _ =>
      keeps_bind (keeps_accWrite hw _ _ _) fun _ => keeps_pure _) fun _ =>
        keeps_bind (keeps_updReg h _ _ _) fun _ => keeps_bind (keeps_updReg h _ _ _) fun _ => keeps_advance h

theorem keeps_leaveFrame (h : CoreClosed P) (w : Width) : Keeps P (leaveFrame w) :=
  keeps_get_any fun _ => keeps_bind (keeps_accRead h.toWalkClosed _ _) fun _ =>
    keeps_bind (keeps_updReg h _ _ _) fun _ => keeps_bind (keeps_writeReg h _ _ _) fun _ => keeps_advance h

theorem keeps_softInterrupt (h : CoreClosed P) (v : Byte) : Keeps P (softInterrupt v) :=
  keeps_get_any fun _ => keeps_deliver h _ _ _ _ _

theorem keeps_boundCheck (h : CoreClosed P) (w : Width) (r : Reg) (rm : Rm) : Keeps P (boundCheck w r rm) :=
  have hw := h.toWalkClosed
  keeps_bind (keeps_locateMem rm) fun _ => keeps_get_any fun _ => keeps_bind (keeps_accRead hw _ _) fun _ =>
    keeps_bind (keeps_accRead hw _ _) fun _ => keeps_bind (keeps_raiseIf _ _) fun _ => keeps_advance h

theorem keeps_strAdvance (h : CoreClosed P) (w : Width) (r : Reg) : Keeps P (upd fun s => s.strAdvance w r) :=
  keeps_upd fun s hs => h.setReg s _ _ _ hs

theorem keeps_repeated (h : CoreClosed P) (b : Bool) {e : M Unit} (he : Keeps P e) : Keeps P (repeated b e) := by
  refine keeps_get_any fun s => ?_
  cases s.dec.rep with
  | none => exact keeps_bind he fun _ => keeps_advance h
  | some rp =>
    exact keeps_cond (fun _ => keeps_advance h) fun _ => keeps_bind he fun _ =>
      keeps_bind (keeps_writeReg h _ _ _) fun _ =>
        keeps_get_any fun _ => keeps_cond (fun _ => keeps_advance h) fun _ => keeps_pure _

theorem keeps_movsElem (h : CoreClosed P) (w : Width) : Keeps P (movsElem w) :=
  have hw := h.toWalkClosed
  keeps_get_any fun _ => keeps_bind (keeps_accRead hw _ _) fun _ => keeps_bind (keeps_accWrite hw _ _ _) fun _ =>
    keeps_bind (keeps_strAdvance h _ _) fun _ => keeps_strAdvance h _ _

theorem keeps_cmpsElem (h : CoreClosed P) (w : Width) : Keeps P (cmpsElem w) :=
  have hw := h.toWalkClosed
  keeps_get_any fun _ => keeps_bind (keeps_accRead hw _ _) fun _ => keeps_bind (keeps_accRead hw _ _) fun _ =>
    keeps_bind (keeps_updCc h fun _ => .inl rfl) fun _ =>
      keeps_bind (keeps_strAdvance h _ _) fun _ => keeps_strAdvance h _ _

theorem keeps_stosElem (h : CoreClosed P) (w : Width) : Keeps P (stosElem w) :=
  keeps_get_any fun _ => keeps_bind (keeps_accWrite h.toWalkClosed _ _ _) fun _ => keeps_strAdvance h _ _

theorem keeps_lodsElem (h : CoreClosed P) (w : Width) : Keeps P (lodsElem w) :=
  keeps_get_any fun _ => keeps_bind (keeps_accRead h.toWalkClosed _ _) fun _ =>
    keeps_bind (keeps_writeReg h _ _ _) fun _ => keeps_strAdvance h _ _

theorem keeps_scasElem (h : CoreClosed P) (w : Width) : Keeps P (scasElem w) :=
  keeps_get_any fun _ => keeps_bind (keeps_accRead h.toWalkClosed _ _) fun _ =>
    keeps_bind (keeps_updCc h fun _ => .inl rfl) fun _ => keeps_strAdvance h _ _

theorem keeps_insElem (h : CoreClosed P) (w : Width) : Keeps P (insElem w) :=
  have hw := h.toWalkClosed
  keeps_bind keeps_ioCheck fun _ => keeps_get_any fun _ => keeps_bind (keeps_accProbe hw _ _) fun _ =>
    keeps_bind (keeps_portRead h _ _) fun _ => keeps_bind (keeps_accWriteProbed hw _ _ _ _) fun _ => keeps_strAdvance h _ _

theorem keeps_outsElem (h : CoreClosed P) (w : Width) : Keeps P (outsElem w) :=
  keeps_bind keeps_ioCheck fun _ => keeps_get_any fun _ => keeps_bind (keeps_accRead h.toWalkClosed _ _) fun _ =>
    keeps_bind (keeps_portWrite h _ _ _) fun _ => keeps_strAdvance h _ _

theorem keeps_portIn (h : CoreClosed P) (w : Width) (p : W16) : Keeps P (portIn w p) :=
  keeps_bind keeps_ioCheck fun _ => keeps_bind (keeps_portRead h _ _) fun _ =>
    keeps_bind (keeps_writeReg h _ _ _) fun _ => keeps_advance h

theorem keeps_portOut (h : CoreClosed P) (w : Width) (p : W16) : Keeps P (portOut w p) :=
  keeps_bind keeps_ioCheck fun _ => keeps_get_any fun _ => keeps_bind (keeps_portWrite h _ _ _) fun _ =>
    keeps_advance h

/-! ### Segments and far transfers -/

theorem keeps_storeSelector (h : CoreClosed P) (w : Width) (rm : Rm) (n : Sreg) : Keeps P (storeSelector w rm n) :=
  keeps_get_any fun _ => keeps_bind (keeps_storeWord h _ _ _) fun _ => keeps_advance h

theorem keeps_pushSelector (h : CoreClosed P) (w : Width) (n : Sreg) : Keeps P (pushSelector w n) :=
  keeps_get_any fun _ => keeps_bind (keeps_push h _ _) fun _ => keeps_advance h

theorem keeps_popSelector (h : CoreClosed P) {n : Sreg} (h1 : n ≠ .ldtr) (h2 : n ≠ .tr) (w : Width) :
    Keeps P (popSelector w n) :=
  keeps_get_any fun _ => keeps_bind (keeps_accRead h.toWalkClosed _ _) fun _ =>
    keeps_bind (keeps_loadSeg h h1 h2 _) fun _ => keeps_bind (keeps_updReg h _ _ _) fun _ => keeps_advance h

theorem keeps_readFarPointer (h : CoreClosed P) (w : Width) (rm : Rm) : Keeps P (readFarPointer w rm) :=
  have hw := h.toWalkClosed
  keeps_bind (keeps_locateMem rm) fun _ => keeps_get_any fun _ => keeps_bind (keeps_accRead hw _ _) fun _ =>
    keeps_bind (keeps_accRead hw _ _) fun _ => keeps_pure _

theorem keeps_loadFarPointer (h : CoreClosed P) {n : Sreg} (h1 : n ≠ .ldtr) (h2 : n ≠ .tr) (w : Width) (r : Reg)
    (rm : Rm) : Keeps P (loadFarPointer w n r rm) :=
  keeps_bind (keeps_readFarPointer h _ _) fun _ => keeps_bind (keeps_loadSeg h h1 h2 _) fun _ =>
    keeps_bind (keeps_writeReg h _ _ _) fun _ => keeps_advance h

theorem keeps_farSystem (sel : W16) (e2 : W32) : Keeps P (farSystem (α := α) sel e2) :=
  keeps_cond (fun _ => keeps_abort _) fun _ => keeps_cond (fun _ => keeps_abort _) fun _ => keeps_raise _

theorem keeps_farCodeChecks (sel : W16) (off : W32) (d : Desc) : Keeps P (farCodeChecks sel off d) :=
  keeps_get_any fun _ => keeps_bind (keeps_raiseIf _ _) fun _ => keeps_bind (keeps_raiseIf _ _) fun _ =>
    keeps_bind (keeps_raiseIf _ _) fun _ => keeps_raiseIf _ _

theorem keeps_farJump (h : CoreClosed P) (sel : W16) (off : W32) : Keeps P (farJump sel off) := by
  have hw := h.toWalkClosed
  refine keeps_get_any fun s => keeps_cond
    (fun _ => keeps_bind (keeps_loadSegReal h (by decide) (by decide) _) fun _ => keeps_jumpTo h _) fun _ => ?_
  exact keeps_get_any fun _ => keeps_bind (keeps_raiseIf _ _) fun _ => keeps_bind (keeps_descReadOr hw _ _) fun _ =>
    keeps_cond (fun _ => keeps_cond (fun _ => keeps_abort _) fun _ => keeps_farSystem _ _) fun _ =>
      keeps_bind (keeps_farCodeChecks _ _ _) fun _ => keeps_bind (keeps_markAccessed hw _) fun _ =>
        keeps_bind (keeps_setSegFrom h (by decide) (by decide) _ _) fun _ => keeps_jumpTo h _

theorem keeps_pushReturn (h : CoreClosed P) (w : Width) : Keeps P (pushReturn w) :=
  have hw := h.toWalkClosed
  keeps_get_any fun _ => keeps_bind (keeps_accWrite hw _ _ _) fun _ => keeps_bind (keeps_accWrite hw _ _ _) fun _ =>
    keeps_updReg h _ _ _

theorem keeps_copyParams (h : CoreClosed P) (w : Width) (osp nb nm : W32) (k : Nat) :
    ∀ p, Keeps P (copyParams w osp nb nm k p) := by
  have hw := h.toWalkClosed
  induction k with
  | zero => exact fun _ => keeps_pure _
  | succ k ih =>
    exact fun _ => keeps_get_any fun _ => keeps_bind (keeps_accRead hw _ _) fun _ =>
      keeps_bind (keeps_pushList hw _ _ _ _ _ _) fun _ => ih _

/-- A call through a gate to an inner level keeps the property and the mode. -/
theorem keeps_callGateInner (h : CoreClosed P) (gw : Width) (tsel : W16) (toff : W32) (n : Nat) (t : Desc) :
    Keeps (fun s => P s ∧ s.pe = true) (callGateInner gw tsel toff n t) := by
  have q := h.andPe true
  have w := q.toWalkClosed
  refine keeps_get_any fun s => ?_
  repeat' first
    | exact keeps_jumpTo q _
    | refine keeps_bind (keeps_raiseIf _ _) fun _ => ?_
    | refine keeps_bind (keeps_innerStack w _) fun _ => ?_
    | refine keeps_bind (keeps_markAccessed w _) fun _ => ?_
    | refine keeps_bind (keeps_pushList w _ _ _ _ _ _) fun _ => ?_
    | refine keeps_bind (keeps_copyParams q _ _ _ _ _ _) fun _ => ?_
    | refine keeps_bind (keeps_updReg q _ _ _) fun _ => ?_
    | refine keeps_bind (keeps_upd fun s hs => q.cpl s _ hs.2 hs) fun _ => ?_
    | refine keeps_bind (keeps_setSegFrom q (by decide) (by decide) _ _) fun _ => ?_

theorem keeps_callGate (h : CoreClosed P) (sel : W16) (g : Desc) :
    Keeps (fun s => P s ∧ s.pe = true) (callGate sel g) := by
  have q := h.andPe true
  have w := q.toWalkClosed
  refine keeps_get_any fun s => ?_
  repeat' first
    | exact keeps_jumpTo q _
    | exact keeps_callGateInner h _ _ _ _ _
    | refine keeps_bind (keeps_raiseIf _ _) fun _ => ?_
    | refine keeps_bind (keeps_gateTarget w _) fun _ => ?_
    | refine keeps_bind (keeps_markAccessed w _) fun _ => ?_
    | refine keeps_bind (keeps_pushReturn q _) fun _ => ?_
    | refine keeps_bind (keeps_setSegFrom q (by decide) (by decide) _ _) fun _ => ?_
    | refine keeps_cond (fun _ => ?_) fun _ => ?_

theorem keeps_farCallProt (h : CoreClosed P) (w : Width) (sel : W16) (off : W32) :
    Keeps (fun s => P s ∧ s.pe = true) (farCallProt w sel off) := by
  have q := h.andPe true
  have hw := q.toWalkClosed
  exact keeps_get_any fun _ => keeps_bind (keeps_raiseIf _ _) fun _ => keeps_bind (keeps_descReadOr hw _ _) fun _ =>
    keeps_cond (fun _ => keeps_cond (fun _ => keeps_callGate h _ _) fun _ => keeps_farSystem _ _) fun _ =>
      keeps_bind (keeps_farCodeChecks _ _ _) fun _ => keeps_bind (keeps_markAccessed hw _) fun _ =>
        keeps_bind (keeps_pushReturn q _) fun _ =>
          keeps_bind (keeps_setSegFrom q (by decide) (by decide) _ _) fun _ => keeps_jumpTo q _

theorem keeps_farCall (h : CoreClosed P) (w : Width) (sel : W16) (off : W32) : Keeps P (farCall w sel off) :=
  keeps_get_pe
    (fun s hs => by
      rw [hs, Bool.not_true, cond_false]
      exact keeps_farCallProt h _ _ _)
    fun s hs => by
      rw [hs, Bool.not_false, cond_true]
      exact keeps_bind (keeps_pushReturn h _) fun _ =>
        keeps_bind (keeps_loadSegReal h (by decide) (by decide) _) fun _ => keeps_jumpTo h _

theorem keeps_farReturn (h : CoreClosed P) (w : Width) (imm : W32) : Keeps P (farReturn w imm) :=
  keeps_get_pe
    (fun s hs => by
      rw [hs, Bool.not_true, cond_false]
      exact keeps_returnProt h _ _)
    fun s hs => by
      rw [hs, Bool.not_false, cond_true]
      have hw := h.toWalkClosed
      exact keeps_bind (keeps_accRead hw _ _) fun _ => keeps_bind (keeps_accRead hw _ _) fun _ =>
        keeps_bind (keeps_updReg h _ _ _) fun _ =>
          keeps_bind (keeps_loadSegReal h (by decide) (by decide) _) fun _ => keeps_jumpTo h _

/-! ### System instructions -/

/-- The updates only the system instructions make, each with what is known where it is made. -/
structure SystemClosed (P : State → Prop) : Prop extends CoreClosed P where
  halted : ∀ s b, P s → P (s.setHalted b)
  gdtr : ∀ (s : State) t, t.limit.toNat ≤ 0xFFFF → P s → P (s.setGdtr t)
  idtr : ∀ (s : State) t, t.limit.toNat ≤ 0xFFFF → P s → P (s.setIdtr t)
  sysSeg : ∀ s n r, P s → P (s.setSegReg n r)
  cr0 : ∀ (s : State) v, s.cpl = 0#2 → v.getLsbD 4 = true → P s → P (s.setCr0 v)
  cr3 : ∀ s v, P s → P (s.setCr3 v)
  cr4 : ∀ s v, P s → P (s.setCr4 v)
  flushAll : ∀ s : State, P s → P s.tlbFlushAll
  flushPage : ∀ (s : State) la, P s → P (s.tlbFlushPage (vpnOf la))

theorem keeps_privileged : Keeps P privileged := keeps_get_any fun _ => keeps_raiseIf _ _

theorem keeps_protectedOnly : Keeps P protectedOnly := keeps_get_any fun _ => keeps_raiseIf _ _

theorem keeps_setZf (h : CoreClosed P) (b : Bool) : Keeps P (setZf b) := keeps_updCc h fun _ => .inl rfl

theorem keeps_storeTable (h : CoreClosed P) (rm : Rm) (t : TableReg) : Keeps P (storeTable rm t) :=
  have hw := h.toWalkClosed
  keeps_bind (keeps_locateMem rm) fun _ => keeps_get_any fun _ => keeps_bind (keeps_accWrite hw _ _ _) fun _ =>
    keeps_bind (keeps_accWrite hw _ _ _) fun _ => keeps_advance h

theorem keeps_descIfAny (h : CoreClosed P) (sel : W16) : Keeps P (descIfAny sel) :=
  keeps_cond (fun _ => keeps_pure _) fun _ => keeps_descRead h.toWalkClosed _

theorem keeps_verify (h : CoreClosed P) (test : BitVec 2 → W16 → W32 → Bool) (rm : Rm) : Keeps P (verify test rm) :=
  keeps_bind (keeps_readRm h.toWalkClosed _ _) fun _ => keeps_get_any fun _ =>
    keeps_bind (keeps_descIfAny h _) fun _ => keeps_bind (keeps_setZf h _) fun _ => keeps_advance h

theorem keeps_adjustRpl (h : CoreClosed P) (rm : Rm) (r : Reg) : Keeps P (adjustRpl rm r) :=
  keeps_bind (keeps_locate rm) fun _ => keeps_bind (keeps_readLocW h.toWalkClosed _ _) fun _ =>
    keeps_bind (keeps_readReg _ _) fun _ => keeps_cond
      (fun _ => keeps_bind (keeps_writeBack h _ _ _ _) fun _ => keeps_bind (keeps_setZf h _) fun _ => keeps_advance h)
      fun _ => keeps_bind (keeps_setZf h _) fun _ => keeps_advance h

theorem keeps_loadDescInfo (h : CoreClosed P) (w : Width) (r : Reg) (rm : Rm) (types : BitVec 4 → Bool)
    (info : Desc → W32) : Keeps P (loadDescInfo w r rm types info) := by
  refine keeps_bind (keeps_readRm h.toWalkClosed _ _) fun _ => keeps_get_any fun _ =>
    keeps_bind (keeps_descIfAny h _) fun d => ?_
  have no : Keeps P (do setZf false; advance) := keeps_bind (keeps_setZf h _) fun _ => keeps_advance h
  cases d with
  | none => exact no
  | some d =>
    exact keeps_cond (fun _ => keeps_bind (keeps_writeReg h _ _ _) fun _ =>
      keeps_bind (keeps_setZf h _) fun _ => keeps_advance h) fun _ => no

theorem keeps_loadLdtr (h : SystemClosed P) (rm : Rm) : Keeps P (loadLdtr rm) := by
  have hw := h.toWalkClosed
  have set (n sel b l r) : Keeps P (setSeg n sel b l r) := keeps_upd fun s hs => h.sysSeg s n _ hs
  have last := keeps_advance h.toCoreClosed
  exact keeps_bind (keeps_readRm hw _ _) fun _ => keeps_cond
    (fun _ => keeps_bind (set _ _ _ _ _) fun _ => last)
    fun _ => keeps_bind (keeps_raiseIf _ _) fun _ => keeps_bind (keeps_descReadOr hw _ _) fun _ =>
      keeps_bind (keeps_raiseIf _ _) fun _ => keeps_bind (keeps_raiseIf _ _) fun _ =>
        keeps_bind (set _ _ _ _ _) fun _ => last

theorem keeps_loadTr (h : SystemClosed P) (rm : Rm) : Keeps P (loadTr rm) := by
  have hw := h.toWalkClosed
  have set (n sel b l r) : Keeps P (setSeg n sel b l r) := keeps_upd fun s hs => h.sysSeg s n _ hs
  exact keeps_bind (keeps_readRm hw _ _) fun _ => keeps_bind (keeps_raiseIf _ _) fun _ =>
    keeps_bind (keeps_raiseIf _ _) fun _ => keeps_bind (keeps_descReadOr hw _ _) fun _ =>
      keeps_bind (keeps_raiseIf _ _) fun _ => keeps_bind (keeps_raiseIf _ _) fun _ =>
        keeps_bind (keeps_sysWrite hw _ _ _) fun _ => keeps_bind (set _ _ _ _ _) fun _ => keeps_advance h.toCoreClosed

/-- WriteCR0 at level 0. -/
theorem SystemClosed.writeCr0 (h : SystemClosed P) (s : State) (v : W32) (hc : s.cpl = 0#2) (hs : P s) :
    P (s.writeCr0 v) := by
  have et : (v ||| 0x00000010#32).getLsbD 4 = true := by rw [BitVec.getLsbD_or]; exact Bool.or_true _
  unfold State.writeCr0
  dsimp only
  cases ((v ||| 0x00000010#32) ^^^ s.cr0) &&& 0x80010001#32 == 0#32 with
  | true => exact h.cr0 s _ hc et hs
  | false => exact h.cr0 _ _ hc et (h.flushAll s hs)

/-- A value read as two bytes has 16 bits. -/
theorem physReadAt_two {a b : W32} {s t : State} {v : W32} (h : physReadAt [a, b] s = .ok v t) : v.toNat ≤ 0xFFFF := by
  unfold physReadAt at h
  rw [run_bind_get, run_cond] at h
  cases hm : [a, b].all s.inMem with
  | false => rw [hm] at h; cases h
  | true =>
    rw [hm] at h
    cases h
    simp only [List.map_cons, List.map_nil, ofBytes]
    generalize s.byteAt a = x
    generalize s.byteAt b = y
    have : ((0#32 <<< 8 ||| y.setWidth 32) <<< 8 ||| x.setWidth 32) = (y ++ x : BitVec 16).setWidth 32 := by
      ext k hk
      simp only [BitVec.getElem_or, BitVec.getElem_shiftLeft, BitVec.getElem_setWidth, BitVec.getLsbD_append]
      by_cases h8 : k < 8
      · simp [h8]
      · simp [h8, BitVec.getLsbD_of_ge x k (by omega)]
    rw [this, BitVec.toNat_setWidth]
    have := (y ++ x : BitVec 16).isLt
    omega

theorem linRead_two {la : W32} {user : Bool} {s t : State} {v : W32} (h : linRead la 2 user s = .ok v t) :
    v.toNat ≤ 0xFFFF := by
  unfold linRead translateSpan at h
  obtain ⟨as, u, h1, h2⟩ := bind_ok_iff.mp h
  obtain ⟨p, u1, _, h1⟩ := bind_ok_iff.mp h1
  rcases cond_ok_iff.mp h1 with ⟨_, h1⟩ | ⟨_, h1⟩
  · rw [← (pure_ok_iff.mp h1).1] at h2
    exact physReadAt_two h2
  · obtain ⟨q, u2, _, h1⟩ := bind_ok_iff.mp h1
    rw [← (pure_ok_iff.mp h1).1] at h2
    exact physReadAt_two h2

theorem accRead_two {la : W32} {s t : State} {v : W32} (h : accRead la 2 s = .ok v t) : v.toNat ≤ 0xFFFF := by
  unfold accRead at h
  rw [run_bind_get] at h
  exact linRead_two h

/-- Once the level is known to be 0, what follows may rely on it. -/
theorem keeps_privileged_bind {f : Unit → M β}
    (hf : ∀ s, P s → s.cpl = 0#2 → (∀ a t, f () s = .ok a t → P t) ∧ ∀ e t, f () s = .error e t → P t) :
    Keeps P (privileged >>= f) := fun s hs => by
  by_cases hc : s.cpl = 0#2
  · have hp : privileged s = .ok () s := by
      unfold privileged
      rw [run_bind_get, hc]
      rfl
    rw [run_bind_ok hp]
    exact hf s hs hc
  · have hp : privileged s = .error (.raise (.gp 0#32)) s := by
      have : (s.cpl != 0#2) = true := by simpa using hc
      unfold privileged
      rw [run_bind_get, this]
      rfl
    rw [run_bind_error hp]
    exact keeps_raise (α := β) (.gp 0#32) s hs

theorem keeps_loadTable (h : SystemClosed P) (w : Width) (rm : Rm) {put : State → TableReg → State}
    (hput : ∀ (s : State) t, t.limit.toNat ≤ 0xFFFF → P s → P (put s t)) : Keeps P (loadTable w rm put) := by
  have hw := h.toWalkClosed
  refine keeps_bind (keeps_locateMem rm) fun p => keeps_bind keeps_privileged fun _ => keeps_get_any fun s => ?_
  intro u hu
  constructor
  · intro a t ht
    obtain ⟨lim, u1, h1, ht⟩ := bind_ok_iff.mp ht
    obtain ⟨b, u2, h2, ht⟩ := bind_ok_iff.mp ht
    rw [run_bind_upd] at ht
    refine (keeps_advance h.toCoreClosed).of_ok (hput u2 _ (by exact accRead_two h1) ?_) ht
    exact (keeps_accRead hw _ _).of_ok ((keeps_accRead hw _ _).of_ok hu h1) h2
  · intro e t ht
    rcases bind_error_iff.mp ht with h1 | ⟨lim, u1, h1, ht⟩
    · exact (keeps_accRead hw _ _).of_error hu h1
    · have hu1 := (keeps_accRead hw _ _).of_ok hu h1
      rcases bind_error_iff.mp ht with h2 | ⟨b, u2, h2, ht⟩
      · exact (keeps_accRead hw _ _).of_error hu1 h2
      · rw [run_bind_upd] at ht
        cases ht

theorem keeps_readControl (h : CoreClosed P) (rm : Rm) (n : BitVec 3) : Keeps P (readControl rm n) :=
  keeps_bind (keeps_locateReg rm) fun _ => keeps_bind (keeps_raiseIf _ _) fun _ => keeps_bind keeps_privileged fun _ =>
    keeps_bind (keeps_upd fun s hs => h.setReg s _ _ _ hs) fun _ => keeps_advance h

theorem SystemClosed.writeCr (h : SystemClosed P) (s : State) (n : BitVec 3) (v : W32) (hc : s.cpl = 0#2) (hs : P s) :
    P (s.writeCr n v) := by
  unfold State.writeCr
  cases n == 0#3 with
  | true => exact h.writeCr0 s v hc hs
  | false =>
    cases n == 2#3 with
    | true => exact h.cr2 s v hs
    | false =>
      cases n == 3#3 with
      | true => exact h.flushAll _ (h.cr3 s v hs)
      | false => exact h.cr4 s v hs

theorem keeps_writeControl (h : SystemClosed P) (rm : Rm) (n : BitVec 3) : Keeps P (writeControl rm n) :=
  keeps_bind (keeps_locateReg rm) fun r => keeps_bind (keeps_raiseIf _ _) fun _ =>
    keeps_privileged_bind fun s hs hc => by
      rw [run_bind_upd]
      exact keeps_advance h.toCoreClosed _ (h.writeCr s n _ hc hs)

end Sys2Proof.Machine
end

