-- ==== Sys2Proof/Laws/PerInstr.lean ====
section
/-! SUPPORT. The statements made one instruction at a time. -/

namespace Sys2Proof.Laws.EncodedLength

/-- An item is encoded in one to eleven bytes, so the 15-byte limit (30_encoding.md R221) leaves room for prefixes
before any instruction. -/
abbrev Statement (i : Instr) : Prop := 1 ≤ (encode i).length ∧ (encode i).length ≤ 11

/-- An opcode, an r/m operand and an immediate of at most four bytes. -/
theorem of_rm (op : List Byte) (reg : BitVec 3) (rm : Rm) (tail : List Byte) (h : 1 ≤ op.length)
    (ht : op.length + tail.length ≤ 5) :
    1 ≤ (op ++ encodeRm reg rm ++ tail).length ∧ (op ++ encodeRm reg rm ++ tail).length ≤ 11 := by
  have := encodeRm_length_le reg rm
  simp only [List.length_append]
  omega

/-- An opcode and an r/m operand. -/
theorem of_rm_only (op : List Byte) (reg : BitVec 3) (rm : Rm) (h : 1 ≤ op.length) (ht : op.length ≤ 5) :
    1 ≤ (op ++ encodeRm reg rm).length ∧ (op ++ encodeRm reg rm).length ≤ 11 := by
  simpa using of_rm op reg rm [] h (by simpa using ht)

/-- An opcode and at most four bytes of immediate. -/
theorem of_imm (op tail : List Byte) (h : 1 ≤ op.length) (ht : op.length ≤ 5) (h4 : tail.length ≤ 4) :
    1 ≤ (op ++ tail).length ∧ (op ++ tail).length ≤ 11 := by
  simp only [List.length_append]
  omega

/-- An opcode and a far pointer. -/
theorem of_far (op : List Byte) (off : ImmV) (sel : W16) (h : 1 ≤ op.length) (ht : op.length ≤ 5) :
    1 ≤ (op ++ off.bytes ++ le16 sel).length ∧ (op ++ off.bytes ++ le16 sel).length ≤ 11 := by
  have := immBytes_length_le off
  have h2 : (le16 sel).length = 2 := rfl
  simp only [List.length_append, h2]
  omega

theorem addRm8R8 (rm : Rm) (r : Reg) : Statement (.addRm8R8 rm r) := of_rm_only _ _ _ (by simp) (by simp)
theorem addRmvRv (rm : Rm) (r : Reg) : Statement (.addRmvRv rm r) := of_rm_only _ _ _ (by simp) (by simp)
theorem addR8Rm8 (r : Reg) (rm : Rm) : Statement (.addR8Rm8 r rm) := of_rm_only _ _ _ (by simp) (by simp)
theorem addRvRmv (r : Reg) (rm : Rm) : Statement (.addRvRmv r rm) := of_rm_only _ _ _ (by simp) (by simp)
theorem addAlImm8 (ib : Byte) : Statement (.addAlImm8 ib) := of_imm _ _ (by simp) (by simp) (by simp)
theorem addEaxImmv (iv : ImmV) : Statement (.addEaxImmv iv) := of_imm _ _ (by simp) (by simp) (immBytes_length_le iv)
theorem orRm8R8 (rm : Rm) (r : Reg) : Statement (.orRm8R8 rm r) := of_rm_only _ _ _ (by simp) (by simp)
theorem orRmvRv (rm : Rm) (r : Reg) : Statement (.orRmvRv rm r) := of_rm_only _ _ _ (by simp) (by simp)
theorem orR8Rm8 (r : Reg) (rm : Rm) : Statement (.orR8Rm8 r rm) := of_rm_only _ _ _ (by simp) (by simp)
theorem orRvRmv (r : Reg) (rm : Rm) : Statement (.orRvRmv r rm) := of_rm_only _ _ _ (by simp) (by simp)
theorem orAlImm8 (ib : Byte) : Statement (.orAlImm8 ib) := of_imm _ _ (by simp) (by simp) (by simp)
theorem orEaxImmv (iv : ImmV) : Statement (.orEaxImmv iv) := of_imm _ _ (by simp) (by simp) (immBytes_length_le iv)
theorem adcRm8R8 (rm : Rm) (r : Reg) : Statement (.adcRm8R8 rm r) := of_rm_only _ _ _ (by simp) (by simp)
theorem adcRmvRv (rm : Rm) (r : Reg) : Statement (.adcRmvRv rm r) := of_rm_only _ _ _ (by simp) (by simp)
theorem adcR8Rm8 (r : Reg) (rm : Rm) : Statement (.adcR8Rm8 r rm) := of_rm_only _ _ _ (by simp) (by simp)
theorem adcRvRmv (r : Reg) (rm : Rm) : Statement (.adcRvRmv r rm) := of_rm_only _ _ _ (by simp) (by simp)
theorem adcAlImm8 (ib : Byte) : Statement (.adcAlImm8 ib) := of_imm _ _ (by simp) (by simp) (by simp)
theorem adcEaxImmv (iv : ImmV) : Statement (.adcEaxImmv iv) := of_imm _ _ (by simp) (by simp) (immBytes_length_le iv)
theorem sbbRm8R8 (rm : Rm) (r : Reg) : Statement (.sbbRm8R8 rm r) := of_rm_only _ _ _ (by simp) (by simp)
theorem sbbRmvRv (rm : Rm) (r : Reg) : Statement (.sbbRmvRv rm r) := of_rm_only _ _ _ (by simp) (by simp)
theorem sbbR8Rm8 (r : Reg) (rm : Rm) : Statement (.sbbR8Rm8 r rm) := of_rm_only _ _ _ (by simp) (by simp)
theorem sbbRvRmv (r : Reg) (rm : Rm) : Statement (.sbbRvRmv r rm) := of_rm_only _ _ _ (by simp) (by simp)
theorem sbbAlImm8 (ib : Byte) : Statement (.sbbAlImm8 ib) := of_imm _ _ (by simp) (by simp) (by simp)
theorem sbbEaxImmv (iv : ImmV) : Statement (.sbbEaxImmv iv) := of_imm _ _ (by simp) (by simp) (immBytes_length_le iv)
theorem andRm8R8 (rm : Rm) (r : Reg) : Statement (.andRm8R8 rm r) := of_rm_only _ _ _ (by simp) (by simp)
theorem andRmvRv (rm : Rm) (r : Reg) : Statement (.andRmvRv rm r) := of_rm_only _ _ _ (by simp) (by simp)
theorem andR8Rm8 (r : Reg) (rm : Rm) : Statement (.andR8Rm8 r rm) := of_rm_only _ _ _ (by simp) (by simp)
theorem andRvRmv (r : Reg) (rm : Rm) : Statement (.andRvRmv r rm) := of_rm_only _ _ _ (by simp) (by simp)
theorem andAlImm8 (ib : Byte) : Statement (.andAlImm8 ib) := of_imm _ _ (by simp) (by simp) (by simp)
theorem andEaxImmv (iv : ImmV) : Statement (.andEaxImmv iv) := of_imm _ _ (by simp) (by simp) (immBytes_length_le iv)
theorem subRm8R8 (rm : Rm) (r : Reg) : Statement (.subRm8R8 rm r) := of_rm_only _ _ _ (by simp) (by simp)
theorem subRmvRv (rm : Rm) (r : Reg) : Statement (.subRmvRv rm r) := of_rm_only _ _ _ (by simp) (by simp)
theorem subR8Rm8 (r : Reg) (rm : Rm) : Statement (.subR8Rm8 r rm) := of_rm_only _ _ _ (by simp) (by simp)
theorem subRvRmv (r : Reg) (rm : Rm) : Statement (.subRvRmv r rm) := of_rm_only _ _ _ (by simp) (by simp)
theorem subAlImm8 (ib : Byte) : Statement (.subAlImm8 ib) := of_imm _ _ (by simp) (by simp) (by simp)
theorem subEaxImmv (iv : ImmV) : Statement (.subEaxImmv iv) := of_imm _ _ (by simp) (by simp) (immBytes_length_le iv)
theorem xorRm8R8 (rm : Rm) (r : Reg) : Statement (.xorRm8R8 rm r) := of_rm_only _ _ _ (by simp) (by simp)
theorem xorRmvRv (rm : Rm) (r : Reg) : Statement (.xorRmvRv rm r) := of_rm_only _ _ _ (by simp) (by simp)
theorem xorR8Rm8 (r : Reg) (rm : Rm) : Statement (.xorR8Rm8 r rm) := of_rm_only _ _ _ (by simp) (by simp)
theorem xorRvRmv (r : Reg) (rm : Rm) : Statement (.xorRvRmv r rm) := of_rm_only _ _ _ (by simp) (by simp)
theorem xorAlImm8 (ib : Byte) : Statement (.xorAlImm8 ib) := of_imm _ _ (by simp) (by simp) (by simp)
theorem xorEaxImmv (iv : ImmV) : Statement (.xorEaxImmv iv) := of_imm _ _ (by simp) (by simp) (immBytes_length_le iv)
theorem cmpRm8R8 (rm : Rm) (r : Reg) : Statement (.cmpRm8R8 rm r) := of_rm_only _ _ _ (by simp) (by simp)
theorem cmpRmvRv (rm : Rm) (r : Reg) : Statement (.cmpRmvRv rm r) := of_rm_only _ _ _ (by simp) (by simp)
theorem cmpR8Rm8 (r : Reg) (rm : Rm) : Statement (.cmpR8Rm8 r rm) := of_rm_only _ _ _ (by simp) (by simp)
theorem cmpRvRmv (r : Reg) (rm : Rm) : Statement (.cmpRvRmv r rm) := of_rm_only _ _ _ (by simp) (by simp)
theorem cmpAlImm8 (ib : Byte) : Statement (.cmpAlImm8 ib) := of_imm _ _ (by simp) (by simp) (by simp)
theorem cmpEaxImmv (iv : ImmV) : Statement (.cmpEaxImmv iv) := of_imm _ _ (by simp) (by simp) (immBytes_length_le iv)
theorem pushRv (r : Reg) : Statement (.pushRv r) := ⟨Nat.le_of_ble_eq_true rfl, Nat.le_of_ble_eq_true rfl⟩
theorem popRv (r : Reg) : Statement (.popRv r) := ⟨Nat.le_of_ble_eq_true rfl, Nat.le_of_ble_eq_true rfl⟩
theorem boundRvM (r : Reg) (rm : Rm) : Statement (.boundRvM r rm) := of_rm_only _ _ _ (by simp) (by simp)
theorem arplRm16R16 (rm : Rm) (r : Reg) : Statement (.arplRm16R16 rm r) := of_rm_only _ _ _ (by simp) (by simp)
theorem pushImmv (iv : ImmV) : Statement (.pushImmv iv) := of_imm _ _ (by simp) (by simp) (immBytes_length_le iv)
theorem imulRvRmvImmv (r : Reg) (rm : Rm) (iv : ImmV) : Statement (.imulRvRmvImmv r rm iv) := of_rm _ _ _ _ (by simp) (by have := immBytes_length_le iv; simp; omega)
theorem pushImm8 (ib : Byte) : Statement (.pushImm8 ib) := of_imm _ _ (by simp) (by simp) (by simp)
theorem imulRvRmvImm8 (r : Reg) (rm : Rm) (ib : Byte) : Statement (.imulRvRmvImm8 r rm ib) := of_rm _ _ _ _ (by simp) (by simp)
theorem jccRel8 (cc : Cond) (d8 : Byte) : Statement (.jccRel8 cc d8) := of_imm _ _ (by simp) (by simp) (by simp)
theorem addRm8Imm8 (x82 : Bool) (rm : Rm) (ib : Byte) : Statement (.addRm8Imm8 x82 rm ib) := of_rm _ _ _ _ (by simp) (by simp)
theorem orRm8Imm8 (x82 : Bool) (rm : Rm) (ib : Byte) : Statement (.orRm8Imm8 x82 rm ib) := of_rm _ _ _ _ (by simp) (by simp)
theorem adcRm8Imm8 (x82 : Bool) (rm : Rm) (ib : Byte) : Statement (.adcRm8Imm8 x82 rm ib) := of_rm _ _ _ _ (by simp) (by simp)
theorem sbbRm8Imm8 (x82 : Bool) (rm : Rm) (ib : Byte) : Statement (.sbbRm8Imm8 x82 rm ib) := of_rm _ _ _ _ (by simp) (by simp)
theorem andRm8Imm8 (x82 : Bool) (rm : Rm) (ib : Byte) : Statement (.andRm8Imm8 x82 rm ib) := of_rm _ _ _ _ (by simp) (by simp)
theorem subRm8Imm8 (x82 : Bool) (rm : Rm) (ib : Byte) : Statement (.subRm8Imm8 x82 rm ib) := of_rm _ _ _ _ (by simp) (by simp)
theorem xorRm8Imm8 (x82 : Bool) (rm : Rm) (ib : Byte) : Statement (.xorRm8Imm8 x82 rm ib) := of_rm _ _ _ _ (by simp) (by simp)
theorem cmpRm8Imm8 (x82 : Bool) (rm : Rm) (ib : Byte) : Statement (.cmpRm8Imm8 x82 rm ib) := of_rm _ _ _ _ (by simp) (by simp)
theorem addRmvImmv (rm : Rm) (iv : ImmV) : Statement (.addRmvImmv rm iv) := of_rm _ _ _ _ (by simp) (by have := immBytes_length_le iv; simp; omega)
theorem orRmvImmv (rm : Rm) (iv : ImmV) : Statement (.orRmvImmv rm iv) := of_rm _ _ _ _ (by simp) (by have := immBytes_length_le iv; simp; omega)
theorem adcRmvImmv (rm : Rm) (iv : ImmV) : Statement (.adcRmvImmv rm iv) := of_rm _ _ _ _ (by simp) (by have := immBytes_length_le iv; simp; omega)
theorem sbbRmvImmv (rm : Rm) (iv : ImmV) : Statement (.sbbRmvImmv rm iv) := of_rm _ _ _ _ (by simp) (by have := immBytes_length_le iv; simp; omega)
theorem andRmvImmv (rm : Rm) (iv : ImmV) : Statement (.andRmvImmv rm iv) := of_rm _ _ _ _ (by simp) (by have := immBytes_length_le iv; simp; omega)
theorem subRmvImmv (rm : Rm) (iv : ImmV) : Statement (.subRmvImmv rm iv) := of_rm _ _ _ _ (by simp) (by have := immBytes_length_le iv; simp; omega)
theorem xorRmvImmv (rm : Rm) (iv : ImmV) : Statement (.xorRmvImmv rm iv) := of_rm _ _ _ _ (by simp) (by have := immBytes_length_le iv; simp; omega)
theorem cmpRmvImmv (rm : Rm) (iv : ImmV) : Statement (.cmpRmvImmv rm iv) := of_rm _ _ _ _ (by simp) (by have := immBytes_length_le iv; simp; omega)
theorem addRmvImm8 (rm : Rm) (ib : Byte) : Statement (.addRmvImm8 rm ib) := of_rm _ _ _ _ (by simp) (by simp)
theorem orRmvImm8 (rm : Rm) (ib : Byte) : Statement (.orRmvImm8 rm ib) := of_rm _ _ _ _ (by simp) (by simp)
theorem adcRmvImm8 (rm : Rm) (ib : Byte) : Statement (.adcRmvImm8 rm ib) := of_rm _ _ _ _ (by simp) (by simp)
theorem sbbRmvImm8 (rm : Rm) (ib : Byte) : Statement (.sbbRmvImm8 rm ib) := of_rm _ _ _ _ (by simp) (by simp)
theorem andRmvImm8 (rm : Rm) (ib : Byte) : Statement (.andRmvImm8 rm ib) := of_rm _ _ _ _ (by simp) (by simp)
theorem subRmvImm8 (rm : Rm) (ib : Byte) : Statement (.subRmvImm8 rm ib) := of_rm _ _ _ _ (by simp) (by simp)
theorem xorRmvImm8 (rm : Rm) (ib : Byte) : Statement (.xorRmvImm8 rm ib) := of_rm _ _ _ _ (by simp) (by simp)
theorem cmpRmvImm8 (rm : Rm) (ib : Byte) : Statement (.cmpRmvImm8 rm ib) := of_rm _ _ _ _ (by simp) (by simp)
theorem testRm8R8 (rm : Rm) (r : Reg) : Statement (.testRm8R8 rm r) := of_rm_only _ _ _ (by simp) (by simp)
theorem testRmvRv (rm : Rm) (r : Reg) : Statement (.testRmvRv rm r) := of_rm_only _ _ _ (by simp) (by simp)
theorem xchgRm8R8 (rm : Rm) (r : Reg) : Statement (.xchgRm8R8 rm r) := of_rm_only _ _ _ (by simp) (by simp)
theorem xchgRmvRv (rm : Rm) (r : Reg) : Statement (.xchgRmvRv rm r) := of_rm_only _ _ _ (by simp) (by simp)
theorem movRm8R8 (rm : Rm) (r : Reg) : Statement (.movRm8R8 rm r) := of_rm_only _ _ _ (by simp) (by simp)
theorem movRmvRv (rm : Rm) (r : Reg) : Statement (.movRmvRv rm r) := of_rm_only _ _ _ (by simp) (by simp)
theorem movR8Rm8 (r : Reg) (rm : Rm) : Statement (.movR8Rm8 r rm) := of_rm_only _ _ _ (by simp) (by simp)
theorem movRvRmv (r : Reg) (rm : Rm) : Statement (.movRvRmv r rm) := of_rm_only _ _ _ (by simp) (by simp)
theorem movRm16Sreg (rm : Rm) (n : BitVec 3) : Statement (.movRm16Sreg rm n) := of_rm_only _ _ _ (by simp) (by simp)
theorem leaRvM (r : Reg) (rm : Rm) : Statement (.leaRvM r rm) := of_rm_only _ _ _ (by simp) (by simp)
theorem movSregRm16 (n : BitVec 3) (rm : Rm) : Statement (.movSregRm16 n rm) := of_rm_only _ _ _ (by simp) (by simp)
theorem popRmv (rm : Rm) : Statement (.popRmv rm) := of_rm_only _ _ _ (by simp) (by simp)
theorem callPtr (off : ImmV) (sel : W16) : Statement (.callPtr off sel) := of_far _ _ _ (by simp) (by simp)
theorem movAlMoffs (ia : ImmV) : Statement (.movAlMoffs ia) := of_imm _ _ (by simp) (by simp) (immBytes_length_le ia)
theorem movEaxMoffs (ia : ImmV) : Statement (.movEaxMoffs ia) := of_imm _ _ (by simp) (by simp) (immBytes_length_le ia)
theorem movMoffsAl (ia : ImmV) : Statement (.movMoffsAl ia) := of_imm _ _ (by simp) (by simp) (immBytes_length_le ia)
theorem movMoffsEax (ia : ImmV) : Statement (.movMoffsEax ia) := of_imm _ _ (by simp) (by simp) (immBytes_length_le ia)
theorem testAlImm8 (ib : Byte) : Statement (.testAlImm8 ib) := of_imm _ _ (by simp) (by simp) (by simp)
theorem testEaxImmv (iv : ImmV) : Statement (.testEaxImmv iv) := of_imm _ _ (by simp) (by simp) (immBytes_length_le iv)
theorem movR8Imm8 (r : Reg) (ib : Byte) : Statement (.movR8Imm8 r ib) := of_imm _ _ (by simp) (by simp) (by simp)
theorem movRvImmv (r : Reg) (iv : ImmV) : Statement (.movRvImmv r iv) := of_imm _ _ (by simp) (by simp) (immBytes_length_le iv)
theorem rolRm8Imm8 (rm : Rm) (ib : Byte) : Statement (.rolRm8Imm8 rm ib) := of_rm _ _ _ _ (by simp) (by simp)
theorem rorRm8Imm8 (rm : Rm) (ib : Byte) : Statement (.rorRm8Imm8 rm ib) := of_rm _ _ _ _ (by simp) (by simp)
theorem rclRm8Imm8 (rm : Rm) (ib : Byte) : Statement (.rclRm8Imm8 rm ib) := of_rm _ _ _ _ (by simp) (by simp)
theorem rcrRm8Imm8 (rm : Rm) (ib : Byte) : Statement (.rcrRm8Imm8 rm ib) := of_rm _ _ _ _ (by simp) (by simp)
theorem shlRm8Imm8 (rm : Rm) (ib : Byte) : Statement (.shlRm8Imm8 rm ib) := of_rm _ _ _ _ (by simp) (by simp)
theorem shrRm8Imm8 (rm : Rm) (ib : Byte) : Statement (.shrRm8Imm8 rm ib) := of_rm _ _ _ _ (by simp) (by simp)
theorem salRm8Imm8 (rm : Rm) (ib : Byte) : Statement (.salRm8Imm8 rm ib) := of_rm _ _ _ _ (by simp) (by simp)
theorem sarRm8Imm8 (rm : Rm) (ib : Byte) : Statement (.sarRm8Imm8 rm ib) := of_rm _ _ _ _ (by simp) (by simp)
theorem rolRmvImm8 (rm : Rm) (ib : Byte) : Statement (.rolRmvImm8 rm ib) := of_rm _ _ _ _ (by simp) (by simp)
theorem rorRmvImm8 (rm : Rm) (ib : Byte) : Statement (.rorRmvImm8 rm ib) := of_rm _ _ _ _ (by simp) (by simp)
theorem rclRmvImm8 (rm : Rm) (ib : Byte) : Statement (.rclRmvImm8 rm ib) := of_rm _ _ _ _ (by simp) (by simp)
theorem rcrRmvImm8 (rm : Rm) (ib : Byte) : Statement (.rcrRmvImm8 rm ib) := of_rm _ _ _ _ (by simp) (by simp)
theorem shlRmvImm8 (rm : Rm) (ib : Byte) : Statement (.shlRmvImm8 rm ib) := of_rm _ _ _ _ (by simp) (by simp)
theorem shrRmvImm8 (rm : Rm) (ib : Byte) : Statement (.shrRmvImm8 rm ib) := of_rm _ _ _ _ (by simp) (by simp)
theorem salRmvImm8 (rm : Rm) (ib : Byte) : Statement (.salRmvImm8 rm ib) := of_rm _ _ _ _ (by simp) (by simp)
theorem sarRmvImm8 (rm : Rm) (ib : Byte) : Statement (.sarRmvImm8 rm ib) := of_rm _ _ _ _ (by simp) (by simp)
theorem rolRm8One (rm : Rm) : Statement (.rolRm8One rm) := of_rm_only _ _ _ (by simp) (by simp)
theorem rorRm8One (rm : Rm) : Statement (.rorRm8One rm) := of_rm_only _ _ _ (by simp) (by simp)
theorem rclRm8One (rm : Rm) : Statement (.rclRm8One rm) := of_rm_only _ _ _ (by simp) (by simp)
theorem rcrRm8One (rm : Rm) : Statement (.rcrRm8One rm) := of_rm_only _ _ _ (by simp) (by simp)
theorem shlRm8One (rm : Rm) : Statement (.shlRm8One rm) := of_rm_only _ _ _ (by simp) (by simp)
theorem shrRm8One (rm : Rm) : Statement (.shrRm8One rm) := of_rm_only _ _ _ (by simp) (by simp)
theorem salRm8One (rm : Rm) : Statement (.salRm8One rm) := of_rm_only _ _ _ (by simp) (by simp)
theorem sarRm8One (rm : Rm) : Statement (.sarRm8One rm) := of_rm_only _ _ _ (by simp) (by simp)
theorem rolRmvOne (rm : Rm) : Statement (.rolRmvOne rm) := of_rm_only _ _ _ (by simp) (by simp)
theorem rorRmvOne (rm : Rm) : Statement (.rorRmvOne rm) := of_rm_only _ _ _ (by simp) (by simp)
theorem rclRmvOne (rm : Rm) : Statement (.rclRmvOne rm) := of_rm_only _ _ _ (by simp) (by simp)
theorem rcrRmvOne (rm : Rm) : Statement (.rcrRmvOne rm) := of_rm_only _ _ _ (by simp) (by simp)
theorem shlRmvOne (rm : Rm) : Statement (.shlRmvOne rm) := of_rm_only _ _ _ (by simp) (by simp)
theorem shrRmvOne (rm : Rm) : Statement (.shrRmvOne rm) := of_rm_only _ _ _ (by simp) (by simp)
theorem salRmvOne (rm : Rm) : Statement (.salRmvOne rm) := of_rm_only _ _ _ (by simp) (by simp)
theorem sarRmvOne (rm : Rm) : Statement (.sarRmvOne rm) := of_rm_only _ _ _ (by simp) (by simp)
theorem rolRm8Cl (rm : Rm) : Statement (.rolRm8Cl rm) := of_rm_only _ _ _ (by simp) (by simp)
theorem rorRm8Cl (rm : Rm) : Statement (.rorRm8Cl rm) := of_rm_only _ _ _ (by simp) (by simp)
theorem rclRm8Cl (rm : Rm) : Statement (.rclRm8Cl rm) := of_rm_only _ _ _ (by simp) (by simp)
theorem rcrRm8Cl (rm : Rm) : Statement (.rcrRm8Cl rm) := of_rm_only _ _ _ (by simp) (by simp)
theorem shlRm8Cl (rm : Rm) : Statement (.shlRm8Cl rm) := of_rm_only _ _ _ (by simp) (by simp)
theorem shrRm8Cl (rm : Rm) : Statement (.shrRm8Cl rm) := of_rm_only _ _ _ (by simp) (by simp)
theorem salRm8Cl (rm : Rm) : Statement (.salRm8Cl rm) := of_rm_only _ _ _ (by simp) (by simp)
theorem sarRm8Cl (rm : Rm) : Statement (.sarRm8Cl rm) := of_rm_only _ _ _ (by simp) (by simp)
theorem rolRmvCl (rm : Rm) : Statement (.rolRmvCl rm) := of_rm_only _ _ _ (by simp) (by simp)
theorem rorRmvCl (rm : Rm) : Statement (.rorRmvCl rm) := of_rm_only _ _ _ (by simp) (by simp)
theorem rclRmvCl (rm : Rm) : Statement (.rclRmvCl rm) := of_rm_only _ _ _ (by simp) (by simp)
theorem rcrRmvCl (rm : Rm) : Statement (.rcrRmvCl rm) := of_rm_only _ _ _ (by simp) (by simp)
theorem shlRmvCl (rm : Rm) : Statement (.shlRmvCl rm) := of_rm_only _ _ _ (by simp) (by simp)
theorem shrRmvCl (rm : Rm) : Statement (.shrRmvCl rm) := of_rm_only _ _ _ (by simp) (by simp)
theorem salRmvCl (rm : Rm) : Statement (.salRmvCl rm) := of_rm_only _ _ _ (by simp) (by simp)
theorem sarRmvCl (rm : Rm) : Statement (.sarRmvCl rm) := of_rm_only _ _ _ (by simp) (by simp)
theorem retImm16 (iw : W16) : Statement (.retImm16 iw) := of_imm _ _ (by simp) (by simp) (by simp [le16])
theorem lesRvM (r : Reg) (rm : Rm) : Statement (.lesRvM r rm) := of_rm_only _ _ _ (by simp) (by simp)
theorem ldsRvM (r : Reg) (rm : Rm) : Statement (.ldsRvM r rm) := of_rm_only _ _ _ (by simp) (by simp)
theorem movRm8Imm8 (rm : Rm) (ib : Byte) : Statement (.movRm8Imm8 rm ib) := of_rm _ _ _ _ (by simp) (by simp)
theorem movRmvImmv (rm : Rm) (iv : ImmV) : Statement (.movRmvImmv rm iv) := of_rm _ _ _ _ (by simp) (by have := immBytes_length_le iv; simp; omega)
theorem enter (iw : W16) (lvl : Byte) : Statement (.enter iw lvl) := ⟨Nat.le_of_ble_eq_true rfl, Nat.le_of_ble_eq_true rfl⟩
theorem retfImm16 (iw : W16) : Statement (.retfImm16 iw) := of_imm _ _ (by simp) (by simp) (by simp [le16])
theorem intImm8 (ib : Byte) : Statement (.intImm8 ib) := of_imm _ _ (by simp) (by simp) (by simp)
theorem aam (ib : Byte) : Statement (.aam ib) := of_imm _ _ (by simp) (by simp) (by simp)
theorem aad (ib : Byte) : Statement (.aad ib) := of_imm _ _ (by simp) (by simp) (by simp)
theorem esc (esc : BitVec 3) (n : BitVec 3) (rm : Rm) : Statement (.esc esc n rm) := of_rm_only _ _ _ (by simp) (by simp)
theorem loopneRel8 (d8 : Byte) : Statement (.loopneRel8 d8) := of_imm _ _ (by simp) (by simp) (by simp)
theorem loopeRel8 (d8 : Byte) : Statement (.loopeRel8 d8) := of_imm _ _ (by simp) (by simp) (by simp)
theorem loopRel8 (d8 : Byte) : Statement (.loopRel8 d8) := of_imm _ _ (by simp) (by simp) (by simp)
theorem jcxzRel8 (d8 : Byte) : Statement (.jcxzRel8 d8) := of_imm _ _ (by simp) (by simp) (by simp)
theorem inAlImm8 (ib : Byte) : Statement (.inAlImm8 ib) := of_imm _ _ (by simp) (by simp) (by simp)
theorem inEaxImm8 (ib : Byte) : Statement (.inEaxImm8 ib) := of_imm _ _ (by simp) (by simp) (by simp)
theorem outImm8Al (ib : Byte) : Statement (.outImm8Al ib) := of_imm _ _ (by simp) (by simp) (by simp)
theorem outImm8Eax (ib : Byte) : Statement (.outImm8Eax ib) := of_imm _ _ (by simp) (by simp) (by simp)
theorem callRelv (dv : ImmV) : Statement (.callRelv dv) := of_imm _ _ (by simp) (by simp) (immBytes_length_le dv)
theorem jmpRelv (dv : ImmV) : Statement (.jmpRelv dv) := of_imm _ _ (by simp) (by simp) (immBytes_length_le dv)
theorem jmpPtr (off : ImmV) (sel : W16) : Statement (.jmpPtr off sel) := of_far _ _ _ (by simp) (by simp)
theorem jmpRel8 (d8 : Byte) : Statement (.jmpRel8 d8) := of_imm _ _ (by simp) (by simp) (by simp)
theorem testRm8Imm8 (rm : Rm) (ib : Byte) : Statement (.testRm8Imm8 rm ib) := of_rm _ _ _ _ (by simp) (by simp)
theorem notRm8 (rm : Rm) : Statement (.notRm8 rm) := of_rm_only _ _ _ (by simp) (by simp)
theorem negRm8 (rm : Rm) : Statement (.negRm8 rm) := of_rm_only _ _ _ (by simp) (by simp)
theorem mulRm8 (rm : Rm) : Statement (.mulRm8 rm) := of_rm_only _ _ _ (by simp) (by simp)
theorem imulRm8 (rm : Rm) : Statement (.imulRm8 rm) := of_rm_only _ _ _ (by simp) (by simp)
theorem divRm8 (rm : Rm) : Statement (.divRm8 rm) := of_rm_only _ _ _ (by simp) (by simp)
theorem idivRm8 (rm : Rm) : Statement (.idivRm8 rm) := of_rm_only _ _ _ (by simp) (by simp)
theorem testRmvImmv (rm : Rm) (iv : ImmV) : Statement (.testRmvImmv rm iv) := of_rm _ _ _ _ (by simp) (by have := immBytes_length_le iv; simp; omega)
theorem notRmv (rm : Rm) : Statement (.notRmv rm) := of_rm_only _ _ _ (by simp) (by simp)
theorem negRmv (rm : Rm) : Statement (.negRmv rm) := of_rm_only _ _ _ (by simp) (by simp)
theorem mulRmv (rm : Rm) : Statement (.mulRmv rm) := of_rm_only _ _ _ (by simp) (by simp)
theorem imulRmv (rm : Rm) : Statement (.imulRmv rm) := of_rm_only _ _ _ (by simp) (by simp)
theorem divRmv (rm : Rm) : Statement (.divRmv rm) := of_rm_only _ _ _ (by simp) (by simp)
theorem idivRmv (rm : Rm) : Statement (.idivRmv rm) := of_rm_only _ _ _ (by simp) (by simp)
theorem incRm8 (rm : Rm) : Statement (.incRm8 rm) := of_rm_only _ _ _ (by simp) (by simp)
theorem decRm8 (rm : Rm) : Statement (.decRm8 rm) := of_rm_only _ _ _ (by simp) (by simp)
theorem incRmv (rm : Rm) : Statement (.incRmv rm) := of_rm_only _ _ _ (by simp) (by simp)
theorem decRmv (rm : Rm) : Statement (.decRmv rm) := of_rm_only _ _ _ (by simp) (by simp)
theorem callRmv (rm : Rm) : Statement (.callRmv rm) := of_rm_only _ _ _ (by simp) (by simp)
theorem callM (rm : Rm) : Statement (.callM rm) := of_rm_only _ _ _ (by simp) (by simp)
theorem jmpRmv (rm : Rm) : Statement (.jmpRmv rm) := of_rm_only _ _ _ (by simp) (by simp)
theorem jmpM (rm : Rm) : Statement (.jmpM rm) := of_rm_only _ _ _ (by simp) (by simp)
theorem pushRmv (rm : Rm) : Statement (.pushRmv rm) := of_rm_only _ _ _ (by simp) (by simp)
theorem sldtRm16 (rm : Rm) : Statement (.sldtRm16 rm) := of_rm_only _ _ _ (by simp) (by simp)
theorem strRm16 (rm : Rm) : Statement (.strRm16 rm) := of_rm_only _ _ _ (by simp) (by simp)
theorem lldtRm16 (rm : Rm) : Statement (.lldtRm16 rm) := of_rm_only _ _ _ (by simp) (by simp)
theorem ltrRm16 (rm : Rm) : Statement (.ltrRm16 rm) := of_rm_only _ _ _ (by simp) (by simp)
theorem verrRm16 (rm : Rm) : Statement (.verrRm16 rm) := of_rm_only _ _ _ (by simp) (by simp)
theorem verwRm16 (rm : Rm) : Statement (.verwRm16 rm) := of_rm_only _ _ _ (by simp) (by simp)
theorem sgdtM (rm : Rm) : Statement (.sgdtM rm) := of_rm_only _ _ _ (by simp) (by simp)
theorem sidtM (rm : Rm) : Statement (.sidtM rm) := of_rm_only _ _ _ (by simp) (by simp)
theorem lgdtM (rm : Rm) : Statement (.lgdtM rm) := of_rm_only _ _ _ (by simp) (by simp)
theorem lidtM (rm : Rm) : Statement (.lidtM rm) := of_rm_only _ _ _ (by simp) (by simp)
theorem smswRm16 (rm : Rm) : Statement (.smswRm16 rm) := of_rm_only _ _ _ (by simp) (by simp)
theorem lmswRm16 (rm : Rm) : Statement (.lmswRm16 rm) := of_rm_only _ _ _ (by simp) (by simp)
theorem invlpgM (rm : Rm) : Statement (.invlpgM rm) := of_rm_only _ _ _ (by simp) (by simp)
theorem larRvRm16 (r : Reg) (rm : Rm) : Statement (.larRvRm16 r rm) := of_rm_only _ _ _ (by simp) (by simp)
theorem lslRvRm16 (r : Reg) (rm : Rm) : Statement (.lslRvRm16 r rm) := of_rm_only _ _ _ (by simp) (by simp)
theorem movR32Cr (rm : Rm) (n : BitVec 3) : Statement (.movR32Cr rm n) := of_rm_only _ _ _ (by simp) (by simp)
theorem movCrR32 (n : BitVec 3) (rm : Rm) : Statement (.movCrR32 n rm) := of_rm_only _ _ _ (by simp) (by simp)
theorem movDrR32 (n : BitVec 3) (rm : Rm) : Statement (.movDrR32 n rm) := of_rm_only _ _ _ (by simp) (by simp)
theorem cmovRvRmv (cc : Cond) (r : Reg) (rm : Rm) : Statement (.cmovRvRmv cc r rm) := of_rm_only _ _ _ (by simp) (by simp)
theorem jccRelv (cc : Cond) (dv : ImmV) : Statement (.jccRelv cc dv) := of_imm _ _ (by simp) (by simp) (immBytes_length_le dv)
theorem setccRm8 (cc : Cond) (n : BitVec 3) (rm : Rm) : Statement (.setccRm8 cc n rm) := of_rm_only _ _ _ (by simp) (by simp)
theorem btRmvRv (rm : Rm) (r : Reg) : Statement (.btRmvRv rm r) := of_rm_only _ _ _ (by simp) (by simp)
theorem shldImm8 (rm : Rm) (r : Reg) (ib : Byte) : Statement (.shldImm8 rm r ib) := of_rm _ _ _ _ (by simp) (by simp)
theorem shldCl (rm : Rm) (r : Reg) : Statement (.shldCl rm r) := of_rm_only _ _ _ (by simp) (by simp)
theorem btsRmvRv (rm : Rm) (r : Reg) : Statement (.btsRmvRv rm r) := of_rm_only _ _ _ (by simp) (by simp)
theorem shrdImm8 (rm : Rm) (r : Reg) (ib : Byte) : Statement (.shrdImm8 rm r ib) := of_rm _ _ _ _ (by simp) (by simp)
theorem shrdCl (rm : Rm) (r : Reg) : Statement (.shrdCl rm r) := of_rm_only _ _ _ (by simp) (by simp)
theorem imulRvRmv (r : Reg) (rm : Rm) : Statement (.imulRvRmv r rm) := of_rm_only _ _ _ (by simp) (by simp)
theorem cmpxchgRm8R8 (rm : Rm) (r : Reg) : Statement (.cmpxchgRm8R8 rm r) := of_rm_only _ _ _ (by simp) (by simp)
theorem cmpxchgRmvRv (rm : Rm) (r : Reg) : Statement (.cmpxchgRmvRv rm r) := of_rm_only _ _ _ (by simp) (by simp)
theorem lssRvM (r : Reg) (rm : Rm) : Statement (.lssRvM r rm) := of_rm_only _ _ _ (by simp) (by simp)
theorem btrRmvRv (rm : Rm) (r : Reg) : Statement (.btrRmvRv rm r) := of_rm_only _ _ _ (by simp) (by simp)
theorem lfsRvM (r : Reg) (rm : Rm) : Statement (.lfsRvM r rm) := of_rm_only _ _ _ (by simp) (by simp)
theorem lgsRvM (r : Reg) (rm : Rm) : Statement (.lgsRvM r rm) := of_rm_only _ _ _ (by simp) (by simp)
theorem movzxRvRm8 (r : Reg) (rm : Rm) : Statement (.movzxRvRm8 r rm) := of_rm_only _ _ _ (by simp) (by simp)
theorem movzxRvRm16 (r : Reg) (rm : Rm) : Statement (.movzxRvRm16 r rm) := of_rm_only _ _ _ (by simp) (by simp)
theorem btRmvImm8 (rm : Rm) (ib : Byte) : Statement (.btRmvImm8 rm ib) := of_rm _ _ _ _ (by simp) (by simp)
theorem btsRmvImm8 (rm : Rm) (ib : Byte) : Statement (.btsRmvImm8 rm ib) := of_rm _ _ _ _ (by simp) (by simp)
theorem btrRmvImm8 (rm : Rm) (ib : Byte) : Statement (.btrRmvImm8 rm ib) := of_rm _ _ _ _ (by simp) (by simp)
theorem btcRmvImm8 (rm : Rm) (ib : Byte) : Statement (.btcRmvImm8 rm ib) := of_rm _ _ _ _ (by simp) (by simp)
theorem btcRmvRv (rm : Rm) (r : Reg) : Statement (.btcRmvRv rm r) := of_rm_only _ _ _ (by simp) (by simp)
theorem bsfRvRmv (r : Reg) (rm : Rm) : Statement (.bsfRvRmv r rm) := of_rm_only _ _ _ (by simp) (by simp)
theorem bsrRvRmv (r : Reg) (rm : Rm) : Statement (.bsrRvRmv r rm) := of_rm_only _ _ _ (by simp) (by simp)
theorem movsxRvRm8 (r : Reg) (rm : Rm) : Statement (.movsxRvRm8 r rm) := of_rm_only _ _ _ (by simp) (by simp)
theorem movsxRvRm16 (r : Reg) (rm : Rm) : Statement (.movsxRvRm16 r rm) := of_rm_only _ _ _ (by simp) (by simp)
theorem xaddRm8R8 (rm : Rm) (r : Reg) : Statement (.xaddRm8R8 rm r) := of_rm_only _ _ _ (by simp) (by simp)
theorem xaddRmvRv (rm : Rm) (r : Reg) : Statement (.xaddRmvRv rm r) := of_rm_only _ _ _ (by simp) (by simp)
theorem bswapR32 (r : Reg) : Statement (.bswapR32 r) := ⟨Nat.le_of_ble_eq_true rfl, Nat.le_of_ble_eq_true rfl⟩
theorem pfxEs : Statement .pfxEs := ⟨Nat.le_of_ble_eq_true rfl, Nat.le_of_ble_eq_true rfl⟩
theorem pfxCs : Statement .pfxCs := ⟨Nat.le_of_ble_eq_true rfl, Nat.le_of_ble_eq_true rfl⟩
theorem pfxSs : Statement .pfxSs := ⟨Nat.le_of_ble_eq_true rfl, Nat.le_of_ble_eq_true rfl⟩
theorem pfxDs : Statement .pfxDs := ⟨Nat.le_of_ble_eq_true rfl, Nat.le_of_ble_eq_true rfl⟩
theorem pfxFs : Statement .pfxFs := ⟨Nat.le_of_ble_eq_true rfl, Nat.le_of_ble_eq_true rfl⟩
theorem pfxGs : Statement .pfxGs := ⟨Nat.le_of_ble_eq_true rfl, Nat.le_of_ble_eq_true rfl⟩
theorem pfxOpsize : Statement .pfxOpsize := ⟨Nat.le_of_ble_eq_true rfl, Nat.le_of_ble_eq_true rfl⟩
theorem pfxAddrsize : Statement .pfxAddrsize := ⟨Nat.le_of_ble_eq_true rfl, Nat.le_of_ble_eq_true rfl⟩
theorem pfxRepne : Statement .pfxRepne := ⟨Nat.le_of_ble_eq_true rfl, Nat.le_of_ble_eq_true rfl⟩
theorem pfxRep : Statement .pfxRep := ⟨Nat.le_of_ble_eq_true rfl, Nat.le_of_ble_eq_true rfl⟩
theorem pfxLock : Statement .pfxLock := ⟨Nat.le_of_ble_eq_true rfl, Nat.le_of_ble_eq_true rfl⟩
theorem pushEs : Statement .pushEs := ⟨Nat.le_of_ble_eq_true rfl, Nat.le_of_ble_eq_true rfl⟩
theorem pushCs : Statement .pushCs := ⟨Nat.le_of_ble_eq_true rfl, Nat.le_of_ble_eq_true rfl⟩
theorem pushSs : Statement .pushSs := ⟨Nat.le_of_ble_eq_true rfl, Nat.le_of_ble_eq_true rfl⟩
theorem pushDs : Statement .pushDs := ⟨Nat.le_of_ble_eq_true rfl, Nat.le_of_ble_eq_true rfl⟩
theorem popEs : Statement .popEs := ⟨Nat.le_of_ble_eq_true rfl, Nat.le_of_ble_eq_true rfl⟩
theorem popSs : Statement .popSs := ⟨Nat.le_of_ble_eq_true rfl, Nat.le_of_ble_eq_true rfl⟩
theorem popDs : Statement .popDs := ⟨Nat.le_of_ble_eq_true rfl, Nat.le_of_ble_eq_true rfl⟩
theorem daa : Statement .daa := ⟨Nat.le_of_ble_eq_true rfl, Nat.le_of_ble_eq_true rfl⟩
theorem das : Statement .das := ⟨Nat.le_of_ble_eq_true rfl, Nat.le_of_ble_eq_true rfl⟩
theorem aaa : Statement .aaa := ⟨Nat.le_of_ble_eq_true rfl, Nat.le_of_ble_eq_true rfl⟩
theorem aas : Statement .aas := ⟨Nat.le_of_ble_eq_true rfl, Nat.le_of_ble_eq_true rfl⟩
theorem incEax : Statement .incEax := ⟨Nat.le_of_ble_eq_true rfl, Nat.le_of_ble_eq_true rfl⟩
theorem incEcx : Statement .incEcx := ⟨Nat.le_of_ble_eq_true rfl, Nat.le_of_ble_eq_true rfl⟩
theorem incEdx : Statement .incEdx := ⟨Nat.le_of_ble_eq_true rfl, Nat.le_of_ble_eq_true rfl⟩
theorem incEbx : Statement .incEbx := ⟨Nat.le_of_ble_eq_true rfl, Nat.le_of_ble_eq_true rfl⟩
theorem incEsp : Statement .incEsp := ⟨Nat.le_of_ble_eq_true rfl, Nat.le_of_ble_eq_true rfl⟩
theorem incEbp : Statement .incEbp := ⟨Nat.le_of_ble_eq_true rfl, Nat.le_of_ble_eq_true rfl⟩
theorem incEsi : Statement .incEsi := ⟨Nat.le_of_ble_eq_true rfl, Nat.le_of_ble_eq_true rfl⟩
theorem incEdi : Statement .incEdi := ⟨Nat.le_of_ble_eq_true rfl, Nat.le_of_ble_eq_true rfl⟩
theorem decEax : Statement .decEax := ⟨Nat.le_of_ble_eq_true rfl, Nat.le_of_ble_eq_true rfl⟩
theorem decEcx : Statement .decEcx := ⟨Nat.le_of_ble_eq_true rfl, Nat.le_of_ble_eq_true rfl⟩
theorem decEdx : Statement .decEdx := ⟨Nat.le_of_ble_eq_true rfl, Nat.le_of_ble_eq_true rfl⟩
theorem decEbx : Statement .decEbx := ⟨Nat.le_of_ble_eq_true rfl, Nat.le_of_ble_eq_true rfl⟩
theorem decEsp : Statement .decEsp := ⟨Nat.le_of_ble_eq_true rfl, Nat.le_of_ble_eq_true rfl⟩
theorem decEbp : Statement .decEbp := ⟨Nat.le_of_ble_eq_true rfl, Nat.le_of_ble_eq_true rfl⟩
theorem decEsi : Statement .decEsi := ⟨Nat.le_of_ble_eq_true rfl, Nat.le_of_ble_eq_true rfl⟩
theorem decEdi : Statement .decEdi := ⟨Nat.le_of_ble_eq_true rfl, Nat.le_of_ble_eq_true rfl⟩
theorem pusha : Statement .pusha := ⟨Nat.le_of_ble_eq_true rfl, Nat.le_of_ble_eq_true rfl⟩
theorem popa : Statement .popa := ⟨Nat.le_of_ble_eq_true rfl, Nat.le_of_ble_eq_true rfl⟩
theorem insb : Statement .insb := ⟨Nat.le_of_ble_eq_true rfl, Nat.le_of_ble_eq_true rfl⟩
theorem insv : Statement .insv := ⟨Nat.le_of_ble_eq_true rfl, Nat.le_of_ble_eq_true rfl⟩
theorem outsb : Statement .outsb := ⟨Nat.le_of_ble_eq_true rfl, Nat.le_of_ble_eq_true rfl⟩
theorem outsv : Statement .outsv := ⟨Nat.le_of_ble_eq_true rfl, Nat.le_of_ble_eq_true rfl⟩
theorem nop : Statement .nop := ⟨Nat.le_of_ble_eq_true rfl, Nat.le_of_ble_eq_true rfl⟩
theorem xchgEaxEcx : Statement .xchgEaxEcx := ⟨Nat.le_of_ble_eq_true rfl, Nat.le_of_ble_eq_true rfl⟩
theorem xchgEaxEdx : Statement .xchgEaxEdx := ⟨Nat.le_of_ble_eq_true rfl, Nat.le_of_ble_eq_true rfl⟩
theorem xchgEaxEbx : Statement .xchgEaxEbx := ⟨Nat.le_of_ble_eq_true rfl, Nat.le_of_ble_eq_true rfl⟩
theorem xchgEaxEsp : Statement .xchgEaxEsp := ⟨Nat.le_of_ble_eq_true rfl, Nat.le_of_ble_eq_true rfl⟩
theorem xchgEaxEbp : Statement .xchgEaxEbp := ⟨Nat.le_of_ble_eq_true rfl, Nat.le_of_ble_eq_true rfl⟩
theorem xchgEaxEsi : Statement .xchgEaxEsi := ⟨Nat.le_of_ble_eq_true rfl, Nat.le_of_ble_eq_true rfl⟩
theorem xchgEaxEdi : Statement .xchgEaxEdi := ⟨Nat.le_of_ble_eq_true rfl, Nat.le_of_ble_eq_true rfl⟩
theorem cbw : Statement .cbw := ⟨Nat.le_of_ble_eq_true rfl, Nat.le_of_ble_eq_true rfl⟩
theorem cwd : Statement .cwd := ⟨Nat.le_of_ble_eq_true rfl, Nat.le_of_ble_eq_true rfl⟩
theorem fwait : Statement .fwait := ⟨Nat.le_of_ble_eq_true rfl, Nat.le_of_ble_eq_true rfl⟩
theorem pushf : Statement .pushf := ⟨Nat.le_of_ble_eq_true rfl, Nat.le_of_ble_eq_true rfl⟩
theorem popf : Statement .popf := ⟨Nat.le_of_ble_eq_true rfl, Nat.le_of_ble_eq_true rfl⟩
theorem sahf : Statement .sahf := ⟨Nat.le_of_ble_eq_true rfl, Nat.le_of_ble_eq_true rfl⟩
theorem lahf : Statement .lahf := ⟨Nat.le_of_ble_eq_true rfl, Nat.le_of_ble_eq_true rfl⟩
theorem movsb : Statement .movsb := ⟨Nat.le_of_ble_eq_true rfl, Nat.le_of_ble_eq_true rfl⟩
theorem movsv : Statement .movsv := ⟨Nat.le_of_ble_eq_true rfl, Nat.le_of_ble_eq_true rfl⟩
theorem cmpsb : Statement .cmpsb := ⟨Nat.le_of_ble_eq_true rfl, Nat.le_of_ble_eq_true rfl⟩
theorem cmpsv : Statement .cmpsv := ⟨Nat.le_of_ble_eq_true rfl, Nat.le_of_ble_eq_true rfl⟩
theorem stosb : Statement .stosb := ⟨Nat.le_of_ble_eq_true rfl, Nat.le_of_ble_eq_true rfl⟩
theorem stosv : Statement .stosv := ⟨Nat.le_of_ble_eq_true rfl, Nat.le_of_ble_eq_true rfl⟩
theorem lodsb : Statement .lodsb := ⟨Nat.le_of_ble_eq_true rfl, Nat.le_of_ble_eq_true rfl⟩
theorem lodsv : Statement .lodsv := ⟨Nat.le_of_ble_eq_true rfl, Nat.le_of_ble_eq_true rfl⟩
theorem scasb : Statement .scasb := ⟨Nat.le_of_ble_eq_true rfl, Nat.le_of_ble_eq_true rfl⟩
theorem scasv : Statement .scasv := ⟨Nat.le_of_ble_eq_true rfl, Nat.le_of_ble_eq_true rfl⟩
theorem ret : Statement .ret := ⟨Nat.le_of_ble_eq_true rfl, Nat.le_of_ble_eq_true rfl⟩
theorem leave : Statement .leave := ⟨Nat.le_of_ble_eq_true rfl, Nat.le_of_ble_eq_true rfl⟩
theorem retf : Statement .retf := ⟨Nat.le_of_ble_eq_true rfl, Nat.le_of_ble_eq_true rfl⟩
theorem int3 : Statement .int3 := ⟨Nat.le_of_ble_eq_true rfl, Nat.le_of_ble_eq_true rfl⟩
theorem into : Statement .into := ⟨Nat.le_of_ble_eq_true rfl, Nat.le_of_ble_eq_true rfl⟩
theorem iret : Statement .iret := ⟨Nat.le_of_ble_eq_true rfl, Nat.le_of_ble_eq_true rfl⟩
theorem xlat : Statement .xlat := ⟨Nat.le_of_ble_eq_true rfl, Nat.le_of_ble_eq_true rfl⟩
theorem inAlDx : Statement .inAlDx := ⟨Nat.le_of_ble_eq_true rfl, Nat.le_of_ble_eq_true rfl⟩
theorem inEaxDx : Statement .inEaxDx := ⟨Nat.le_of_ble_eq_true rfl, Nat.le_of_ble_eq_true rfl⟩
theorem outDxAl : Statement .outDxAl := ⟨Nat.le_of_ble_eq_true rfl, Nat.le_of_ble_eq_true rfl⟩
theorem outDxEax : Statement .outDxEax := ⟨Nat.le_of_ble_eq_true rfl, Nat.le_of_ble_eq_true rfl⟩
theorem hlt : Statement .hlt := ⟨Nat.le_of_ble_eq_true rfl, Nat.le_of_ble_eq_true rfl⟩
theorem cmc : Statement .cmc := ⟨Nat.le_of_ble_eq_true rfl, Nat.le_of_ble_eq_true rfl⟩
theorem clc : Statement .clc := ⟨Nat.le_of_ble_eq_true rfl, Nat.le_of_ble_eq_true rfl⟩
theorem stc : Statement .stc := ⟨Nat.le_of_ble_eq_true rfl, Nat.le_of_ble_eq_true rfl⟩
theorem cli : Statement .cli := ⟨Nat.le_of_ble_eq_true rfl, Nat.le_of_ble_eq_true rfl⟩
theorem sti : Statement .sti := ⟨Nat.le_of_ble_eq_true rfl, Nat.le_of_ble_eq_true rfl⟩
theorem cld : Statement .cld := ⟨Nat.le_of_ble_eq_true rfl, Nat.le_of_ble_eq_true rfl⟩
theorem std : Statement .std := ⟨Nat.le_of_ble_eq_true rfl, Nat.le_of_ble_eq_true rfl⟩
theorem clts : Statement .clts := ⟨Nat.le_of_ble_eq_true rfl, Nat.le_of_ble_eq_true rfl⟩
theorem invd : Statement .invd := ⟨Nat.le_of_ble_eq_true rfl, Nat.le_of_ble_eq_true rfl⟩
theorem wbinvd : Statement .wbinvd := ⟨Nat.le_of_ble_eq_true rfl, Nat.le_of_ble_eq_true rfl⟩
theorem rdtsc : Statement .rdtsc := ⟨Nat.le_of_ble_eq_true rfl, Nat.le_of_ble_eq_true rfl⟩
theorem pushFs : Statement .pushFs := ⟨Nat.le_of_ble_eq_true rfl, Nat.le_of_ble_eq_true rfl⟩
theorem popFs : Statement .popFs := ⟨Nat.le_of_ble_eq_true rfl, Nat.le_of_ble_eq_true rfl⟩
theorem cpuid : Statement .cpuid := ⟨Nat.le_of_ble_eq_true rfl, Nat.le_of_ble_eq_true rfl⟩
theorem pushGs : Statement .pushGs := ⟨Nat.le_of_ble_eq_true rfl, Nat.le_of_ble_eq_true rfl⟩
theorem popGs : Statement .popGs := ⟨Nat.le_of_ble_eq_true rfl, Nat.le_of_ble_eq_true rfl⟩
theorem udD6 : Statement .udD6 := ⟨Nat.le_of_ble_eq_true rfl, Nat.le_of_ble_eq_true rfl⟩
theorem udF1 : Statement .udF1 := ⟨Nat.le_of_ble_eq_true rfl, Nat.le_of_ble_eq_true rfl⟩
theorem udF6Ext1 : Statement .udF6Ext1 := ⟨Nat.le_of_ble_eq_true rfl, Nat.le_of_ble_eq_true rfl⟩
theorem udF7Ext1 : Statement .udF7Ext1 := ⟨Nat.le_of_ble_eq_true rfl, Nat.le_of_ble_eq_true rfl⟩
theorem udFEExt2 : Statement .udFEExt2 := ⟨Nat.le_of_ble_eq_true rfl, Nat.le_of_ble_eq_true rfl⟩
theorem udFEExt3 : Statement .udFEExt3 := ⟨Nat.le_of_ble_eq_true rfl, Nat.le_of_ble_eq_true rfl⟩
theorem udFEExt4 : Statement .udFEExt4 := ⟨Nat.le_of_ble_eq_true rfl, Nat.le_of_ble_eq_true rfl⟩
theorem udFEExt5 : Statement .udFEExt5 := ⟨Nat.le_of_ble_eq_true rfl, Nat.le_of_ble_eq_true rfl⟩
theorem udFEExt6 : Statement .udFEExt6 := ⟨Nat.le_of_ble_eq_true rfl, Nat.le_of_ble_eq_true rfl⟩
theorem udFEExt7 : Statement .udFEExt7 := ⟨Nat.le_of_ble_eq_true rfl, Nat.le_of_ble_eq_true rfl⟩
theorem udFFExt7 : Statement .udFFExt7 := ⟨Nat.le_of_ble_eq_true rfl, Nat.le_of_ble_eq_true rfl⟩
theorem ud8FExt1 : Statement .ud8FExt1 := ⟨Nat.le_of_ble_eq_true rfl, Nat.le_of_ble_eq_true rfl⟩
theorem ud8FExt2 : Statement .ud8FExt2 := ⟨Nat.le_of_ble_eq_true rfl, Nat.le_of_ble_eq_true rfl⟩
theorem ud8FExt3 : Statement .ud8FExt3 := ⟨Nat.le_of_ble_eq_true rfl, Nat.le_of_ble_eq_true rfl⟩
theorem ud8FExt4 : Statement .ud8FExt4 := ⟨Nat.le_of_ble_eq_true rfl, Nat.le_of_ble_eq_true rfl⟩
theorem ud8FExt5 : Statement .ud8FExt5 := ⟨Nat.le_of_ble_eq_true rfl, Nat.le_of_ble_eq_true rfl⟩
theorem ud8FExt6 : Statement .ud8FExt6 := ⟨Nat.le_of_ble_eq_true rfl, Nat.le_of_ble_eq_true rfl⟩
theorem ud8FExt7 : Statement .ud8FExt7 := ⟨Nat.le_of_ble_eq_true rfl, Nat.le_of_ble_eq_true rfl⟩
theorem udC6Ext1 : Statement .udC6Ext1 := ⟨Nat.le_of_ble_eq_true rfl, Nat.le_of_ble_eq_true rfl⟩
theorem udC6Ext2 : Statement .udC6Ext2 := ⟨Nat.le_of_ble_eq_true rfl, Nat.le_of_ble_eq_true rfl⟩
theorem udC6Ext3 : Statement .udC6Ext3 := ⟨Nat.le_of_ble_eq_true rfl, Nat.le_of_ble_eq_true rfl⟩
theorem udC6Ext4 : Statement .udC6Ext4 := ⟨Nat.le_of_ble_eq_true rfl, Nat.le_of_ble_eq_true rfl⟩
theorem udC6Ext5 : Statement .udC6Ext5 := ⟨Nat.le_of_ble_eq_true rfl, Nat.le_of_ble_eq_true rfl⟩
theorem udC6Ext6 : Statement .udC6Ext6 := ⟨Nat.le_of_ble_eq_true rfl, Nat.le_of_ble_eq_true rfl⟩
theorem udC6Ext7 : Statement .udC6Ext7 := ⟨Nat.le_of_ble_eq_true rfl, Nat.le_of_ble_eq_true rfl⟩
theorem udC7Ext1 : Statement .udC7Ext1 := ⟨Nat.le_of_ble_eq_true rfl, Nat.le_of_ble_eq_true rfl⟩
theorem udC7Ext2 : Statement .udC7Ext2 := ⟨Nat.le_of_ble_eq_true rfl, Nat.le_of_ble_eq_true rfl⟩
theorem udC7Ext3 : Statement .udC7Ext3 := ⟨Nat.le_of_ble_eq_true rfl, Nat.le_of_ble_eq_true rfl⟩
theorem udC7Ext4 : Statement .udC7Ext4 := ⟨Nat.le_of_ble_eq_true rfl, Nat.le_of_ble_eq_true rfl⟩
theorem udC7Ext5 : Statement .udC7Ext5 := ⟨Nat.le_of_ble_eq_true rfl, Nat.le_of_ble_eq_true rfl⟩
theorem udC7Ext6 : Statement .udC7Ext6 := ⟨Nat.le_of_ble_eq_true rfl, Nat.le_of_ble_eq_true rfl⟩
theorem udC7Ext7 : Statement .udC7Ext7 := ⟨Nat.le_of_ble_eq_true rfl, Nat.le_of_ble_eq_true rfl⟩
theorem ud0F00Ext6 : Statement .ud0F00Ext6 := ⟨Nat.le_of_ble_eq_true rfl, Nat.le_of_ble_eq_true rfl⟩
theorem ud0F00Ext7 : Statement .ud0F00Ext7 := ⟨Nat.le_of_ble_eq_true rfl, Nat.le_of_ble_eq_true rfl⟩
theorem ud0F01Ext5 : Statement .ud0F01Ext5 := ⟨Nat.le_of_ble_eq_true rfl, Nat.le_of_ble_eq_true rfl⟩
theorem ud0FBAExt0 : Statement .ud0FBAExt0 := ⟨Nat.le_of_ble_eq_true rfl, Nat.le_of_ble_eq_true rfl⟩
theorem ud0FBAExt1 : Statement .ud0FBAExt1 := ⟨Nat.le_of_ble_eq_true rfl, Nat.le_of_ble_eq_true rfl⟩
theorem ud0FBAExt2 : Statement .ud0FBAExt2 := ⟨Nat.le_of_ble_eq_true rfl, Nat.le_of_ble_eq_true rfl⟩
theorem ud0FBAExt3 : Statement .ud0FBAExt3 := ⟨Nat.le_of_ble_eq_true rfl, Nat.le_of_ble_eq_true rfl⟩
theorem ud0F04 : Statement .ud0F04 := ⟨Nat.le_of_ble_eq_true rfl, Nat.le_of_ble_eq_true rfl⟩
theorem ud0F05 : Statement .ud0F05 := ⟨Nat.le_of_ble_eq_true rfl, Nat.le_of_ble_eq_true rfl⟩
theorem ud0F07 : Statement .ud0F07 := ⟨Nat.le_of_ble_eq_true rfl, Nat.le_of_ble_eq_true rfl⟩
theorem ud0F0A : Statement .ud0F0A := ⟨Nat.le_of_ble_eq_true rfl, Nat.le_of_ble_eq_true rfl⟩
theorem ud0F0B : Statement .ud0F0B := ⟨Nat.le_of_ble_eq_true rfl, Nat.le_of_ble_eq_true rfl⟩
theorem ud0F0C : Statement .ud0F0C := ⟨Nat.le_of_ble_eq_true rfl, Nat.le_of_ble_eq_true rfl⟩
theorem ud0F0D : Statement .ud0F0D := ⟨Nat.le_of_ble_eq_true rfl, Nat.le_of_ble_eq_true rfl⟩
theorem ud0F0E : Statement .ud0F0E := ⟨Nat.le_of_ble_eq_true rfl, Nat.le_of_ble_eq_true rfl⟩
theorem ud0F0F : Statement .ud0F0F := ⟨Nat.le_of_ble_eq_true rfl, Nat.le_of_ble_eq_true rfl⟩
theorem ud0F10 : Statement .ud0F10 := ⟨Nat.le_of_ble_eq_true rfl, Nat.le_of_ble_eq_true rfl⟩
theorem ud0F11 : Statement .ud0F11 := ⟨Nat.le_of_ble_eq_true rfl, Nat.le_of_ble_eq_true rfl⟩
theorem ud0F12 : Statement .ud0F12 := ⟨Nat.le_of_ble_eq_true rfl, Nat.le_of_ble_eq_true rfl⟩
theorem ud0F13 : Statement .ud0F13 := ⟨Nat.le_of_ble_eq_true rfl, Nat.le_of_ble_eq_true rfl⟩
theorem ud0F14 : Statement .ud0F14 := ⟨Nat.le_of_ble_eq_true rfl, Nat.le_of_ble_eq_true rfl⟩
theorem ud0F15 : Statement .ud0F15 := ⟨Nat.le_of_ble_eq_true rfl, Nat.le_of_ble_eq_true rfl⟩
theorem ud0F16 : Statement .ud0F16 := ⟨Nat.le_of_ble_eq_true rfl, Nat.le_of_ble_eq_true rfl⟩
theorem ud0F17 : Statement .ud0F17 := ⟨Nat.le_of_ble_eq_true rfl, Nat.le_of_ble_eq_true rfl⟩
theorem ud0F18 : Statement .ud0F18 := ⟨Nat.le_of_ble_eq_true rfl, Nat.le_of_ble_eq_true rfl⟩
theorem ud0F19 : Statement .ud0F19 := ⟨Nat.le_of_ble_eq_true rfl, Nat.le_of_ble_eq_true rfl⟩
theorem ud0F1A : Statement .ud0F1A := ⟨Nat.le_of_ble_eq_true rfl, Nat.le_of_ble_eq_true rfl⟩
theorem ud0F1B : Statement .ud0F1B := ⟨Nat.le_of_ble_eq_true rfl, Nat.le_of_ble_eq_true rfl⟩
theorem ud0F1C : Statement .ud0F1C := ⟨Nat.le_of_ble_eq_true rfl, Nat.le_of_ble_eq_true rfl⟩
theorem ud0F1D : Statement .ud0F1D := ⟨Nat.le_of_ble_eq_true rfl, Nat.le_of_ble_eq_true rfl⟩
theorem ud0F1E : Statement .ud0F1E := ⟨Nat.le_of_ble_eq_true rfl, Nat.le_of_ble_eq_true rfl⟩
theorem ud0F1F : Statement .ud0F1F := ⟨Nat.le_of_ble_eq_true rfl, Nat.le_of_ble_eq_true rfl⟩
theorem ud0F21 : Statement .ud0F21 := ⟨Nat.le_of_ble_eq_true rfl, Nat.le_of_ble_eq_true rfl⟩
theorem ud0F24 : Statement .ud0F24 := ⟨Nat.le_of_ble_eq_true rfl, Nat.le_of_ble_eq_true rfl⟩
theorem ud0F25 : Statement .ud0F25 := ⟨Nat.le_of_ble_eq_true rfl, Nat.le_of_ble_eq_true rfl⟩
theorem ud0F26 : Statement .ud0F26 := ⟨Nat.le_of_ble_eq_true rfl, Nat.le_of_ble_eq_true rfl⟩
theorem ud0F27 : Statement .ud0F27 := ⟨Nat.le_of_ble_eq_true rfl, Nat.le_of_ble_eq_true rfl⟩
theorem ud0F28 : Statement .ud0F28 := ⟨Nat.le_of_ble_eq_true rfl, Nat.le_of_ble_eq_true rfl⟩
theorem ud0F29 : Statement .ud0F29 := ⟨Nat.le_of_ble_eq_true rfl, Nat.le_of_ble_eq_true rfl⟩
theorem ud0F2A : Statement .ud0F2A := ⟨Nat.le_of_ble_eq_true rfl, Nat.le_of_ble_eq_true rfl⟩
theorem ud0F2B : Statement .ud0F2B := ⟨Nat.le_of_ble_eq_true rfl, Nat.le_of_ble_eq_true rfl⟩
theorem ud0F2C : Statement .ud0F2C := ⟨Nat.le_of_ble_eq_true rfl, Nat.le_of_ble_eq_true rfl⟩
theorem ud0F2D : Statement .ud0F2D := ⟨Nat.le_of_ble_eq_true rfl, Nat.le_of_ble_eq_true rfl⟩
theorem ud0F2E : Statement .ud0F2E := ⟨Nat.le_of_ble_eq_true rfl, Nat.le_of_ble_eq_true rfl⟩
theorem ud0F2F : Statement .ud0F2F := ⟨Nat.le_of_ble_eq_true rfl, Nat.le_of_ble_eq_true rfl⟩
theorem ud0F30 : Statement .ud0F30 := ⟨Nat.le_of_ble_eq_true rfl, Nat.le_of_ble_eq_true rfl⟩
theorem ud0F32 : Statement .ud0F32 := ⟨Nat.le_of_ble_eq_true rfl, Nat.le_of_ble_eq_true rfl⟩
theorem ud0F33 : Statement .ud0F33 := ⟨Nat.le_of_ble_eq_true rfl, Nat.le_of_ble_eq_true rfl⟩
theorem ud0F34 : Statement .ud0F34 := ⟨Nat.le_of_ble_eq_true rfl, Nat.le_of_ble_eq_true rfl⟩
theorem ud0F35 : Statement .ud0F35 := ⟨Nat.le_of_ble_eq_true rfl, Nat.le_of_ble_eq_true rfl⟩
theorem ud0F36 : Statement .ud0F36 := ⟨Nat.le_of_ble_eq_true rfl, Nat.le_of_ble_eq_true rfl⟩
theorem ud0F37 : Statement .ud0F37 := ⟨Nat.le_of_ble_eq_true rfl, Nat.le_of_ble_eq_true rfl⟩
theorem ud0F38 : Statement .ud0F38 := ⟨Nat.le_of_ble_eq_true rfl, Nat.le_of_ble_eq_true rfl⟩
theorem ud0F39 : Statement .ud0F39 := ⟨Nat.le_of_ble_eq_true rfl, Nat.le_of_ble_eq_true rfl⟩
theorem ud0F3A : Statement .ud0F3A := ⟨Nat.le_of_ble_eq_true rfl, Nat.le_of_ble_eq_true rfl⟩
theorem ud0F3B : Statement .ud0F3B := ⟨Nat.le_of_ble_eq_true rfl, Nat.le_of_ble_eq_true rfl⟩
theorem ud0F3C : Statement .ud0F3C := ⟨Nat.le_of_ble_eq_true rfl, Nat.le_of_ble_eq_true rfl⟩
theorem ud0F3D : Statement .ud0F3D := ⟨Nat.le_of_ble_eq_true rfl, Nat.le_of_ble_eq_true rfl⟩
theorem ud0F3E : Statement .ud0F3E := ⟨Nat.le_of_ble_eq_true rfl, Nat.le_of_ble_eq_true rfl⟩
theorem ud0F3F : Statement .ud0F3F := ⟨Nat.le_of_ble_eq_true rfl, Nat.le_of_ble_eq_true rfl⟩
theorem ud0F50 : Statement .ud0F50 := ⟨Nat.le_of_ble_eq_true rfl, Nat.le_of_ble_eq_true rfl⟩
theorem ud0F51 : Statement .ud0F51 := ⟨Nat.le_of_ble_eq_true rfl, Nat.le_of_ble_eq_true rfl⟩
theorem ud0F52 : Statement .ud0F52 := ⟨Nat.le_of_ble_eq_true rfl, Nat.le_of_ble_eq_true rfl⟩
theorem ud0F53 : Statement .ud0F53 := ⟨Nat.le_of_ble_eq_true rfl, Nat.le_of_ble_eq_true rfl⟩
theorem ud0F54 : Statement .ud0F54 := ⟨Nat.le_of_ble_eq_true rfl, Nat.le_of_ble_eq_true rfl⟩
theorem ud0F55 : Statement .ud0F55 := ⟨Nat.le_of_ble_eq_true rfl, Nat.le_of_ble_eq_true rfl⟩
theorem ud0F56 : Statement .ud0F56 := ⟨Nat.le_of_ble_eq_true rfl, Nat.le_of_ble_eq_true rfl⟩
theorem ud0F57 : Statement .ud0F57 := ⟨Nat.le_of_ble_eq_true rfl, Nat.le_of_ble_eq_true rfl⟩
theorem ud0F58 : Statement .ud0F58 := ⟨Nat.le_of_ble_eq_true rfl, Nat.le_of_ble_eq_true rfl⟩
theorem ud0F59 : Statement .ud0F59 := ⟨Nat.le_of_ble_eq_true rfl, Nat.le_of_ble_eq_true rfl⟩
theorem ud0F5A : Statement .ud0F5A := ⟨Nat.le_of_ble_eq_true rfl, Nat.le_of_ble_eq_true rfl⟩
theorem ud0F5B : Statement .ud0F5B := ⟨Nat.le_of_ble_eq_true rfl, Nat.le_of_ble_eq_true rfl⟩
theorem ud0F5C : Statement .ud0F5C := ⟨Nat.le_of_ble_eq_true rfl, Nat.le_of_ble_eq_true rfl⟩
theorem ud0F5D : Statement .ud0F5D := ⟨Nat.le_of_ble_eq_true rfl, Nat.le_of_ble_eq_true rfl⟩
theorem ud0F5E : Statement .ud0F5E := ⟨Nat.le_of_ble_eq_true rfl, Nat.le_of_ble_eq_true rfl⟩
theorem ud0F5F : Statement .ud0F5F := ⟨Nat.le_of_ble_eq_true rfl, Nat.le_of_ble_eq_true rfl⟩
theorem ud0F60 : Statement .ud0F60 := ⟨Nat.le_of_ble_eq_true rfl, Nat.le_of_ble_eq_true rfl⟩
theorem ud0F61 : Statement .ud0F61 := ⟨Nat.le_of_ble_eq_true rfl, Nat.le_of_ble_eq_true rfl⟩
theorem ud0F62 : Statement .ud0F62 := ⟨Nat.le_of_ble_eq_true rfl, Nat.le_of_ble_eq_true rfl⟩
theorem ud0F63 : Statement .ud0F63 := ⟨Nat.le_of_ble_eq_true rfl, Nat.le_of_ble_eq_true rfl⟩
theorem ud0F64 : Statement .ud0F64 := ⟨Nat.le_of_ble_eq_true rfl, Nat.le_of_ble_eq_true rfl⟩
theorem ud0F65 : Statement .ud0F65 := ⟨Nat.le_of_ble_eq_true rfl, Nat.le_of_ble_eq_true rfl⟩
theorem ud0F66 : Statement .ud0F66 := ⟨Nat.le_of_ble_eq_true rfl, Nat.le_of_ble_eq_true rfl⟩
theorem ud0F67 : Statement .ud0F67 := ⟨Nat.le_of_ble_eq_true rfl, Nat.le_of_ble_eq_true rfl⟩
theorem ud0F68 : Statement .ud0F68 := ⟨Nat.le_of_ble_eq_true rfl, Nat.le_of_ble_eq_true rfl⟩
theorem ud0F69 : Statement .ud0F69 := ⟨Nat.le_of_ble_eq_true rfl, Nat.le_of_ble_eq_true rfl⟩
theorem ud0F6A : Statement .ud0F6A := ⟨Nat.le_of_ble_eq_true rfl, Nat.le_of_ble_eq_true rfl⟩
theorem ud0F6B : Statement .ud0F6B := ⟨Nat.le_of_ble_eq_true rfl, Nat.le_of_ble_eq_true rfl⟩
theorem ud0F6C : Statement .ud0F6C := ⟨Nat.le_of_ble_eq_true rfl, Nat.le_of_ble_eq_true rfl⟩
theorem ud0F6D : Statement .ud0F6D := ⟨Nat.le_of_ble_eq_true rfl, Nat.le_of_ble_eq_true rfl⟩
theorem ud0F6E : Statement .ud0F6E := ⟨Nat.le_of_ble_eq_true rfl, Nat.le_of_ble_eq_true rfl⟩
theorem ud0F6F : Statement .ud0F6F := ⟨Nat.le_of_ble_eq_true rfl, Nat.le_of_ble_eq_true rfl⟩
theorem ud0F70 : Statement .ud0F70 := ⟨Nat.le_of_ble_eq_true rfl, Nat.le_of_ble_eq_true rfl⟩
theorem ud0F71 : Statement .ud0F71 := ⟨Nat.le_of_ble_eq_true rfl, Nat.le_of_ble_eq_true rfl⟩
theorem ud0F72 : Statement .ud0F72 := ⟨Nat.le_of_ble_eq_true rfl, Nat.le_of_ble_eq_true rfl⟩
theorem ud0F73 : Statement .ud0F73 := ⟨Nat.le_of_ble_eq_true rfl, Nat.le_of_ble_eq_true rfl⟩
theorem ud0F74 : Statement .ud0F74 := ⟨Nat.le_of_ble_eq_true rfl, Nat.le_of_ble_eq_true rfl⟩
theorem ud0F75 : Statement .ud0F75 := ⟨Nat.le_of_ble_eq_true rfl, Nat.le_of_ble_eq_true rfl⟩
theorem ud0F76 : Statement .ud0F76 := ⟨Nat.le_of_ble_eq_true rfl, Nat.le_of_ble_eq_true rfl⟩
theorem ud0F77 : Statement .ud0F77 := ⟨Nat.le_of_ble_eq_true rfl, Nat.le_of_ble_eq_true rfl⟩
theorem ud0F78 : Statement .ud0F78 := ⟨Nat.le_of_ble_eq_true rfl, Nat.le_of_ble_eq_true rfl⟩
theorem ud0F79 : Statement .ud0F79 := ⟨Nat.le_of_ble_eq_true rfl, Nat.le_of_ble_eq_true rfl⟩
theorem ud0F7A : Statement .ud0F7A := ⟨Nat.le_of_ble_eq_true rfl, Nat.le_of_ble_eq_true rfl⟩
theorem ud0F7B : Statement .ud0F7B := ⟨Nat.le_of_ble_eq_true rfl, Nat.le_of_ble_eq_true rfl⟩
theorem ud0F7C : Statement .ud0F7C := ⟨Nat.le_of_ble_eq_true rfl, Nat.le_of_ble_eq_true rfl⟩
theorem ud0F7D : Statement .ud0F7D := ⟨Nat.le_of_ble_eq_true rfl, Nat.le_of_ble_eq_true rfl⟩
theorem ud0F7E : Statement .ud0F7E := ⟨Nat.le_of_ble_eq_true rfl, Nat.le_of_ble_eq_true rfl⟩
theorem ud0F7F : Statement .ud0F7F := ⟨Nat.le_of_ble_eq_true rfl, Nat.le_of_ble_eq_true rfl⟩
theorem ud0FA6 : Statement .ud0FA6 := ⟨Nat.le_of_ble_eq_true rfl, Nat.le_of_ble_eq_true rfl⟩
theorem ud0FA7 : Statement .ud0FA7 := ⟨Nat.le_of_ble_eq_true rfl, Nat.le_of_ble_eq_true rfl⟩
theorem ud0FAA : Statement .ud0FAA := ⟨Nat.le_of_ble_eq_true rfl, Nat.le_of_ble_eq_true rfl⟩
theorem ud0FAE : Statement .ud0FAE := ⟨Nat.le_of_ble_eq_true rfl, Nat.le_of_ble_eq_true rfl⟩
theorem ud0FB8 : Statement .ud0FB8 := ⟨Nat.le_of_ble_eq_true rfl, Nat.le_of_ble_eq_true rfl⟩
theorem ud0FB9 : Statement .ud0FB9 := ⟨Nat.le_of_ble_eq_true rfl, Nat.le_of_ble_eq_true rfl⟩
theorem ud0FC2 : Statement .ud0FC2 := ⟨Nat.le_of_ble_eq_true rfl, Nat.le_of_ble_eq_true rfl⟩
theorem ud0FC3 : Statement .ud0FC3 := ⟨Nat.le_of_ble_eq_true rfl, Nat.le_of_ble_eq_true rfl⟩
theorem ud0FC4 : Statement .ud0FC4 := ⟨Nat.le_of_ble_eq_true rfl, Nat.le_of_ble_eq_true rfl⟩
theorem ud0FC5 : Statement .ud0FC5 := ⟨Nat.le_of_ble_eq_true rfl, Nat.le_of_ble_eq_true rfl⟩
theorem ud0FC6 : Statement .ud0FC6 := ⟨Nat.le_of_ble_eq_true rfl, Nat.le_of_ble_eq_true rfl⟩
theorem ud0FC7 : Statement .ud0FC7 := ⟨Nat.le_of_ble_eq_true rfl, Nat.le_of_ble_eq_true rfl⟩
theorem ud0FD0 : Statement .ud0FD0 := ⟨Nat.le_of_ble_eq_true rfl, Nat.le_of_ble_eq_true rfl⟩
theorem ud0FD1 : Statement .ud0FD1 := ⟨Nat.le_of_ble_eq_true rfl, Nat.le_of_ble_eq_true rfl⟩
theorem ud0FD2 : Statement .ud0FD2 := ⟨Nat.le_of_ble_eq_true rfl, Nat.le_of_ble_eq_true rfl⟩
theorem ud0FD3 : Statement .ud0FD3 := ⟨Nat.le_of_ble_eq_true rfl, Nat.le_of_ble_eq_true rfl⟩
theorem ud0FD4 : Statement .ud0FD4 := ⟨Nat.le_of_ble_eq_true rfl, Nat.le_of_ble_eq_true rfl⟩
theorem ud0FD5 : Statement .ud0FD5 := ⟨Nat.le_of_ble_eq_true rfl, Nat.le_of_ble_eq_true rfl⟩
theorem ud0FD6 : Statement .ud0FD6 := ⟨Nat.le_of_ble_eq_true rfl, Nat.le_of_ble_eq_true rfl⟩
theorem ud0FD7 : Statement .ud0FD7 := ⟨Nat.le_of_ble_eq_true rfl, Nat.le_of_ble_eq_true rfl⟩
theorem ud0FD8 : Statement .ud0FD8 := ⟨Nat.le_of_ble_eq_true rfl, Nat.le_of_ble_eq_true rfl⟩
theorem ud0FD9 : Statement .ud0FD9 := ⟨Nat.le_of_ble_eq_true rfl, Nat.le_of_ble_eq_true rfl⟩
theorem ud0FDA : Statement .ud0FDA := ⟨Nat.le_of_ble_eq_true rfl, Nat.le_of_ble_eq_true rfl⟩
theorem ud0FDB : Statement .ud0FDB := ⟨Nat.le_of_ble_eq_true rfl, Nat.le_of_ble_eq_true rfl⟩
theorem ud0FDC : Statement .ud0FDC := ⟨Nat.le_of_ble_eq_true rfl, Nat.le_of_ble_eq_true rfl⟩
theorem ud0FDD : Statement .ud0FDD := ⟨Nat.le_of_ble_eq_true rfl, Nat.le_of_ble_eq_true rfl⟩
theorem ud0FDE : Statement .ud0FDE := ⟨Nat.le_of_ble_eq_true rfl, Nat.le_of_ble_eq_true rfl⟩
theorem ud0FDF : Statement .ud0FDF := ⟨Nat.le_of_ble_eq_true rfl, Nat.le_of_ble_eq_true rfl⟩
theorem ud0FE0 : Statement .ud0FE0 := ⟨Nat.le_of_ble_eq_true rfl, Nat.le_of_ble_eq_true rfl⟩
theorem ud0FE1 : Statement .ud0FE1 := ⟨Nat.le_of_ble_eq_true rfl, Nat.le_of_ble_eq_true rfl⟩
theorem ud0FE2 : Statement .ud0FE2 := ⟨Nat.le_of_ble_eq_true rfl, Nat.le_of_ble_eq_true rfl⟩
theorem ud0FE3 : Statement .ud0FE3 := ⟨Nat.le_of_ble_eq_true rfl, Nat.le_of_ble_eq_true rfl⟩
theorem ud0FE4 : Statement .ud0FE4 := ⟨Nat.le_of_ble_eq_true rfl, Nat.le_of_ble_eq_true rfl⟩
theorem ud0FE5 : Statement .ud0FE5 := ⟨Nat.le_of_ble_eq_true rfl, Nat.le_of_ble_eq_true rfl⟩
theorem ud0FE6 : Statement .ud0FE6 := ⟨Nat.le_of_ble_eq_true rfl, Nat.le_of_ble_eq_true rfl⟩
theorem ud0FE7 : Statement .ud0FE7 := ⟨Nat.le_of_ble_eq_true rfl, Nat.le_of_ble_eq_true rfl⟩
theorem ud0FE8 : Statement .ud0FE8 := ⟨Nat.le_of_ble_eq_true rfl, Nat.le_of_ble_eq_true rfl⟩
theorem ud0FE9 : Statement .ud0FE9 := ⟨Nat.le_of_ble_eq_true rfl, Nat.le_of_ble_eq_true rfl⟩
theorem ud0FEA : Statement .ud0FEA := ⟨Nat.le_of_ble_eq_true rfl, Nat.le_of_ble_eq_true rfl⟩
theorem ud0FEB : Statement .ud0FEB := ⟨Nat.le_of_ble_eq_true rfl, Nat.le_of_ble_eq_true rfl⟩
theorem ud0FEC : Statement .ud0FEC := ⟨Nat.le_of_ble_eq_true rfl, Nat.le_of_ble_eq_true rfl⟩
theorem ud0FED : Statement .ud0FED := ⟨Nat.le_of_ble_eq_true rfl, Nat.le_of_ble_eq_true rfl⟩
theorem ud0FEE : Statement .ud0FEE := ⟨Nat.le_of_ble_eq_true rfl, Nat.le_of_ble_eq_true rfl⟩
theorem ud0FEF : Statement .ud0FEF := ⟨Nat.le_of_ble_eq_true rfl, Nat.le_of_ble_eq_true rfl⟩
theorem ud0FF0 : Statement .ud0FF0 := ⟨Nat.le_of_ble_eq_true rfl, Nat.le_of_ble_eq_true rfl⟩
theorem ud0FF1 : Statement .ud0FF1 := ⟨Nat.le_of_ble_eq_true rfl, Nat.le_of_ble_eq_true rfl⟩
theorem ud0FF2 : Statement .ud0FF2 := ⟨Nat.le_of_ble_eq_true rfl, Nat.le_of_ble_eq_true rfl⟩
theorem ud0FF3 : Statement .ud0FF3 := ⟨Nat.le_of_ble_eq_true rfl, Nat.le_of_ble_eq_true rfl⟩
theorem ud0FF4 : Statement .ud0FF4 := ⟨Nat.le_of_ble_eq_true rfl, Nat.le_of_ble_eq_true rfl⟩
theorem ud0FF5 : Statement .ud0FF5 := ⟨Nat.le_of_ble_eq_true rfl, Nat.le_of_ble_eq_true rfl⟩
theorem ud0FF6 : Statement .ud0FF6 := ⟨Nat.le_of_ble_eq_true rfl, Nat.le_of_ble_eq_true rfl⟩
theorem ud0FF7 : Statement .ud0FF7 := ⟨Nat.le_of_ble_eq_true rfl, Nat.le_of_ble_eq_true rfl⟩
theorem ud0FF8 : Statement .ud0FF8 := ⟨Nat.le_of_ble_eq_true rfl, Nat.le_of_ble_eq_true rfl⟩
theorem ud0FF9 : Statement .ud0FF9 := ⟨Nat.le_of_ble_eq_true rfl, Nat.le_of_ble_eq_true rfl⟩
theorem ud0FFA : Statement .ud0FFA := ⟨Nat.le_of_ble_eq_true rfl, Nat.le_of_ble_eq_true rfl⟩
theorem ud0FFB : Statement .ud0FFB := ⟨Nat.le_of_ble_eq_true rfl, Nat.le_of_ble_eq_true rfl⟩
theorem ud0FFC : Statement .ud0FFC := ⟨Nat.le_of_ble_eq_true rfl, Nat.le_of_ble_eq_true rfl⟩
theorem ud0FFD : Statement .ud0FFD := ⟨Nat.le_of_ble_eq_true rfl, Nat.le_of_ble_eq_true rfl⟩
theorem ud0FFE : Statement .ud0FFE := ⟨Nat.le_of_ble_eq_true rfl, Nat.le_of_ble_eq_true rfl⟩
theorem ud0FFF : Statement .ud0FFF := ⟨Nat.le_of_ble_eq_true rfl, Nat.le_of_ble_eq_true rfl⟩

end Sys2Proof.Laws.EncodedLength
end

