-- ==== Sys2Proof/Tests/Slice0.lean ====
section
/-! SUPPORT. Tests: terms the well-formedness check refuses, the decoding of every constructor from a word written out
from its encoding, instructions on the worked examples of the spec's rules (expected values from the "Example" lines of
40_data_movement.md to 47_system.md, of 60_exceptions.md, and from 95_test_vectors.md), and for each statement with
hypotheses a state and operands that meet them. -/

open Sys2Proof Sys2Proof.Machine

set_option Elab.async false

namespace Sys2Proof.Tests

/-! ### Well-formed terms -/

/-- 16-bit sizes, in protected mode so that the instructions of that mode alone have their operands. -/
def mode16 : Mode := { osz32 := false, asz32 := false, pe := true }

/-- 32-bit sizes, protected mode. -/
def mode32 : Mode := { osz32 := true, asz32 := true, pe := true }

/-- Operands of the other address size, and the base forms no ModRM byte encodes. -/
theorem test_wellFormed_rm :
    Rm.ok mode32 (.abs16 0#16) = false ∧ Rm.ok mode32 (.ind16 .bx .none) = false
      ∧ Rm.ok mode16 (.ind16 .bp .none) = false ∧ Rm.ok mode16 (.abs32 0#32) = false
      ∧ Rm.ok mode16 (.ind32 .ebx .none) = false ∧ Rm.ok mode32 (.ind32 .esp .none) = false
      ∧ Rm.ok mode32 (.ind32 .ebp .none) = false ∧ Rm.ok mode16 (.sib 0#2 .eax .eax .none) = false
      ∧ Rm.ok mode32 (.sib 0#2 .eax .ebp .none) = false ∧ Rm.ok mode16 (.sibAbs 0#2 .eax 0#32) = false := by
  decide +kernel

/-- Operands cut off, in an instruction that has its operand in this mode. -/
theorem test_wellFormed_cut :
    WellFormed mode32 (.addRmvRv (.cut 3#2 0#3) .eax) = false ∧ WellFormed mode32 (.addRmvRv .absent .eax) = false
      ∧ WellFormed mode32 (.sldtRm16 (.cut 3#2 0#3)) = false
      ∧ WellFormed mode32 (.larRvRm16 .eax .absent) = false := by
  decide +kernel

/-- Operands kept where decoding ends before them. -/
theorem test_wellFormed_kept :
    WellFormed Mode.reset (.sldtRm16 (.reg .eax)) = false
      ∧ WellFormed Mode.reset (.arplRm16R16 (.reg .eax) .eax) = false
      ∧ WellFormed Mode.reset (.lslRvRm16 .ecx .absent) = false
      ∧ WellFormed mode32 (.movRm16Sreg (.reg .eax) 6#3) = false
      ∧ WellFormed mode32 (.movSregRm16 1#3 (.reg .eax)) = false
      ∧ WellFormed mode32 (.movR32Cr (.ind32 .eax .none) 0#3) = false
      ∧ WellFormed mode32 (.movCrR32 0#3 (.cut 3#2 0#3)) = false := by decide +kernel

/-- Immediates and direct offsets of the wrong size. -/
theorem test_wellFormed_immediates :
    WellFormed mode32 (.addEaxImmv (.i16 0#16)) = false ∧ WellFormed mode16 (.addEaxImmv (.i32 0#32)) = false
      ∧ WellFormed mode32 (.movAlMoffs (.i16 0#16)) = false
      ∧ WellFormed mode16 (.movMoffsEax (.i32 0#32)) = false := by
  decide +kernel

/-! ### Decoding

Each pair is the bytes of an instruction and what they decode to in 16-bit sizes. The ModRM bytes are D2 with the reg
field set (mod 3, rm EDX), or 07 with it set (the memory at BX) where only memory is allowed; the reg field is ECX, or 3
where it is a number. -/

/-- The bytes are exactly the item. -/
def decodesIn (m : Mode) (p : List Byte × Instr) : Bool :=
  match decodeBytes m p.1 with
  | .ok (i, rest) => i == p.2 && rest.isEmpty
  | .error _ => false

/-- The same in `mode16`. -/
def decodesTo (p : List Byte × Instr) : Bool := decodesIn mode16 p

/-- Opcodes 00 to 0F 90. -/
def wordsAdmitted1 : List (List Byte × Instr) :=
  [([0x00#8, 0xCA#8], .addRm8R8 (.reg .edx) .ecx), ([0x01#8, 0xCA#8], .addRmvRv (.reg .edx) .ecx),
   ([0x02#8, 0xCA#8], .addR8Rm8 .ecx (.reg .edx)), ([0x03#8, 0xCA#8], .addRvRmv .ecx (.reg .edx)),
   ([0x04#8, 0x85#8], .addAlImm8 0x85#8), ([0x05#8, 0x78#8, 0x56#8], .addEaxImmv (.i16 0x5678#16)),
   ([0x06#8], .pushEs), ([0x07#8], .popEs), ([0x08#8, 0xCA#8], .orRm8R8 (.reg .edx) .ecx),
   ([0x09#8, 0xCA#8], .orRmvRv (.reg .edx) .ecx), ([0x0A#8, 0xCA#8], .orR8Rm8 .ecx (.reg .edx)),
   ([0x0B#8, 0xCA#8], .orRvRmv .ecx (.reg .edx)), ([0x0C#8, 0x85#8], .orAlImm8 0x85#8),
   ([0x0D#8, 0x78#8, 0x56#8], .orEaxImmv (.i16 0x5678#16)), ([0x0E#8], .pushCs),
   ([0x0F#8, 0x00#8, 0xC2#8], .sldtRm16 (.reg .edx)), ([0x0F#8, 0x00#8, 0xCA#8], .strRm16 (.reg .edx)),
   ([0x0F#8, 0x00#8, 0xD2#8], .lldtRm16 (.reg .edx)), ([0x0F#8, 0x00#8, 0xDA#8], .ltrRm16 (.reg .edx)),
   ([0x0F#8, 0x00#8, 0xE2#8], .verrRm16 (.reg .edx)), ([0x0F#8, 0x00#8, 0xEA#8], .verwRm16 (.reg .edx)),
   ([0x0F#8, 0x01#8, 0x07#8], .sgdtM (.ind16 .bx .none)), ([0x0F#8, 0x01#8, 0x0F#8], .sidtM (.ind16 .bx .none)),
   ([0x0F#8, 0x01#8, 0x17#8], .lgdtM (.ind16 .bx .none)), ([0x0F#8, 0x01#8, 0x1F#8], .lidtM (.ind16 .bx .none)),
   ([0x0F#8, 0x01#8, 0xE2#8], .smswRm16 (.reg .edx)), ([0x0F#8, 0x01#8, 0xF2#8], .lmswRm16 (.reg .edx)),
   ([0x0F#8, 0x01#8, 0x3F#8], .invlpgM (.ind16 .bx .none)), ([0x0F#8, 0x02#8, 0xCA#8], .larRvRm16 .ecx (.reg .edx)),
   ([0x0F#8, 0x03#8, 0xCA#8], .lslRvRm16 .ecx (.reg .edx)), ([0x0F#8, 0x06#8], .clts), ([0x0F#8, 0x08#8], .invd),
   ([0x0F#8, 0x09#8], .wbinvd), ([0x0F#8, 0x20#8, 0xDA#8], .movR32Cr (.reg .edx) 3#3),
   ([0x0F#8, 0x22#8, 0xDA#8], .movCrR32 3#3 (.reg .edx)), ([0x0F#8, 0x23#8, 0xDA#8], .movDrR32 3#3 (.reg .edx)),
   ([0x0F#8, 0x31#8], .rdtsc), ([0x0F#8, 0x4C#8, 0xCA#8], .cmovRvRmv .l .ecx (.reg .edx)),
   ([0x0F#8, 0x8C#8, 0x78#8, 0x56#8], .jccRelv .l (.i16 0x5678#16)),
   ([0x0F#8, 0x9C#8, 0xDA#8], .setccRm8 .l 3#3 (.reg .edx))]

theorem test_decode_admitted1 : wordsAdmitted1.all decodesTo = true := by decide +kernel

/-- Opcodes 0F A0 to 17. -/
def wordsAdmitted2 : List (List Byte × Instr) :=
  [([0x0F#8, 0xA0#8], .pushFs), ([0x0F#8, 0xA1#8], .popFs), ([0x0F#8, 0xA2#8], .cpuid),
   ([0x0F#8, 0xA3#8, 0xCA#8], .btRmvRv (.reg .edx) .ecx),
   ([0x0F#8, 0xA4#8, 0xCA#8, 0x85#8], .shldImm8 (.reg .edx) .ecx 0x85#8),
   ([0x0F#8, 0xA5#8, 0xCA#8], .shldCl (.reg .edx) .ecx), ([0x0F#8, 0xA8#8], .pushGs), ([0x0F#8, 0xA9#8], .popGs),
   ([0x0F#8, 0xAB#8, 0xCA#8], .btsRmvRv (.reg .edx) .ecx),
   ([0x0F#8, 0xAC#8, 0xCA#8, 0x85#8], .shrdImm8 (.reg .edx) .ecx 0x85#8),
   ([0x0F#8, 0xAD#8, 0xCA#8], .shrdCl (.reg .edx) .ecx), ([0x0F#8, 0xAF#8, 0xCA#8], .imulRvRmv .ecx (.reg .edx)),
   ([0x0F#8, 0xB0#8, 0xCA#8], .cmpxchgRm8R8 (.reg .edx) .ecx),
   ([0x0F#8, 0xB1#8, 0xCA#8], .cmpxchgRmvRv (.reg .edx) .ecx),
   ([0x0F#8, 0xB2#8, 0x0F#8], .lssRvM .ecx (.ind16 .bx .none)),
   ([0x0F#8, 0xB3#8, 0xCA#8], .btrRmvRv (.reg .edx) .ecx),
   ([0x0F#8, 0xB4#8, 0x0F#8], .lfsRvM .ecx (.ind16 .bx .none)),
   ([0x0F#8, 0xB5#8, 0x0F#8], .lgsRvM .ecx (.ind16 .bx .none)),
   ([0x0F#8, 0xB6#8, 0xCA#8], .movzxRvRm8 .ecx (.reg .edx)),
   ([0x0F#8, 0xB7#8, 0xCA#8], .movzxRvRm16 .ecx (.reg .edx)),
   ([0x0F#8, 0xBA#8, 0xE2#8, 0x85#8], .btRmvImm8 (.reg .edx) 0x85#8),
   ([0x0F#8, 0xBA#8, 0xEA#8, 0x85#8], .btsRmvImm8 (.reg .edx) 0x85#8),
   ([0x0F#8, 0xBA#8, 0xF2#8, 0x85#8], .btrRmvImm8 (.reg .edx) 0x85#8),
   ([0x0F#8, 0xBA#8, 0xFA#8, 0x85#8], .btcRmvImm8 (.reg .edx) 0x85#8),
   ([0x0F#8, 0xBB#8, 0xCA#8], .btcRmvRv (.reg .edx) .ecx), ([0x0F#8, 0xBC#8, 0xCA#8], .bsfRvRmv .ecx (.reg .edx)),
   ([0x0F#8, 0xBD#8, 0xCA#8], .bsrRvRmv .ecx (.reg .edx)), ([0x0F#8, 0xBE#8, 0xCA#8], .movsxRvRm8 .ecx (.reg .edx)),
   ([0x0F#8, 0xBF#8, 0xCA#8], .movsxRvRm16 .ecx (.reg .edx)), ([0x0F#8, 0xC0#8, 0xCA#8], .xaddRm8R8 (.reg .edx) .ecx),
   ([0x0F#8, 0xC1#8, 0xCA#8], .xaddRmvRv (.reg .edx) .ecx), ([0x0F#8, 0xCE#8], .bswapR32 .esi),
   ([0x10#8, 0xCA#8], .adcRm8R8 (.reg .edx) .ecx), ([0x11#8, 0xCA#8], .adcRmvRv (.reg .edx) .ecx),
   ([0x12#8, 0xCA#8], .adcR8Rm8 .ecx (.reg .edx)), ([0x13#8, 0xCA#8], .adcRvRmv .ecx (.reg .edx)),
   ([0x14#8, 0x85#8], .adcAlImm8 0x85#8), ([0x15#8, 0x78#8, 0x56#8], .adcEaxImmv (.i16 0x5678#16)),
   ([0x16#8], .pushSs), ([0x17#8], .popSs)]

theorem test_decode_admitted2 : wordsAdmitted2.all decodesTo = true := by decide +kernel

/-- Opcodes 18 to 3F. -/
def wordsAdmitted3 : List (List Byte × Instr) :=
  [([0x18#8, 0xCA#8], .sbbRm8R8 (.reg .edx) .ecx), ([0x19#8, 0xCA#8], .sbbRmvRv (.reg .edx) .ecx),
   ([0x1A#8, 0xCA#8], .sbbR8Rm8 .ecx (.reg .edx)), ([0x1B#8, 0xCA#8], .sbbRvRmv .ecx (.reg .edx)),
   ([0x1C#8, 0x85#8], .sbbAlImm8 0x85#8), ([0x1D#8, 0x78#8, 0x56#8], .sbbEaxImmv (.i16 0x5678#16)),
   ([0x1E#8], .pushDs), ([0x1F#8], .popDs), ([0x20#8, 0xCA#8], .andRm8R8 (.reg .edx) .ecx),
   ([0x21#8, 0xCA#8], .andRmvRv (.reg .edx) .ecx), ([0x22#8, 0xCA#8], .andR8Rm8 .ecx (.reg .edx)),
   ([0x23#8, 0xCA#8], .andRvRmv .ecx (.reg .edx)), ([0x24#8, 0x85#8], .andAlImm8 0x85#8),
   ([0x25#8, 0x78#8, 0x56#8], .andEaxImmv (.i16 0x5678#16)), ([0x26#8], .pfxEs), ([0x27#8], .daa),
   ([0x28#8, 0xCA#8], .subRm8R8 (.reg .edx) .ecx), ([0x29#8, 0xCA#8], .subRmvRv (.reg .edx) .ecx),
   ([0x2A#8, 0xCA#8], .subR8Rm8 .ecx (.reg .edx)), ([0x2B#8, 0xCA#8], .subRvRmv .ecx (.reg .edx)),
   ([0x2C#8, 0x85#8], .subAlImm8 0x85#8), ([0x2D#8, 0x78#8, 0x56#8], .subEaxImmv (.i16 0x5678#16)),
   ([0x2E#8], .pfxCs), ([0x2F#8], .das), ([0x30#8, 0xCA#8], .xorRm8R8 (.reg .edx) .ecx),
   ([0x31#8, 0xCA#8], .xorRmvRv (.reg .edx) .ecx), ([0x32#8, 0xCA#8], .xorR8Rm8 .ecx (.reg .edx)),
   ([0x33#8, 0xCA#8], .xorRvRmv .ecx (.reg .edx)), ([0x34#8, 0x85#8], .xorAlImm8 0x85#8),
   ([0x35#8, 0x78#8, 0x56#8], .xorEaxImmv (.i16 0x5678#16)), ([0x36#8], .pfxSs), ([0x37#8], .aaa),
   ([0x38#8, 0xCA#8], .cmpRm8R8 (.reg .edx) .ecx), ([0x39#8, 0xCA#8], .cmpRmvRv (.reg .edx) .ecx),
   ([0x3A#8, 0xCA#8], .cmpR8Rm8 .ecx (.reg .edx)), ([0x3B#8, 0xCA#8], .cmpRvRmv .ecx (.reg .edx)),
   ([0x3C#8, 0x85#8], .cmpAlImm8 0x85#8), ([0x3D#8, 0x78#8, 0x56#8], .cmpEaxImmv (.i16 0x5678#16)),
   ([0x3E#8], .pfxDs), ([0x3F#8], .aas)]

theorem test_decode_admitted3 : wordsAdmitted3.all decodesTo = true := by decide +kernel

/-- Opcodes 40 to 80. -/
def wordsAdmitted4 : List (List Byte × Instr) :=
  [([0x40#8], .incEax), ([0x41#8], .incEcx), ([0x42#8], .incEdx), ([0x43#8], .incEbx), ([0x44#8], .incEsp),
   ([0x45#8], .incEbp), ([0x46#8], .incEsi), ([0x47#8], .incEdi), ([0x48#8], .decEax), ([0x49#8], .decEcx),
   ([0x4A#8], .decEdx), ([0x4B#8], .decEbx), ([0x4C#8], .decEsp), ([0x4D#8], .decEbp), ([0x4E#8], .decEsi),
   ([0x4F#8], .decEdi), ([0x56#8], .pushRv .esi), ([0x5E#8], .popRv .esi), ([0x60#8], .pusha), ([0x61#8], .popa),
   ([0x62#8, 0x0F#8], .boundRvM .ecx (.ind16 .bx .none)), ([0x63#8, 0xCA#8], .arplRm16R16 (.reg .edx) .ecx),
   ([0x64#8], .pfxFs), ([0x65#8], .pfxGs), ([0x66#8], .pfxOpsize), ([0x67#8], .pfxAddrsize),
   ([0x68#8, 0x78#8, 0x56#8], .pushImmv (.i16 0x5678#16)),
   ([0x69#8, 0xCA#8, 0x78#8, 0x56#8], .imulRvRmvImmv .ecx (.reg .edx) (.i16 0x5678#16)),
   ([0x6A#8, 0x85#8], .pushImm8 0x85#8), ([0x6B#8, 0xCA#8, 0x85#8], .imulRvRmvImm8 .ecx (.reg .edx) 0x85#8),
   ([0x6C#8], .insb), ([0x6D#8], .insv), ([0x6E#8], .outsb), ([0x6F#8], .outsv),
   ([0x7C#8, 0x85#8], .jccRel8 .l 0x85#8), ([0x80#8, 0xC2#8, 0x85#8], .addRm8Imm8 false (.reg .edx) 0x85#8),
   ([0x80#8, 0xCA#8, 0x85#8], .orRm8Imm8 false (.reg .edx) 0x85#8),
   ([0x80#8, 0xD2#8, 0x85#8], .adcRm8Imm8 false (.reg .edx) 0x85#8),
   ([0x80#8, 0xDA#8, 0x85#8], .sbbRm8Imm8 false (.reg .edx) 0x85#8),
   ([0x80#8, 0xE2#8, 0x85#8], .andRm8Imm8 false (.reg .edx) 0x85#8)]

theorem test_decode_admitted4 : wordsAdmitted4.all decodesTo = true := by decide +kernel

/-- Opcodes 80 to 98. -/
def wordsAdmitted5 : List (List Byte × Instr) :=
  [([0x80#8, 0xEA#8, 0x85#8], .subRm8Imm8 false (.reg .edx) 0x85#8),
   ([0x80#8, 0xF2#8, 0x85#8], .xorRm8Imm8 false (.reg .edx) 0x85#8),
   ([0x80#8, 0xFA#8, 0x85#8], .cmpRm8Imm8 false (.reg .edx) 0x85#8),
   ([0x81#8, 0xC2#8, 0x78#8, 0x56#8], .addRmvImmv (.reg .edx) (.i16 0x5678#16)),
   ([0x81#8, 0xCA#8, 0x78#8, 0x56#8], .orRmvImmv (.reg .edx) (.i16 0x5678#16)),
   ([0x81#8, 0xD2#8, 0x78#8, 0x56#8], .adcRmvImmv (.reg .edx) (.i16 0x5678#16)),
   ([0x81#8, 0xDA#8, 0x78#8, 0x56#8], .sbbRmvImmv (.reg .edx) (.i16 0x5678#16)),
   ([0x81#8, 0xE2#8, 0x78#8, 0x56#8], .andRmvImmv (.reg .edx) (.i16 0x5678#16)),
   ([0x81#8, 0xEA#8, 0x78#8, 0x56#8], .subRmvImmv (.reg .edx) (.i16 0x5678#16)),
   ([0x81#8, 0xF2#8, 0x78#8, 0x56#8], .xorRmvImmv (.reg .edx) (.i16 0x5678#16)),
   ([0x81#8, 0xFA#8, 0x78#8, 0x56#8], .cmpRmvImmv (.reg .edx) (.i16 0x5678#16)),
   ([0x83#8, 0xC2#8, 0x85#8], .addRmvImm8 (.reg .edx) 0x85#8),
   ([0x83#8, 0xCA#8, 0x85#8], .orRmvImm8 (.reg .edx) 0x85#8),
   ([0x83#8, 0xD2#8, 0x85#8], .adcRmvImm8 (.reg .edx) 0x85#8),
   ([0x83#8, 0xDA#8, 0x85#8], .sbbRmvImm8 (.reg .edx) 0x85#8),
   ([0x83#8, 0xE2#8, 0x85#8], .andRmvImm8 (.reg .edx) 0x85#8),
   ([0x83#8, 0xEA#8, 0x85#8], .subRmvImm8 (.reg .edx) 0x85#8),
   ([0x83#8, 0xF2#8, 0x85#8], .xorRmvImm8 (.reg .edx) 0x85#8),
   ([0x83#8, 0xFA#8, 0x85#8], .cmpRmvImm8 (.reg .edx) 0x85#8), ([0x84#8, 0xCA#8], .testRm8R8 (.reg .edx) .ecx),
   ([0x85#8, 0xCA#8], .testRmvRv (.reg .edx) .ecx), ([0x86#8, 0xCA#8], .xchgRm8R8 (.reg .edx) .ecx),
   ([0x87#8, 0xCA#8], .xchgRmvRv (.reg .edx) .ecx), ([0x88#8, 0xCA#8], .movRm8R8 (.reg .edx) .ecx),
   ([0x89#8, 0xCA#8], .movRmvRv (.reg .edx) .ecx), ([0x8A#8, 0xCA#8], .movR8Rm8 .ecx (.reg .edx)),
   ([0x8B#8, 0xCA#8], .movRvRmv .ecx (.reg .edx)), ([0x8C#8, 0xDA#8], .movRm16Sreg (.reg .edx) 3#3),
   ([0x8D#8, 0x0F#8], .leaRvM .ecx (.ind16 .bx .none)), ([0x8E#8, 0xDA#8], .movSregRm16 3#3 (.reg .edx)),
   ([0x8F#8, 0xC2#8], .popRmv (.reg .edx)), ([0x90#8], .nop), ([0x91#8], .xchgEaxEcx), ([0x92#8], .xchgEaxEdx),
   ([0x93#8], .xchgEaxEbx), ([0x94#8], .xchgEaxEsp), ([0x95#8], .xchgEaxEbp), ([0x96#8], .xchgEaxEsi),
   ([0x97#8], .xchgEaxEdi), ([0x98#8], .cbw)]

theorem test_decode_admitted5 : wordsAdmitted5.all decodesTo = true := by decide +kernel

/-- Opcodes 99 to C1. -/
def wordsAdmitted6 : List (List Byte × Instr) :=
  [([0x99#8], .cwd), ([0x9A#8, 0x78#8, 0x56#8, 0x34#8, 0x12#8], .callPtr (.i16 0x5678#16) 0x1234#16),
   ([0x9B#8], .fwait), ([0x9C#8], .pushf), ([0x9D#8], .popf), ([0x9E#8], .sahf), ([0x9F#8], .lahf),
   ([0xA0#8, 0x78#8, 0x56#8], .movAlMoffs (.i16 0x5678#16)),
   ([0xA1#8, 0x78#8, 0x56#8], .movEaxMoffs (.i16 0x5678#16)),
   ([0xA2#8, 0x78#8, 0x56#8], .movMoffsAl (.i16 0x5678#16)),
   ([0xA3#8, 0x78#8, 0x56#8], .movMoffsEax (.i16 0x5678#16)), ([0xA4#8], .movsb), ([0xA5#8], .movsv),
   ([0xA6#8], .cmpsb), ([0xA7#8], .cmpsv), ([0xA8#8, 0x85#8], .testAlImm8 0x85#8),
   ([0xA9#8, 0x78#8, 0x56#8], .testEaxImmv (.i16 0x5678#16)), ([0xAA#8], .stosb), ([0xAB#8], .stosv),
   ([0xAC#8], .lodsb), ([0xAD#8], .lodsv), ([0xAE#8], .scasb), ([0xAF#8], .scasv),
   ([0xB6#8, 0x85#8], .movR8Imm8 .esi 0x85#8), ([0xBE#8, 0x78#8, 0x56#8], .movRvImmv .esi (.i16 0x5678#16)),
   ([0xC0#8, 0xC2#8, 0x85#8], .rolRm8Imm8 (.reg .edx) 0x85#8),
   ([0xC0#8, 0xCA#8, 0x85#8], .rorRm8Imm8 (.reg .edx) 0x85#8),
   ([0xC0#8, 0xD2#8, 0x85#8], .rclRm8Imm8 (.reg .edx) 0x85#8),
   ([0xC0#8, 0xDA#8, 0x85#8], .rcrRm8Imm8 (.reg .edx) 0x85#8),
   ([0xC0#8, 0xE2#8, 0x85#8], .shlRm8Imm8 (.reg .edx) 0x85#8),
   ([0xC0#8, 0xEA#8, 0x85#8], .shrRm8Imm8 (.reg .edx) 0x85#8),
   ([0xC0#8, 0xF2#8, 0x85#8], .salRm8Imm8 (.reg .edx) 0x85#8),
   ([0xC0#8, 0xFA#8, 0x85#8], .sarRm8Imm8 (.reg .edx) 0x85#8),
   ([0xC1#8, 0xC2#8, 0x85#8], .rolRmvImm8 (.reg .edx) 0x85#8),
   ([0xC1#8, 0xCA#8, 0x85#8], .rorRmvImm8 (.reg .edx) 0x85#8),
   ([0xC1#8, 0xD2#8, 0x85#8], .rclRmvImm8 (.reg .edx) 0x85#8),
   ([0xC1#8, 0xDA#8, 0x85#8], .rcrRmvImm8 (.reg .edx) 0x85#8),
   ([0xC1#8, 0xE2#8, 0x85#8], .shlRmvImm8 (.reg .edx) 0x85#8),
   ([0xC1#8, 0xEA#8, 0x85#8], .shrRmvImm8 (.reg .edx) 0x85#8),
   ([0xC1#8, 0xF2#8, 0x85#8], .salRmvImm8 (.reg .edx) 0x85#8)]

theorem test_decode_admitted6 : wordsAdmitted6.all decodesTo = true := by decide +kernel

/-- Opcodes C1 to D3. -/
def wordsAdmitted7 : List (List Byte × Instr) :=
  [([0xC1#8, 0xFA#8, 0x85#8], .sarRmvImm8 (.reg .edx) 0x85#8), ([0xC2#8, 0x34#8, 0x12#8], .retImm16 0x1234#16),
   ([0xC3#8], .ret), ([0xC4#8, 0x0F#8], .lesRvM .ecx (.ind16 .bx .none)),
   ([0xC5#8, 0x0F#8], .ldsRvM .ecx (.ind16 .bx .none)), ([0xC6#8, 0xC2#8, 0x85#8], .movRm8Imm8 (.reg .edx) 0x85#8),
   ([0xC7#8, 0xC2#8, 0x78#8, 0x56#8], .movRmvImmv (.reg .edx) (.i16 0x5678#16)),
   ([0xC8#8, 0x34#8, 0x12#8, 0x03#8], .enter 0x1234#16 0x03#8), ([0xC9#8], .leave),
   ([0xCA#8, 0x34#8, 0x12#8], .retfImm16 0x1234#16), ([0xCB#8], .retf), ([0xCC#8], .int3),
   ([0xCD#8, 0x85#8], .intImm8 0x85#8), ([0xCE#8], .into), ([0xCF#8], .iret),
   ([0xD0#8, 0xC2#8], .rolRm8One (.reg .edx)), ([0xD0#8, 0xCA#8], .rorRm8One (.reg .edx)),
   ([0xD0#8, 0xD2#8], .rclRm8One (.reg .edx)), ([0xD0#8, 0xDA#8], .rcrRm8One (.reg .edx)),
   ([0xD0#8, 0xE2#8], .shlRm8One (.reg .edx)), ([0xD0#8, 0xEA#8], .shrRm8One (.reg .edx)),
   ([0xD0#8, 0xF2#8], .salRm8One (.reg .edx)), ([0xD0#8, 0xFA#8], .sarRm8One (.reg .edx)),
   ([0xD1#8, 0xC2#8], .rolRmvOne (.reg .edx)), ([0xD1#8, 0xCA#8], .rorRmvOne (.reg .edx)),
   ([0xD1#8, 0xD2#8], .rclRmvOne (.reg .edx)), ([0xD1#8, 0xDA#8], .rcrRmvOne (.reg .edx)),
   ([0xD1#8, 0xE2#8], .shlRmvOne (.reg .edx)), ([0xD1#8, 0xEA#8], .shrRmvOne (.reg .edx)),
   ([0xD1#8, 0xF2#8], .salRmvOne (.reg .edx)), ([0xD1#8, 0xFA#8], .sarRmvOne (.reg .edx)),
   ([0xD2#8, 0xC2#8], .rolRm8Cl (.reg .edx)), ([0xD2#8, 0xCA#8], .rorRm8Cl (.reg .edx)),
   ([0xD2#8, 0xD2#8], .rclRm8Cl (.reg .edx)), ([0xD2#8, 0xDA#8], .rcrRm8Cl (.reg .edx)),
   ([0xD2#8, 0xE2#8], .shlRm8Cl (.reg .edx)), ([0xD2#8, 0xEA#8], .shrRm8Cl (.reg .edx)),
   ([0xD2#8, 0xF2#8], .salRm8Cl (.reg .edx)), ([0xD2#8, 0xFA#8], .sarRm8Cl (.reg .edx)),
   ([0xD3#8, 0xC2#8], .rolRmvCl (.reg .edx))]

theorem test_decode_admitted7 : wordsAdmitted7.all decodesTo = true := by decide +kernel

/-- Opcodes D3 to F7. -/
def wordsAdmitted8 : List (List Byte × Instr) :=
  [([0xD3#8, 0xCA#8], .rorRmvCl (.reg .edx)), ([0xD3#8, 0xD2#8], .rclRmvCl (.reg .edx)),
   ([0xD3#8, 0xDA#8], .rcrRmvCl (.reg .edx)), ([0xD3#8, 0xE2#8], .shlRmvCl (.reg .edx)),
   ([0xD3#8, 0xEA#8], .shrRmvCl (.reg .edx)), ([0xD3#8, 0xF2#8], .salRmvCl (.reg .edx)),
   ([0xD3#8, 0xFA#8], .sarRmvCl (.reg .edx)), ([0xD4#8, 0x85#8], .aam 0x85#8), ([0xD5#8, 0x85#8], .aad 0x85#8),
   ([0xD7#8], .xlat), ([0xDD#8, 0xDA#8], .esc 5#3 3#3 (.reg .edx)), ([0xE0#8, 0x85#8], .loopneRel8 0x85#8),
   ([0xE1#8, 0x85#8], .loopeRel8 0x85#8), ([0xE2#8, 0x85#8], .loopRel8 0x85#8), ([0xE3#8, 0x85#8], .jcxzRel8 0x85#8),
   ([0xE4#8, 0x85#8], .inAlImm8 0x85#8), ([0xE5#8, 0x85#8], .inEaxImm8 0x85#8), ([0xE6#8, 0x85#8], .outImm8Al 0x85#8),
   ([0xE7#8, 0x85#8], .outImm8Eax 0x85#8), ([0xE8#8, 0x78#8, 0x56#8], .callRelv (.i16 0x5678#16)),
   ([0xE9#8, 0x78#8, 0x56#8], .jmpRelv (.i16 0x5678#16)),
   ([0xEA#8, 0x78#8, 0x56#8, 0x34#8, 0x12#8], .jmpPtr (.i16 0x5678#16) 0x1234#16),
   ([0xEB#8, 0x85#8], .jmpRel8 0x85#8), ([0xEC#8], .inAlDx), ([0xED#8], .inEaxDx), ([0xEE#8], .outDxAl),
   ([0xEF#8], .outDxEax), ([0xF0#8], .pfxLock), ([0xF2#8], .pfxRepne), ([0xF3#8], .pfxRep), ([0xF4#8], .hlt),
   ([0xF5#8], .cmc), ([0xF6#8, 0xC2#8, 0x85#8], .testRm8Imm8 (.reg .edx) 0x85#8),
   ([0xF6#8, 0xD2#8], .notRm8 (.reg .edx)), ([0xF6#8, 0xDA#8], .negRm8 (.reg .edx)),
   ([0xF6#8, 0xE2#8], .mulRm8 (.reg .edx)), ([0xF6#8, 0xEA#8], .imulRm8 (.reg .edx)),
   ([0xF6#8, 0xF2#8], .divRm8 (.reg .edx)), ([0xF6#8, 0xFA#8], .idivRm8 (.reg .edx)),
   ([0xF7#8, 0xC2#8, 0x78#8, 0x56#8], .testRmvImmv (.reg .edx) (.i16 0x5678#16))]

theorem test_decode_admitted8 : wordsAdmitted8.all decodesTo = true := by decide +kernel

/-- Opcodes F7 to FF. -/
def wordsAdmitted9 : List (List Byte × Instr) :=
  [([0xF7#8, 0xD2#8], .notRmv (.reg .edx)), ([0xF7#8, 0xDA#8], .negRmv (.reg .edx)),
   ([0xF7#8, 0xE2#8], .mulRmv (.reg .edx)), ([0xF7#8, 0xEA#8], .imulRmv (.reg .edx)),
   ([0xF7#8, 0xF2#8], .divRmv (.reg .edx)), ([0xF7#8, 0xFA#8], .idivRmv (.reg .edx)), ([0xF8#8], .clc),
   ([0xF9#8], .stc), ([0xFA#8], .cli), ([0xFB#8], .sti), ([0xFC#8], .cld), ([0xFD#8], .std),
   ([0xFE#8, 0xC2#8], .incRm8 (.reg .edx)), ([0xFE#8, 0xCA#8], .decRm8 (.reg .edx)),
   ([0xFF#8, 0xC2#8], .incRmv (.reg .edx)), ([0xFF#8, 0xCA#8], .decRmv (.reg .edx)),
   ([0xFF#8, 0xD2#8], .callRmv (.reg .edx)), ([0xFF#8, 0x1F#8], .callM (.ind16 .bx .none)),
   ([0xFF#8, 0xE2#8], .jmpRmv (.reg .edx)), ([0xFF#8, 0x2F#8], .jmpM (.ind16 .bx .none)),
   ([0xFF#8, 0xF2#8], .pushRmv (.reg .edx))]

theorem test_decode_admitted9 : wordsAdmitted9.all decodesTo = true := by decide +kernel

/-- Encodings the core does not admit, 0F 00 to 0F 39 (R262). -/
def wordsNotAdmitted1 : List (List Byte × Instr) :=
  [([0x0F#8, 0x00#8, 0xF2#8], .ud0F00Ext6), ([0x0F#8, 0x00#8, 0xFA#8], .ud0F00Ext7),
   ([0x0F#8, 0x01#8, 0xEA#8], .ud0F01Ext5), ([0x0F#8, 0x04#8], .ud0F04), ([0x0F#8, 0x05#8], .ud0F05),
   ([0x0F#8, 0x07#8], .ud0F07), ([0x0F#8, 0x0A#8], .ud0F0A), ([0x0F#8, 0x0B#8], .ud0F0B), ([0x0F#8, 0x0C#8], .ud0F0C),
   ([0x0F#8, 0x0D#8], .ud0F0D), ([0x0F#8, 0x0E#8], .ud0F0E), ([0x0F#8, 0x0F#8], .ud0F0F), ([0x0F#8, 0x10#8], .ud0F10),
   ([0x0F#8, 0x11#8], .ud0F11), ([0x0F#8, 0x12#8], .ud0F12), ([0x0F#8, 0x13#8], .ud0F13), ([0x0F#8, 0x14#8], .ud0F14),
   ([0x0F#8, 0x15#8], .ud0F15), ([0x0F#8, 0x16#8], .ud0F16), ([0x0F#8, 0x17#8], .ud0F17), ([0x0F#8, 0x18#8], .ud0F18),
   ([0x0F#8, 0x19#8], .ud0F19), ([0x0F#8, 0x1A#8], .ud0F1A), ([0x0F#8, 0x1B#8], .ud0F1B), ([0x0F#8, 0x1C#8], .ud0F1C),
   ([0x0F#8, 0x1D#8], .ud0F1D), ([0x0F#8, 0x1E#8], .ud0F1E), ([0x0F#8, 0x1F#8], .ud0F1F), ([0x0F#8, 0x21#8], .ud0F21),
   ([0x0F#8, 0x24#8], .ud0F24), ([0x0F#8, 0x25#8], .ud0F25), ([0x0F#8, 0x26#8], .ud0F26), ([0x0F#8, 0x27#8], .ud0F27),
   ([0x0F#8, 0x28#8], .ud0F28), ([0x0F#8, 0x29#8], .ud0F29), ([0x0F#8, 0x2A#8], .ud0F2A), ([0x0F#8, 0x2B#8], .ud0F2B),
   ([0x0F#8, 0x2C#8], .ud0F2C), ([0x0F#8, 0x2D#8], .ud0F2D), ([0x0F#8, 0x2E#8], .ud0F2E), ([0x0F#8, 0x2F#8], .ud0F2F),
   ([0x0F#8, 0x30#8], .ud0F30), ([0x0F#8, 0x32#8], .ud0F32), ([0x0F#8, 0x33#8], .ud0F33), ([0x0F#8, 0x34#8], .ud0F34),
   ([0x0F#8, 0x35#8], .ud0F35), ([0x0F#8, 0x36#8], .ud0F36), ([0x0F#8, 0x37#8], .ud0F37), ([0x0F#8, 0x38#8], .ud0F38),
   ([0x0F#8, 0x39#8], .ud0F39)]

theorem test_decode_notAdmitted1 : wordsNotAdmitted1.all decodesTo = true := by decide +kernel

/-- Encodings the core does not admit, 0F 3A to 0F 7B (R262). -/
def wordsNotAdmitted2 : List (List Byte × Instr) :=
  [([0x0F#8, 0x3A#8], .ud0F3A), ([0x0F#8, 0x3B#8], .ud0F3B), ([0x0F#8, 0x3C#8], .ud0F3C), ([0x0F#8, 0x3D#8], .ud0F3D),
   ([0x0F#8, 0x3E#8], .ud0F3E), ([0x0F#8, 0x3F#8], .ud0F3F), ([0x0F#8, 0x50#8], .ud0F50), ([0x0F#8, 0x51#8], .ud0F51),
   ([0x0F#8, 0x52#8], .ud0F52), ([0x0F#8, 0x53#8], .ud0F53), ([0x0F#8, 0x54#8], .ud0F54), ([0x0F#8, 0x55#8], .ud0F55),
   ([0x0F#8, 0x56#8], .ud0F56), ([0x0F#8, 0x57#8], .ud0F57), ([0x0F#8, 0x58#8], .ud0F58), ([0x0F#8, 0x59#8], .ud0F59),
   ([0x0F#8, 0x5A#8], .ud0F5A), ([0x0F#8, 0x5B#8], .ud0F5B), ([0x0F#8, 0x5C#8], .ud0F5C), ([0x0F#8, 0x5D#8], .ud0F5D),
   ([0x0F#8, 0x5E#8], .ud0F5E), ([0x0F#8, 0x5F#8], .ud0F5F), ([0x0F#8, 0x60#8], .ud0F60), ([0x0F#8, 0x61#8], .ud0F61),
   ([0x0F#8, 0x62#8], .ud0F62), ([0x0F#8, 0x63#8], .ud0F63), ([0x0F#8, 0x64#8], .ud0F64), ([0x0F#8, 0x65#8], .ud0F65),
   ([0x0F#8, 0x66#8], .ud0F66), ([0x0F#8, 0x67#8], .ud0F67), ([0x0F#8, 0x68#8], .ud0F68), ([0x0F#8, 0x69#8], .ud0F69),
   ([0x0F#8, 0x6A#8], .ud0F6A), ([0x0F#8, 0x6B#8], .ud0F6B), ([0x0F#8, 0x6C#8], .ud0F6C), ([0x0F#8, 0x6D#8], .ud0F6D),
   ([0x0F#8, 0x6E#8], .ud0F6E), ([0x0F#8, 0x6F#8], .ud0F6F), ([0x0F#8, 0x70#8], .ud0F70), ([0x0F#8, 0x71#8], .ud0F71),
   ([0x0F#8, 0x72#8], .ud0F72), ([0x0F#8, 0x73#8], .ud0F73), ([0x0F#8, 0x74#8], .ud0F74), ([0x0F#8, 0x75#8], .ud0F75),
   ([0x0F#8, 0x76#8], .ud0F76), ([0x0F#8, 0x77#8], .ud0F77), ([0x0F#8, 0x78#8], .ud0F78), ([0x0F#8, 0x79#8], .ud0F79),
   ([0x0F#8, 0x7A#8], .ud0F7A), ([0x0F#8, 0x7B#8], .ud0F7B)]

theorem test_decode_notAdmitted2 : wordsNotAdmitted2.all decodesTo = true := by decide +kernel

/-- Encodings the core does not admit, 0F 7C to 0F ED (R262). -/
def wordsNotAdmitted3 : List (List Byte × Instr) :=
  [([0x0F#8, 0x7C#8], .ud0F7C), ([0x0F#8, 0x7D#8], .ud0F7D), ([0x0F#8, 0x7E#8], .ud0F7E), ([0x0F#8, 0x7F#8], .ud0F7F),
   ([0x0F#8, 0xA6#8], .ud0FA6), ([0x0F#8, 0xA7#8], .ud0FA7), ([0x0F#8, 0xAA#8], .ud0FAA), ([0x0F#8, 0xAE#8], .ud0FAE),
   ([0x0F#8, 0xB8#8], .ud0FB8), ([0x0F#8, 0xB9#8], .ud0FB9), ([0x0F#8, 0xBA#8, 0xC2#8], .ud0FBAExt0),
   ([0x0F#8, 0xBA#8, 0xCA#8], .ud0FBAExt1), ([0x0F#8, 0xBA#8, 0xD2#8], .ud0FBAExt2),
   ([0x0F#8, 0xBA#8, 0xDA#8], .ud0FBAExt3), ([0x0F#8, 0xC2#8], .ud0FC2), ([0x0F#8, 0xC3#8], .ud0FC3),
   ([0x0F#8, 0xC4#8], .ud0FC4), ([0x0F#8, 0xC5#8], .ud0FC5), ([0x0F#8, 0xC6#8], .ud0FC6), ([0x0F#8, 0xC7#8], .ud0FC7),
   ([0x0F#8, 0xD0#8], .ud0FD0), ([0x0F#8, 0xD1#8], .ud0FD1), ([0x0F#8, 0xD2#8], .ud0FD2), ([0x0F#8, 0xD3#8], .ud0FD3),
   ([0x0F#8, 0xD4#8], .ud0FD4), ([0x0F#8, 0xD5#8], .ud0FD5), ([0x0F#8, 0xD6#8], .ud0FD6), ([0x0F#8, 0xD7#8], .ud0FD7),
   ([0x0F#8, 0xD8#8], .ud0FD8), ([0x0F#8, 0xD9#8], .ud0FD9), ([0x0F#8, 0xDA#8], .ud0FDA), ([0x0F#8, 0xDB#8], .ud0FDB),
   ([0x0F#8, 0xDC#8], .ud0FDC), ([0x0F#8, 0xDD#8], .ud0FDD), ([0x0F#8, 0xDE#8], .ud0FDE), ([0x0F#8, 0xDF#8], .ud0FDF),
   ([0x0F#8, 0xE0#8], .ud0FE0), ([0x0F#8, 0xE1#8], .ud0FE1), ([0x0F#8, 0xE2#8], .ud0FE2), ([0x0F#8, 0xE3#8], .ud0FE3),
   ([0x0F#8, 0xE4#8], .ud0FE4), ([0x0F#8, 0xE5#8], .ud0FE5), ([0x0F#8, 0xE6#8], .ud0FE6), ([0x0F#8, 0xE7#8], .ud0FE7),
   ([0x0F#8, 0xE8#8], .ud0FE8), ([0x0F#8, 0xE9#8], .ud0FE9), ([0x0F#8, 0xEA#8], .ud0FEA), ([0x0F#8, 0xEB#8], .ud0FEB),
   ([0x0F#8, 0xEC#8], .ud0FEC), ([0x0F#8, 0xED#8], .ud0FED)]

theorem test_decode_notAdmitted3 : wordsNotAdmitted3.all decodesTo = true := by decide +kernel

/-- Encodings the core does not admit, 0F EE to FF (R262). -/
def wordsNotAdmitted4 : List (List Byte × Instr) :=
  [([0x0F#8, 0xEE#8], .ud0FEE), ([0x0F#8, 0xEF#8], .ud0FEF), ([0x0F#8, 0xF0#8], .ud0FF0), ([0x0F#8, 0xF1#8], .ud0FF1),
   ([0x0F#8, 0xF2#8], .ud0FF2), ([0x0F#8, 0xF3#8], .ud0FF3), ([0x0F#8, 0xF4#8], .ud0FF4), ([0x0F#8, 0xF5#8], .ud0FF5),
   ([0x0F#8, 0xF6#8], .ud0FF6), ([0x0F#8, 0xF7#8], .ud0FF7), ([0x0F#8, 0xF8#8], .ud0FF8), ([0x0F#8, 0xF9#8], .ud0FF9),
   ([0x0F#8, 0xFA#8], .ud0FFA), ([0x0F#8, 0xFB#8], .ud0FFB), ([0x0F#8, 0xFC#8], .ud0FFC), ([0x0F#8, 0xFD#8], .ud0FFD),
   ([0x0F#8, 0xFE#8], .ud0FFE), ([0x0F#8, 0xFF#8], .ud0FFF), ([0x8F#8, 0xCA#8], .ud8FExt1),
   ([0x8F#8, 0xD2#8], .ud8FExt2), ([0x8F#8, 0xDA#8], .ud8FExt3), ([0x8F#8, 0xE2#8], .ud8FExt4),
   ([0x8F#8, 0xEA#8], .ud8FExt5), ([0x8F#8, 0xF2#8], .ud8FExt6), ([0x8F#8, 0xFA#8], .ud8FExt7),
   ([0xC6#8, 0xCA#8], .udC6Ext1), ([0xC6#8, 0xD2#8], .udC6Ext2), ([0xC6#8, 0xDA#8], .udC6Ext3),
   ([0xC6#8, 0xE2#8], .udC6Ext4), ([0xC6#8, 0xEA#8], .udC6Ext5), ([0xC6#8, 0xF2#8], .udC6Ext6),
   ([0xC6#8, 0xFA#8], .udC6Ext7), ([0xC7#8, 0xCA#8], .udC7Ext1), ([0xC7#8, 0xD2#8], .udC7Ext2),
   ([0xC7#8, 0xDA#8], .udC7Ext3), ([0xC7#8, 0xE2#8], .udC7Ext4), ([0xC7#8, 0xEA#8], .udC7Ext5),
   ([0xC7#8, 0xF2#8], .udC7Ext6), ([0xC7#8, 0xFA#8], .udC7Ext7), ([0xD6#8], .udD6), ([0xF1#8], .udF1),
   ([0xF6#8, 0xCA#8], .udF6Ext1), ([0xF7#8, 0xCA#8], .udF7Ext1), ([0xFE#8, 0xD2#8], .udFEExt2),
   ([0xFE#8, 0xDA#8], .udFEExt3), ([0xFE#8, 0xE2#8], .udFEExt4), ([0xFE#8, 0xEA#8], .udFEExt5),
   ([0xFE#8, 0xF2#8], .udFEExt6), ([0xFE#8, 0xFA#8], .udFEExt7), ([0xFF#8, 0xFA#8], .udFFExt7)]

theorem test_decode_notAdmitted4 : wordsNotAdmitted4.all decodesTo = true := by decide +kernel

/-- The addressing forms of 32-bit sizes, the operand bytes in order (R231, R232, R237, R248). -/
def words32 : List (List Byte × Instr) :=
  [([0x8B#8, 0x04#8, 0x24#8], .movRvRmv .eax (.sib 0#2 .esp .esp .none)),
   ([0x8B#8, 0x45#8, 0x00#8], .movRvRmv .eax (.ind32 .ebp (.d8 0#8))),
   ([0x8B#8, 0x05#8, 0x78#8, 0x56#8, 0x34#8, 0x12#8], .movRvRmv .eax (.abs32 0x12345678#32)),
   ([0x8B#8, 0x04#8, 0x8D#8, 0x00#8, 0x10#8, 0x00#8, 0x00#8], .movRvRmv .eax (.sibAbs 2#2 .ecx 0x1000#32)),
   ([0xEA#8, 0x78#8, 0x56#8, 0x34#8, 0x12#8, 0x08#8, 0x00#8], .jmpPtr (.i32 0x12345678#32) 8#16),
   ([0x82#8, 0xC0#8, 0x01#8], .addRm8Imm8 true (.reg .eax) 1#8)]

theorem test_decode_forms32 : words32.all (decodesIn mode32) = true := by decide +kernel

/-- The decoder refuses the bytes. -/
def refuses (m : Mode) (bs : List Byte) : Bool :=
  match decodeBytes m bs with
  | .ok _ => false
  | .error _ => true

/-- The bytes end before the item does: refused by name. -/
theorem test_decode_refuses : refuses mode32 [0x8B#8, 0x05#8] = true ∧ refuses mode16 [] = true := by decide +kernel

/-- An opcode-table word, numbered as the table numbers it, decodes to its row: MOV AX with an immediate of zeros. -/
theorem test_tableWord : decodeTableWord 8 0xB8 = some (.movRvImmv .eax (.i16 0#16)) := by decide +kernel

/-! ### States to test on -/

/-- What a computation leaves, whichever way it ended. -/
def st {α : Type} : EStateM.Result Stop State α → State
  | .ok _ s => s
  | .error _ s => s

/-- What a computation answers. -/
def val {α : Type} [Inhabited α] : EStateM.Result Stop State α → α
  | .ok a _ => a
  | .error _ _ => default

/-- The computation completes. -/
def done {α : Type} : EStateM.Result Stop State α → Bool
  | .ok _ _ => true
  | .error _ _ => false

/-- The computation stops for a reason. -/
def stops {α : Type} (e : Stop) : EStateM.Result Stop State α → Bool
  | .ok _ _ => false
  | .error e' _ => e' == e

theorem ran {α : Type} [Inhabited α] {r : EStateM.Result Stop State α} (h : done r = true) :
    r = .ok (val r) (st r) := by
  cases r with
  | ok a s => rfl
  | error e s => cases h

theorem finished {r : EStateM.Result Stop State Unit} (h : done r = true) : r = .ok () (st r) := by
  cases r with
  | ok a s => rfl
  | error e s => cases h

theorem stopped {α : Type} {e : Stop} {r : EStateM.Result Stop State α} (h : stops e r = true) :
    r = .error e (st r) := by
  cases r with
  | ok a s => cases h
  | error e' s => simp only [stops, beq_iff_eq] at h; rw [h]; rfl

/-- The computation answers a value. -/
def answers {α : Type} [BEq α] (a : α) : EStateM.Result Stop State α → Bool
  | .ok b _ => b == a
  | .error _ _ => false

theorem answered {α : Type} [BEq α] [LawfulBEq α] {a : α} {r : EStateM.Result Stop State α}
    (h : answers a r = true) : r = .ok a (st r) := by
  cases r with
  | ok b s => simp only [answers, beq_iff_eq] at h; rw [h]; rfl
  | error e s => cases h

/-- The computation answers a value and leaves a state. -/
def leaves {α : Type} [BEq α] (a : α) (t : State) : EStateM.Result Stop State α → Bool
  | .ok b s => b == a && s == t
  | .error _ _ => false

theorem left {α : Type} [BEq α] [LawfulBEq α] {a : α} {t : State} {r : EStateM.Result Stop State α}
    (h : leaves a t r = true) : r = .ok a t := by
  cases r with
  | ok b s => simp only [leaves, Bool.and_eq_true, beq_iff_eq] at h; rw [h.1, h.2]
  | error e s => cases h

/-- The state an instruction goes on with, if it goes on. -/
def after (s : State) : Answer → State
  | .next t => t
  | _ => s

/-- The instruction goes on. -/
def goes : Answer → Bool
  | .next _ => true
  | _ => false

theorem went {o : Answer} {s : State} (h : goes o = true) : o = .next (after s o) := by
  cases o with
  | next t => rfl
  | fault f => cases h
  | refused r => cases h

/-- Bytes stored from an address on. -/
def putBytes (s : State) (a : Nat) (bs : List Byte) : State :=
  s.setMem (((List.range bs.length).zip bs).foldl (fun m p => memWrite m (a + p.1) p.2) s.mem)

/-- The dword at an address. -/
def dwordAt (s : State) (a : Nat) : W32 := ofBytes ((addrsFrom 4 (BitVec.ofNat 32 a)).map s.byteAt)

/-- Real-address mode with a value in every register, an instruction of three bytes at 0x100 fetched. -/
def real : State :=
  { State.reset with
    pc := 0x100#32
    regs := { eax := 0x11227744#32, ecx := 2#32, edx := 0x3F8#32, ebx := 0x200#32, esp := 0x1000#32, ebp := 0x900#32,
              esi := 0x300#32, edi := 0x400#32 }
    dec := { DecodeState.start 0x103#32 with len := 3 } }

/-- A flat code or data segment register. -/
def flatSeg (sel : W16) (rights : W32) : SegReg :=
  { sel := sel, base := 0#32, limit := 0xFFFFFFFF#32, rights := rights }

/-- The memory of `prot`: its GDT, its IDT, its TSS and a far frame. -/
def protMem : List Host.Cell :=
  [(0x1008, 0xFF#8), (0x1009, 0xFF#8), (0x100D, 0x9A#8), (0x100E, 0xCF#8), (0x1010, 0xFF#8), (0x1011, 0xFF#8),
   (0x1015, 0x92#8), (0x1016, 0xCF#8), (0x1018, 0xFF#8), (0x1019, 0xFF#8), (0x101D, 0x12#8), (0x101E, 0xCF#8),
   (0x1020, 0xFF#8), (0x1021, 0xFF#8), (0x1025, 0xFA#8), (0x1026, 0xCF#8), (0x1028, 0xFF#8), (0x1029, 0xFF#8),
   (0x102D, 0xF2#8), (0x102E, 0xCF#8), (0x1030, 0x67#8), (0x1034, 0x02#8), (0x1035, 0x89#8), (0x1038, 0x07#8),
   (0x103C, 0x03#8), (0x103D, 0x82#8), (0x1040, 0xFF#8), (0x1041, 0xFF#8), (0x1045, 0x93#8), (0x1046, 0xCF#8),
   (0x1048, 0x2B#8), (0x104C, 0x04#8), (0x104D, 0x81#8), (0x1052, 0x30#8), (0x1055, 0x85#8), (0x1059, 0x50#8),
   (0x105A, 0x08#8), (0x105D, 0x8C#8), (0x9000, 0x34#8), (0x9001, 0x12#8), (0x9004, 0x08#8), (0x9008, 0x02#8),
   (0x9009, 0x02#8), (0x10001, 0x60#8), (0x10002, 0x08#8), (0x10005, 0x8E#8), (0x10019, 0x61#8), (0x1001A, 0x08#8),
   (0x1001D, 0xEF#8), (0x10021, 0x62#8), (0x10022, 0x08#8), (0x10025, 0xEF#8), (0x10031, 0x63#8), (0x10032, 0x08#8),
   (0x10035, 0x0E#8), (0x1003A, 0x30#8), (0x1003D, 0x85#8), (0x10059, 0x64#8), (0x1005A, 0x08#8), (0x1005D, 0x80#8),
   (0x10069, 0x65#8), (0x1006A, 0x08#8), (0x1006D, 0x8E#8), (0x10401, 0x66#8), (0x10402, 0x08#8), (0x10405, 0xEE#8),
   (0x20005, 0x80#8), (0x20008, 0x10#8)]

/-- Protected mode at level 0: 32-bit flat segments; GDT at 0x1000 (08 code, 10 data, 18 data not present, 20 code of
level 3, 28 data of level 3, 30 TSS, 38 LDT, 40 data accessed, 48 16-bit TSS, 50 task gate, 58 call gate); IDT at
0x10000 (gates 0, 3, 4, 13, 80H; 6 not present; 7 a task gate; 11 of no gate type); the TSS at 0x20000; a far frame on
the stack. -/
def prot : State :=
  { real with
    cr0 := 0x11#32, eflagsSys := 0x200#32, mem := protMem
    gdtr := { base := 0x1000#32, limit := 0x5F#32 }, idtr := { base := 0x10000#32, limit := 0x7FF#32 }
    regs := { real.regs with esp := 0x9000#32 }
    segs := { es := flatSeg 0x10#16 0x00CF9300#32, cs := flatSeg 0x08#16 0x00CF9B00#32,
              ss := flatSeg 0x10#16 0x00CF9300#32, ds := flatSeg 0x10#16 0x00CF9300#32,
              fs := flatSeg 0x10#16 0x00CF9300#32, gs := flatSeg 0x10#16 0x00CF9300#32,
              ldtr := real.segs.ldtr
              tr := { sel := 0x30#16, base := 0x20000#32, limit := 0x67#32, rights := 0x00008B00#32 } } }

/-- The same at level 3. -/
def ring3 : State :=
  { prot with
    cpl := 3#2
    segs := { prot.segs with cs := flatSeg 0x23#16 0x00CFFB00#32, ss := flatSeg 0x2B#16 0x00CFF300#32 } }

/-- Paging enabled on `prot`, with other contents of memory: the directory at 0x3000 maps the first
4 megabytes through the table at 0x4000, where page 5 is the supervisor's, 6 is absent, 7 is the user's, 8 is the user's
to read, and 9 is the supervisor's, accessed and dirty. -/
def paged : State :=
  { prot with
    cr0 := 0x80000011#32, cr3 := 0x3000#32
    mem := [(0x3000, 7#8), (0x3001, 0x40#8), (0x4014, 3#8), (0x4015, 0x60#8), (0x401C, 7#8), (0x401D, 0x70#8),
            (0x4020, 5#8), (0x4021, 0x80#8), (0x4024, 0x63#8), (0x4025, 0x90#8)] }

/-! ### Instructions on the worked examples of the spec

One step from pc 100H. The flags are given as the image of R57: CF 1, PF 4, AF 10H, ZF 40H, SF 80H, OF 800H. -/

/-- Flat segments of 32-bit or 16-bit default size, the instruction at 100H, the rest as after reset. -/
def base (c32 : Bool) : State :=
  let data := flatSeg 0x10#16 (bif c32 then 0x00CF9300#32 else 0x9300#32)
  { State.reset with
    pc := 0x100#32
    segs := { State.reset.segs with
      cs := flatSeg 8#16 (bif c32 then 0x00CF9B00#32 else 0x9300#32), ds := data, es := data, ss := data } }

/-- What a step leaves, seen through a view. -/
def run (c32 : Bool) (bs : List Byte) (setup : State → State) (view : State → List Nat) : Option (List Nat) :=
  match step (setup (putBytes (base c32) 0x100 bs)) with
  | .next t => some (view t)
  | _ => none

/-- The six arithmetic flags. -/
def flags (s : State) : Nat := s.cc.image.toNat

/-- The carry set before. -/
def setcf (b : Bool) (s : State) : State := { s with cc := s.cc.setImage (bif b then 1#32 else 0#32) }

/-- A register set before. -/
def setReg (r : Reg) (v : Nat) (s : State) : State := s.setReg .w32 r (BitVec.ofNat 32 v)

/-- EAX. -/
def eax : Nat → State → State := setReg .eax
/-- ECX. -/
def ecx : Nat → State → State := setReg .ecx
/-- EDX. -/
def edx : Nat → State → State := setReg .edx
/-- EBX. -/
def ebx : Nat → State → State := setReg .ebx
/-- ESP. -/
def esp : Nat → State → State := setReg .esp
/-- EBP. -/
def ebp : Nat → State → State := setReg .ebp
/-- ESI. -/
def esi : Nat → State → State := setReg .esi
/-- EDI. -/
def edi : Nat → State → State := setReg .edi

/-- n bytes of memory as a number. -/
def load (s : State) (a n : Nat) : Nat := (List.range n).foldr (fun k x => x * 256 + (memRead s.mem (a + k)).toNat) 0

/-- R351. -/
theorem test_add : run true [0x83#8, 0xC0#8, 0x03#8] (eax 5)
    (fun s => [s.regs.eax.toNat, flags s, s.pc.toNat]) = some [8, 0, 0x103] := by decide +kernel

/-- R352. -/
theorem test_adc : run true [0x14#8, 0x00#8] (setcf true ∘ eax 0xF)
    (fun s => [s.regs.eax.toNat, flags s]) = some [0x10, 0x10] := by decide +kernel

/-- R353. -/
theorem test_sbb : run true [0x83#8, 0xD8#8, 0x02#8] (setcf true ∘ eax 5)
    (fun s => [s.regs.eax.toNat, flags s &&& 1]) = some [2, 0] := by decide +kernel

/-- R354. -/
theorem test_sub : run true [0x83#8, 0xE8#8, 0x05#8] (eax 5)
    (fun s => [s.regs.eax.toNat, flags s]) = some [0, 0x44] := by decide +kernel

/-- R355. -/
theorem test_cmp : run true [0x3C#8, 0x05#8] (eax 3)
    (fun s => [s.regs.eax.toNat, flags s]) = some [3, 0x91] := by decide +kernel

/-- R356. -/
theorem test_and : run true [0x24#8, 0x3C#8] (eax 0xF0)
    (fun s => [s.regs.eax.toNat, flags s]) = some [0x30, 4] := by decide +kernel

/-- R357. -/
theorem test_or : run true [0x0C#8, 0x01#8] (eax 0x80)
    (fun s => [s.regs.eax.toNat, flags s]) = some [0x81, 0x84] := by decide +kernel

/-- R358. -/
theorem test_xor : run true [0x31#8, 0xC0#8] (eax 0x80)
    (fun s => [s.regs.eax.toNat, flags s]) = some [0, 0x44] := by decide +kernel

/-- R359. -/
theorem test_test : run true [0xA8#8, 0x01#8] (eax 1)
    (fun s => [flags s]) = some [0] := by decide +kernel

/-- R360. -/
theorem test_inc : run true [0x40#8] (setcf true ∘ eax 0x7FFFFFFF)
    (fun s => [s.regs.eax.toNat, flags s]) = some [0x80000000, 0x895] := by decide +kernel

/-- R361. -/
theorem test_dec : run true [0x49#8] (ecx 1)
    (fun s => [s.regs.ecx.toNat, flags s]) = some [0, 0x44] := by decide +kernel

/-- R362. -/
theorem test_neg : run true [0xF6#8, 0xD8#8] (eax 1)
    (fun s => [s.regs.eax.toNat, flags s]) = some [0xFF, 0x95] := by decide +kernel

/-- R363. -/
theorem test_not : run true [0xF6#8, 0xD0#8] (eax 0xF)
    (fun s => [s.regs.eax.toNat]) = some [0xF0] := by decide +kernel

/-- R364. -/
theorem test_mul : run true [0xF6#8, 0xE3#8] (eax 0x10 ∘ ebx 0x10)
    (fun s => [s.regs.eax.toNat, flags s]) = some [0x100, 0x801+0x44] := by decide +kernel

/-- R365. -/
theorem test_imul : run true [0xF6#8, 0xEB#8] (eax 0xFF ∘ ebx 2)
    (fun s => [s.regs.eax.toNat, flags s &&& 0x881]) = some [0xFFFE, 0x80] := by decide +kernel

/-- R366. -/
theorem test_imul_two : run true [0x6B#8, 0xC3#8, 0xFD#8] (ebx 7)
    (fun s => [s.regs.eax.toNat, flags s &&& 0x881]) = some [0xFFFFFFEB, 0x80] := by decide +kernel

/-- R367. -/
theorem test_div : run true [0xF6#8, 0xF3#8] (eax 0x64 ∘ ebx 7)
    (fun s => [s.regs.eax.toNat]) = some [0x20E] := by decide +kernel

/-- R368. -/
theorem test_idiv : run true [0xF6#8, 0xFB#8] (eax 0xFFF9 ∘ ebx 2)
    (fun s => [s.regs.eax.toNat]) = some [0xFFFD] := by decide +kernel

/-- R369. -/
theorem test_daa : run true [0x27#8] (eax 0x9B)
    (fun s => [s.regs.eax.toNat, flags s &&& 1]) = some [1, 1] := by decide +kernel

/-- R370. -/
theorem test_das : run true [0x2F#8] (eax 0x2F)
    (fun s => [s.regs.eax.toNat, flags s &&& 0x11]) = some [0x29, 0x10] := by decide +kernel

/-- R371. -/
theorem test_aaa : run true [0x37#8] (eax 0xB)
    (fun s => [s.regs.eax.toNat, flags s &&& 0x11]) = some [0x101, 0x11] := by decide +kernel

/-- R372. -/
theorem test_aas : run true [0x3F#8] (eax 0x10F)
    (fun s => [s.regs.eax.toNat, flags s &&& 0x11]) = some [0x009, 0x11] := by decide +kernel

/-- R373. -/
theorem test_aam : run true [0xD4#8, 0x0A#8] (eax 0x35)
    (fun s => [s.regs.eax.toNat]) = some [0x503] := by decide +kernel

/-- R374. -/
theorem test_aad : run true [0xD5#8, 0x0A#8] (eax 0x503)
    (fun s => [s.regs.eax.toNat]) = some [0x35] := by decide +kernel

/-- R401. -/
theorem test_rol : run true [0xD0#8, 0xC0#8] (eax 0x81)
    (fun s => [s.regs.eax.toNat, flags s]) = some [3, 0x801] := by decide +kernel

/-- R402. -/
theorem test_ror : run true [0xD0#8, 0xC8#8] (eax 1)
    (fun s => [s.regs.eax.toNat, flags s]) = some [0x80, 0x801] := by decide +kernel

/-- R403. -/
theorem test_rcl : run true [0xD0#8, 0xD0#8] (setcf true ∘ eax 0x80)
    (fun s => [s.regs.eax.toNat, flags s]) = some [1, 0x801] := by decide +kernel

/-- R404. -/
theorem test_rcr : run true [0xD0#8, 0xD8#8] (setcf true ∘ eax 1)
    (fun s => [s.regs.eax.toNat, flags s]) = some [0x80, 0x801] := by decide +kernel

/-- R404. -/
theorem test_rcr_31 : run true [0xC1#8, 0xD8#8, 0x1F#8] (setcf true ∘ eax 0x80000001)
    (fun s => [s.regs.eax.toNat, flags s &&& 1]) = some [0x00000007, 0] := by decide +kernel

/-- R405. -/
theorem test_shl : run true [0xD0#8, 0xE0#8] (eax 0xC0)
    (fun s => [s.regs.eax.toNat, flags s]) = some [0x80, 0x81] := by decide +kernel

/-- R406. -/
theorem test_shr : run true [0xD0#8, 0xE8#8] (eax 0x81)
    (fun s => [s.regs.eax.toNat, flags s]) = some [0x40, 0x801] := by decide +kernel

/-- R407. -/
theorem test_sar : run true [0xD0#8, 0xF8#8] (eax 0x81)
    (fun s => [s.regs.eax.toNat, flags s]) = some [0xC0, 0x85] := by decide +kernel

/-- R408. -/
theorem test_shld : run true [0x0F#8, 0xA4#8, 0xD8#8, 0x08#8] (eax 0x12345678 ∘ ebx 0x9ABCDEF0)
    (fun s => [s.regs.eax.toNat, flags s &&& 0x801]) = some [0x3456789A, 0] := by decide +kernel

/-- R409. -/
theorem test_shrd : run true [0x0F#8, 0xAC#8, 0xD8#8, 0x08#8] (eax 0x12345678 ∘ ebx 0x9ABCDEF0)
    (fun s => [s.regs.eax.toNat, flags s &&& 0x801]) = some [0xF0123456, 0x800] := by decide +kernel

/-- R410. -/
theorem test_bt : run true [0x0F#8, 0xBA#8, 0xE0#8, 0x08#8] (eax 0x100)
    (fun s => [flags s]) = some [1] := by decide +kernel

/-- R411. -/
theorem test_bts : run true [0x0F#8, 0xBA#8, 0xE8#8, 0x03#8] (eax 0)
    (fun s => [s.regs.eax.toNat, flags s]) = some [8, 0] := by decide +kernel

/-- R412. -/
theorem test_btr : run true [0x0F#8, 0xBA#8, 0xF0#8, 0x00#8] (eax 0xFF)
    (fun s => [s.regs.eax.toNat, flags s]) = some [0xFE, 1] := by decide +kernel

/-- R413. -/
theorem test_btc : run true [0x0F#8, 0xBA#8, 0xF8#8, 0x00#8] (eax 1)
    (fun s => [s.regs.eax.toNat, flags s]) = some [0, 1] := by decide +kernel

/-- R414. -/
theorem test_bt_memory : run true [0x0F#8, 0xA3#8, 0x0B#8]
    (ecx 0xFFFFFFFF ∘ ebx 0x2000 ∘ fun s => putBytes s 0x1FFC [0#8, 0#8, 0#8, 0x80#8])
    (fun s => [flags s]) = some [1] := by decide +kernel

/-- R415. -/
theorem test_bsf : run true [0x0F#8, 0xBC#8, 0xC3#8] (ebx 0x18)
    (fun s => [s.regs.eax.toNat, flags s]) = some [3, 0] := by decide +kernel

/-- R416. -/
theorem test_bsr : run true [0x0F#8, 0xBD#8, 0xC3#8] (ebx 0x18)
    (fun s => [s.regs.eax.toNat, flags s]) = some [4, 0] := by decide +kernel

/-- R311. -/
theorem test_lea : run true [0x8D#8, 0x44#8, 0xB3#8, 0x10#8] (ebx 0x100 ∘ esi 3)
    (fun s => [s.regs.eax.toNat]) = some [0x11C] := by decide +kernel

/-- R314. -/
theorem test_xlat : run true [0xD7#8] (ebx 0x3000 ∘ eax 5 ∘ fun s => putBytes s 0x3005 [0x7A#8])
    (fun s => [s.regs.eax.toNat]) = some [0x7A] := by decide +kernel

/-- R315. -/
theorem test_bswap : run true [0x0F#8, 0xC8#8] (eax 0x11223344)
    (fun s => [s.regs.eax.toNat]) = some [0x44332211] := by decide +kernel

/-- R318. -/
theorem test_push : run true [0x50#8] (eax 0xAABBCCDD ∘ esp 0x1000)
    (fun s => [load s 0xFFC 4, s.regs.esp.toNat]) = some [0xAABBCCDD, 0xFFC] := by decide +kernel

/-- R322. -/
theorem test_pop_esp : run true [0x8F#8, 0x04#8, 0x24#8] (esp 0xFFC ∘ fun s => putBytes s 0xFFC [1#8, 2#8, 3#8, 4#8])
    (fun s => [load s 0x1000 4, s.regs.esp.toNat]) = some [0x04030201, 0x1000] := by decide +kernel

/-- R323. -/
theorem test_pusha : run false [0x60#8] (esp 0x100 ∘ eax 1 ∘ edi 7 ∘ esi 6 )
    (fun s => [load s 0xFE 2, load s 0xF6 2, load s 0xF2 2, load s 0xF0 2, s.regs.esp.toNat])
    = some [1, 0x100, 6, 7, 0xF0] := by decide +kernel

/-- R335. -/
theorem test_lahf : run true [0x9F#8] (fun s => {s with cc := s.cc.setImage 0x41#32})
    (fun s => [s.regs.eax.toNat]) = some [0x4300] := by decide +kernel

/-- R336. -/
theorem test_sahf : run true [0x9E#8] (eax 0xFF00)
    (fun s => [flags s]) = some [0xD5] := by decide +kernel

/-- R441. -/
theorem test_jnz : run true [0x75#8, 0xFE#8] id
    (fun s => [s.pc.toNat]) = some [0x100] := by decide +kernel

/-- R446. -/
theorem test_call : run true [0xE8#8, 0xFB#8, 0x0F#8, 0x00#8, 0x00#8] (esp 0x2000)
    (fun s => [s.pc.toNat, s.regs.esp.toNat, load s 0x1FFC 4]) = some [0x1100, 0x1FFC, 0x105] := by decide +kernel

/-- R454. -/
theorem test_enter : run true [0xC8#8, 0x10#8, 0x00#8, 0x00#8] (esp 0x2000 ∘ ebp 0x3000)
    (fun s => [load s 0x1FFC 4, s.regs.ebp.toNat, s.regs.esp.toNat])
    = some [0x3000, 0x1FFC, 0x1FEC] := by decide +kernel

/-- R536. -/
theorem test_cpuid : run true [0x0F#8, 0xA2#8] id
    (fun s => [s.regs.eax.toNat, s.regs.ebx.toNat, s.regs.edx.toNat, s.regs.ecx.toNat])
    = some [1, 0x756E6547, 0x49656E69, 0x6C65746E] := by decide +kernel

/-- R527. -/
theorem test_pushf : run false [0x9C#8] (esp 0x100)
    (fun s => [load s 0xFE 2]) = some [2] := by decide +kernel

/-- R375. -/
theorem test_cmpxchg_equal : run true [0x0F#8, 0xB1#8, 0x1F#8]
    (eax 1 ∘ ebx 9 ∘ edi 0x2000 ∘ fun s => putBytes s 0x2000 [1#8])
    (fun s => [load s 0x2000 4, flags s &&& 0x40]) = some [9, 0x40] := by decide +kernel

/-- R375. -/
theorem test_cmpxchg_unequal : run true [0x0F#8, 0xB1#8, 0x1F#8]
    (eax 1 ∘ ebx 9 ∘ edi 0x2000 ∘ fun s => putBytes s 0x2000 [2#8])
    (fun s => [load s 0x2000 4, s.regs.eax.toNat, flags s &&& 0x41]) = some [2, 2, 1] := by decide +kernel

/-- R376. -/
theorem test_xadd : run true [0x0F#8, 0xC1#8, 0x03#8] (eax 3 ∘ ebx 0x2000 ∘ fun s => putBytes s 0x2000 [5#8])
    (fun s => [load s 0x2000 4, s.regs.eax.toNat]) = some [8, 5] := by decide +kernel

/-- R562. -/
theorem test_mov_ds : run false [0x8E#8, 0xD8#8] (eax 0x1234)
    (fun s => [s.segs.ds.sel.toNat, s.segs.ds.base.toNat, s.segs.ds.rights.toNat])
    = some [0x1234, 0x12340, 0x9300] := by decide +kernel

/-- R565. -/
theorem test_les : run false [0xC4#8, 0x07#8] (ebx 0x2000 ∘ fun s => putBytes s 0x2000 [0#8, 1#8, 0#8, 0x20#8])
    (fun s => [s.regs.eax.toNat, s.segs.es.sel.toNat]) = some [0x100, 0x2000] := by decide +kernel

/-- R577. -/
theorem test_call_far : run false [0x9A#8, 0x34#8, 0x12#8, 0x00#8, 0x20#8] (esp 0x200)
    (fun s => [load s 0x1FE 2, load s 0x1FC 2, s.regs.esp.toNat, s.segs.cs.base.toNat, s.pc.toNat])
    = some [8, 0x105, 0x1FC, 0x20000, 0x1234] := by decide +kernel

/-- R603. -/
theorem test_lgdt : run false [0x0F#8, 0x01#8, 0x16#8, 0x00#8, 0x7C#8]
    (fun s => putBytes s 0x7C00 [0x17#8, 0#8, 0#8, 8#8, 0#8, 0#8])
    (fun s => [s.gdtr.base.toNat, s.gdtr.limit.toNat]) = some [0x800, 0x17] := by decide +kernel

/-- R617. -/
theorem test_smsw : run false [0x0F#8, 0x01#8, 0xE0#8] id
    (fun s => [s.regs.eax.toNat]) = some [0x10] := by decide +kernel

/-- R618. -/
theorem test_lmsw : run false [0x0F#8, 0x01#8, 0xF0#8] (eax 1)
    (fun s => [s.cr0.toNat]) = some [0x11] := by decide +kernel

/-- R616. -/
theorem test_arpl : run true [0x63#8, 0xD8#8] (eax 8 ∘ ebx 0x23 ∘ fun s => {s with cr0 := 0x11#32})
    (fun s => [s.regs.eax.toNat, flags s]) = some [0xB, 0x40] := by decide +kernel

/-- R625. -/
theorem test_lar : run true [0x0F#8, 0x02#8, 0xC3#8]
    (ebx 8 ∘ fun s => putBytes {s with cr0 := 0x11#32, gdtr := { base := 0x1000#32, limit := 0x2F#32 }} 0x1008
      [0xFF#8, 0xFF#8, 0#8, 0#8, 0#8, 0x9A#8, 0xCF#8, 0#8])
    (fun s => [s.regs.eax.toNat, flags s]) = some [0xC09A00, 0x40] := by decide +kernel

/-- R626. -/
theorem test_lsl : run true [0x0F#8, 0x03#8, 0xC3#8]
    (ebx 8 ∘ fun s => putBytes {s with cr0 := 0x11#32, gdtr := { base := 0x1000#32, limit := 0x2F#32 }} 0x1008
      [0xFF#8, 0xFF#8, 0#8, 0#8, 0#8, 0x9A#8, 0xCF#8, 0#8])
    (fun s => [s.regs.eax.toNat, flags s]) = some [0xFFFFFFFF, 0x40] := by decide +kernel

/-- R574. -/
theorem test_jmp_far : run false [0x66#8, 0xEA#8, 0x00#8, 0x10#8, 0x00#8, 0x00#8, 0x08#8, 0x00#8]
    (fun s => putBytes {s with cr0 := 0x11#32, gdtr := { base := 0x800#32, limit := 0x2F#32 }} 0x808 [0xFF#8,
      0xFF#8, 0#8, 0#8, 0#8, 0x9A#8, 0xCF#8, 0#8])
    (fun s => [s.segs.cs.sel.toNat, s.segs.cs.limit.toNat, s.segs.cs.rights.toNat, load s 0x80D 1, s.pc.toNat])
    = some [8, 0xFFFFFFFF, 0xCF9B00, 0x9B, 0x1000] := by decide +kernel

/-- R459. -/
theorem test_bound : run false [0x62#8, 0x07#8]
    (eax 5 ∘ ebx 0x2000 ∘ esp 0x400 ∘ fun s => putBytes (putBytes s 0x2000 [0,0,4,0]) 0x14 [0x78#8, 0x56#8, 0#8,
      0xF0#8])
    (fun s => [s.pc.toNat, s.segs.cs.base.toNat, load s 0x3FA 2]) = some [0x5678, 0xF0000, 0x100] := by decide +kernel

/-- R221. -/
theorem test_fetch_wraps : run true []
    (fun s => putBytes (putBytes {s with pc := 0xFFFFFFFE#32} 0xFFFFFFFE [0x83,0xC0]) 0 [5#8])
    (fun s => [s.pc.toNat, s.regs.eax.toNat]) = some [1, 5] := by decide +kernel

/-- R500. -/
theorem test_in : run true [0xE4#8, 0x64#8] id
    (fun s => [s.regs.eax.toNat]) = some [0xFF] := by decide +kernel

/-- R501. -/
theorem test_in_dx : run true [0xED#8] (edx 5)
    (fun s => [s.regs.eax.toNat]) = some [0xFFFFFFFF] := by decide +kernel

/-- R502. -/
theorem test_out_handler : run true [0xE6#8, 0x80#8]
    (eax 0x101 ∘ fun s => {s with ports := {s.ports with w8 := [0x80#10]}})
    (fun s => [if s.history == [.portWrite 0x80#16 .w8 1#32] then 1 else 0]) = some [1] := by decide +kernel

/-- R233. -/
theorem test_addrsize_prefix : run true [0x67#8, 0x8B#8, 0x07#8] (ebx 0x12000 ∘ fun s => putBytes s 0x2000 [0x55#8])
    (fun s => [s.regs.eax.toNat]) = some [0x55] := by decide +kernel

/-- R481, R482: one element of REP MOVSB; the instruction is repeated while the count is not 0. -/
theorem test_rep_movsb : run true [0xF3#8, 0xA4#8]
    (esi 0x1000 ∘ edi 0x2000 ∘ ecx 2 ∘ fun s => putBytes s 0x1000 [5#8, 6#8])
    (fun s => [load s 0x2000 2, s.regs.esi.toNat, s.regs.edi.toNat, s.regs.ecx.toNat, s.pc.toNat])
    = some [5, 0x1001, 0x2001, 1, 0x100] := by decide +kernel

/-- R483: the element of REPE CMPSB that ends the repeat (63H - 78H). -/
theorem test_repe_cmpsb : run true [0xF3#8, 0xA6#8]
    (esi 0x1002 ∘ edi 0x2002 ∘ ecx 2 ∘ fun s => putBytes (putBytes s 0x1002 [0x63#8]) 0x2002 [0x78#8])
    (fun s => [s.regs.ecx.toNat, flags s, s.pc.toNat, s.regs.esi.toNat]) = some [1, 0x95, 0x102, 0x1003] := by
  decide +kernel

/-- R221: fourteen prefixes and an opcode are an instruction of 15 bytes. -/
theorem test_fourteen_prefixes : run true (List.replicate 14 0x66#8 ++ [0x90#8]) id
    (fun s => [s.pc.toNat, s.stepFaulted.toNat]) = some [0x10F, 0] := by decide +kernel

/-- R221: with fifteen the sixteenth byte is beyond the limit. -/
theorem test_fifteen_prefixes : run false (List.replicate 15 0x66#8 ++ [0x90#8]) id
    (fun s => [s.stepFaulted.toNat, s.cycleCount.toNat]) = some [1, 1] := by decide +kernel

/-- R671: vector 8 in real-address mode, with IF set and the return address 0123H. -/
theorem test_real_delivery : ((deliver 8#8 false none true 0x123#32
      (putBytes { real with regs := { real.regs with esp := 0x400#32 }, eflagsSys := 0x200#32 } 0x20
        [0x78#8, 0x56#8, 0x00#8, 0xF0#8])) |> st |> fun s =>
      [load s 0x3FE 2, load s 0x3FC 2, load s 0x3FA 2, s.regs.esp.toNat, s.eflagsSys.toNat, s.segs.cs.base.toNat,
       s.pc.toNat]) = [0x202, 0, 0x123, 0x3FA, 0, 0xF0000, 0x5678] := by decide +kernel

/-- The machine of R681: level 3, INT 80H at 401000H, a trap gate of level 3 to C0001000H, the TSS at 20000H. -/
def ring681 : State :=
  { ring3 with
    pc := 0x401000#32, regs := { ring3.regs with esp := 0xF000#32 }
    mem := [(0x1008, 0xFF#8), (0x1009, 0xFF#8), (0x100D, 0x9A#8), (0x100E, 0xCF#8), (0x1010, 0xFF#8), (0x1011, 0xFF#8),
            (0x1015, 0x92#8), (0x1016, 0xCF#8), (0x1020, 0xFF#8), (0x1021, 0xFF#8), (0x1025, 0xFA#8), (0x1026, 0xCF#8),
            (0x1028, 0xFF#8), (0x1029, 0xFF#8), (0x102D, 0xF2#8), (0x102E, 0xCF#8), (0x10401, 0x10#8), (0x10402, 8#8),
            (0x10405, 0xEF#8), (0x10407, 0xC0#8), (0x20005, 0x80#8), (0x20008, 0x10#8), (0x401000, 0xCD#8),
            (0x401001, 0x80#8), (0xC0001000, 0xCF#8)] }

/-- R681: SS, ESP, EFLAGS, CS and EIP on the inner stack, the accessed bits, and where the handler starts. -/
theorem test_int_to_inner_level :
    (match step ring681 with
      | .next s => some ([load s 0x7FFC 4, load s 0x7FF8 4, load s 0x7FF4 4, load s 0x7FF0 4, load s 0x7FEC 4,
          load s 0x1015 1, load s 0x100D 1, s.regs.esp.toNat, s.cpl.toNat, s.pc.toNat, s.ifFlag.toNat],
          s.segs.ss, s.segs.cs)
      | _ => none)
      = some ([0x2B, 0xF000, 0x202, 0x23, 0x401002, 0x93, 0x9B, 0x7FEC, 0, 0xC0001000, 1],
          flatSeg 0x10#16 0x00CF9300#32, flatSeg 8#16 0x00CF9B00#32) := by decide +kernel

/-- The handler of R681 about to return. -/
def ring685 : State :=
  putBytes { ring681 with
    cpl := 0#2, pc := 0xC0001000#32, regs := { ring681.regs with esp := 0x7FEC#32 }
    segs := { ring681.segs with cs := flatSeg 8#16 0x00CF9B00#32, ss := flatSeg 0x10#16 0x00CF9300#32 } } 0x7FEC
    [2#8, 0x10#8, 0x40#8, 0#8, 0x23#8, 0#8, 0#8, 0#8, 2#8, 2#8, 0#8, 0#8, 0#8, 0xF0#8, 0#8, 0#8, 0x2B#8, 0#8, 0#8, 0#8]

/-- R685: the return to level 3; the data segments of level 0 are cleared. -/
theorem test_iret_to_outer_level :
    (match step ring685 with
      | .next s => some ([s.cpl.toNat, s.segs.cs.sel.toNat, s.segs.ss.sel.toNat, s.regs.esp.toNat, s.pc.toNat,
          s.ifFlag.toNat, s.segs.ds.sel.toNat, s.segs.ds.limit.toNat])
      | _ => none) = some [3, 0x23, 0x2B, 0xF000, 0x401002, 1, 0, 0] := by decide +kernel

/-- Real-address mode about to execute IRETD: pc 0x105, CS 0x1000 and an EFLAGS image with VM and CF set on the stack. -/
def vmFrame : State :=
  putBytes { real with dec := { real.dec with opsizeOvr := true } } 0x1000
    [5#8, 1#8, 0#8, 0#8, 0#8, 0x10#8, 0#8, 0#8, 3#8, 0#8, 2#8, 0#8]

/-- D21: IRETD at CPL 0 of an image with bit 17 set aborts; nothing is popped. -/
theorem test_iret_real_vm86 :
    (match exec .iret vmFrame with
      | .next s => some (s.aborted, s.regs.esp, s.pc, s.segs.cs.sel == real.segs.cs.sel)
      | _ => none) = some (some .unsupportedVm86, 0x1000#32, 0x100#32, true) := by decide +kernel

/-- D21: at CPL above 0 the bit is ignored. -/
theorem test_iret_real_vm86_ignored :
    (match exec .iret { vmFrame with cpl := 3#2 } with
      | .next s => some (s.aborted, s.regs.esp, s.pc, s.segs.cs.sel)
      | _ => none) = some (none, 0x100C#32, 0x105#32, 0x1000#16) := by decide +kernel

/-- R580: a far call through a call gate with two parameters. -/
theorem test_call_gate :
    (match step (putBytes (putBytes (putBytes { ring681 with pc := 0x400FFE#32 } 0x1020
        [0#8, 0x50#8, 8#8, 0#8, 2#8, 0xEC#8, 0#8]) 0xF000 [0x11#8, 0#8, 0#8, 0#8, 0x22#8]) 0x400FFE
        [0x9A#8, 0#8, 0#8, 0#8, 0#8, 0x20#8, 0#8]) with
      | .next s => some [load s 0x7FFC 4, load s 0x7FF8 4, load s 0x7FF4 4, load s 0x7FF0 4, load s 0x7FEC 4,
          load s 0x7FE8 4, s.regs.esp.toNat, s.segs.ss.sel.toNat, s.cpl.toNat, s.pc.toNat]
      | _ => none) = some [0x2B, 0xF000, 0x22, 0x11, 0x23, 0x401005, 0x7FE8, 0x10, 0, 0x5000] := by decide +kernel

/-- A word placed for the fetch is what the next step runs: INC AX. -/
theorem test_withFetchWord :
    (match step (State.reset.withFetchWord 8 0x40) with
      | .next s => some [s.regs.eax.toNat, s.pc.toNat]
      | _ => none) = some [1, 1] := by decide +kernel

/-! ### The statements' hypotheses are met -/

theorem witness_DecodeInvertsEncode :
    WellFormed mode16 (.addRmvRv (.ind16 .bp (.d8 0xFE#8)) .ecx) = true
      ∧ WellFormed Mode.reset (.larRvRm16 .eax .absent) = true
      ∧ WellFormed mode16 (.movR32Cr (.cut 1#2 2#3) 3#3) = true := by decide +kernel

/-- A prefix and an instruction at pc: OPSIZE, NOP. -/
def prefixed : State := putBytes State.reset 0 [0x66#8, 0x90#8]

/-- `prefixed` after its prefix, with a number of bytes fetched. -/
def afterPrefix (len : Nat) : State := { prefixed with dec := { DecodeState.start 1#32 with opsizeOvr := true, len := len } }

/-- The bytes that paging off leaves to the fetch. -/
def bytesAhead (s : State) : List Byte :=
  (addrsFrom (15 - s.dec.len) (s.segs.cs.base + s.dec.fp + BitVec.ofNat 32 0)).map s.byteAt

/-- The first item, one after a prefix, and one whose sixteenth byte is not read. -/
theorem witness_FetchReadsTheBytesAtPc :
    (∀ s, s ∈ [afterPrefix 14, afterPrefix 15] → s.pg = false ∧ s.identityTlb ∧ s.memSize = Config.memSizeMax)
      ∧ State.reset.pg = false ∧ State.reset.identityTlb ∧ State.reset.memSize = Config.memSizeMax
      ∧ (∃ i rest, (decode State.reset.mode).run 0 (bytesAhead State.reset) = .ok (i, rest))
      ∧ (∃ rest, (decode (afterPrefix 14).mode).run 14 (bytesAhead (afterPrefix 14)) = .ok (.nop, rest))
      ∧ (decode (afterPrefix 15).mode).run 15 (bytesAhead (afterPrefix 15)) = .error .tooLong := by
  refine ⟨?_, rfl, (by intro e h; cases h), rfl, ⟨_, _, rfl⟩, ⟨_, rfl⟩, rfl⟩
  intro s h
  simp only [List.mem_cons, List.not_mem_nil, or_false] at h
  rcases h with rfl | rfl <;> exact ⟨rfl, (by intro e h; cases h), rfl⟩

/-- `paged` about to fetch at the last byte of page n, which the TLB maps, with a byte there. -/
def atPageEnd (n : Nat) (b : Byte) (len : Nat) : State :=
  putBytes { paged with
    tlb := [(n, { ppn := BitVec.ofNat 20 n, writable := false, useracc := false })], tlbList := [n],
    dec := { DecodeState.start (BitVec.ofNat 32 (n * 4096 + 4095)) with len := len } } (n * 4096 + 4095) [b]

/-- Its one byte is cached, also after a state's walk that left the page mapped. -/
theorem atPageEnd_cached (u : State) (n : Nat) (b : Byte)
    (h : (match u.tlbAt .read false n with
      | some p => u.inMem (p ++ 0xFFF#12) && u.byteAt (p ++ 0xFFF#12) == b
      | none => false) = true)
    (la : W32) (hv : vpnOf la = n) (ho : la.extractLsb' 0 12 = 0xFFF#12) :
    ∃ p, u.tlbAt .read false (vpnOf la) = some p ∧ u.inMem (p ++ la.extractLsb' 0 12) = true
      ∧ u.byteAt (p ++ la.extractLsb' 0 12) = b := by
  rw [hv, ho]
  cases hp : u.tlbAt .read false n with
  | none => rw [hp] at h; cases h
  | some p => rw [hp] at h; simp only [Bool.and_eq_true, beq_iff_eq] at h; exact ⟨p, rfl, h⟩

/-- A byte that is a whole instruction, one that needs a byte beyond the limit, and one that needs a byte of the next
page, which is absent (6), or present (9). -/
theorem witness_FetchReadsTheBytesAtPc_cached :
    (∀ n b len, (n, b, len) ∈ [(7, 0x90#8, 0), (7, 0#8, 14), (5, 0#8, 0), (8, 0#8, 0)] →
        ∃ p, (atPageEnd n b len).tlbAt .read false (vpnOf (BitVec.ofNat 32 (n * 4096 + 4095))) = some p
          ∧ (atPageEnd n b len).inMem (p ++ (BitVec.ofNat 32 (n * 4096 + 4095)).extractLsb' 0 12) = true
          ∧ (atPageEnd n b len).byteAt (p ++ (BitVec.ofNat 32 (n * 4096 + 4095)).extractLsb' 0 12) = b)
      ∧ (decode paged.mode).run 0 [0x90#8] = .ok (.nop, [])
      ∧ (decode paged.mode).run 14 [0#8] = .error .tooLong
      ∧ (decode paged.mode).run 0 [0#8] = .error .needMoreBytes
      ∧ ((atPageEnd 5 0#8 0).tlbAt .read false 6 = none
        ∧ ∃ u, walk 0x6000#32 .read false (atPageEnd 5 0#8 0) = .error (.raise (.pf 0#32)) u)
      ∧ (atPageEnd 8 0#8 0).tlbAt .read false 9 = none
      ∧ ∃ u, walk 0x9000#32 .read false (atPageEnd 8 0#8 0) = .ok 9#20 u
        ∧ ∃ p, u.tlbAt .read false (vpnOf 0x8FFF#32) = some p
          ∧ u.inMem (p ++ (0x8FFF#32 : W32).extractLsb' 0 12) = true
          ∧ u.byteAt (p ++ (0x8FFF#32 : W32).extractLsb' 0 12) = 0#8 := by
  refine ⟨?_, rfl, rfl, rfl, ⟨rfl, _, stopped (by decide +kernel)⟩, rfl, _, answered (by decide +kernel),
    atPageEnd_cached _ 8 0#8 (by decide +kernel) _ (by decide) (by decide)⟩
  intro n b len h
  simp only [List.mem_cons, Prod.mk.injEq, List.not_mem_nil, or_false] at h
  rcases h with ⟨rfl, rfl, rfl⟩ | ⟨rfl, rfl, rfl⟩ | ⟨rfl, rfl, rfl⟩ | ⟨rfl, rfl, rfl⟩
  · exact atPageEnd_cached _ 7 _ (by decide +kernel) _ (by decide) (by decide)
  · exact atPageEnd_cached _ 7 _ (by decide +kernel) _ (by decide) (by decide)
  · exact atPageEnd_cached _ 5 _ (by decide +kernel) _ (by decide) (by decide)
  · exact atPageEnd_cached _ 8 _ (by decide +kernel) _ (by decide) (by decide)

theorem witness_StepRunsTheDecodedInstruction :
    (∃ t, fetchItem (State.reset.setStepFaulted false).beginInstr = .ok (.addRm8R8 (.ind16 .bxsi .none) .eax) t)
      ∧ State.reset.aborted = none ∧ State.reset.quiet = true ∧ State.reset.halted = false
      ∧ (∃ t u, fetchItem (prefixed.setStepFaulted false).beginInstr = .ok .pfxOpsize t
        ∧ exec .pfxOpsize t = .next u)
      ∧ (prefixed.aborted = none ∧ prefixed.quiet = true ∧ prefixed.halted = false)
      ∧ ∀ s e, (s, e) ∈ [({ paged with pc := 0x6000#32 }, .raise (.pf 0#32)),
                         ({ State.reset with memSize := 4096, pc := 0x1000#32 }, .abort .busError)] →
          s.aborted = none ∧ s.quiet = true ∧ s.halted = false
            ∧ ∃ t, fetchItem (s.setStepFaulted false).beginInstr = .error e t := by
  refine ⟨⟨_, answered (by decide +kernel)⟩, rfl, rfl, rfl,
    ⟨_, _, answered (by decide +kernel), went (s := prefixed) (by decide +kernel)⟩, ⟨rfl, rfl, rfl⟩, ?_⟩
  intro s e h
  simp only [List.mem_cons, Prod.mk.injEq, List.not_mem_nil, or_false] at h
  rcases h with ⟨rfl, rfl⟩ | ⟨rfl, rfl⟩ <;> exact ⟨rfl, rfl, rfl, _, stopped (by decide +kernel)⟩

theorem witness_RegisterPartsAlias : Reg.esp ≠ .eax ∧ byteHome .esp = .eax ∧ Reg.esp ≠ byteHome .esp := by decide

theorem witness_LazyFlagsMatchDirectComputation :
    truncW .w8 0xFF#32 = 0xFF#32 ∧ truncW .w8 0#32 = 0#32 ∧ truncW .w32 0x80000000#32 = 0x80000000#32 := by
  decide +kernel

/-- Counts 1, 8 (a multiple of a width) and 31; 9 is a whole turn of RCL at width 8, 10 is not. -/
theorem witness_ShiftsMoveEveryBit :
    truncW .w8 0x81#32 = 0x81#32 ∧ 1 ≤ 1 ∧ 1 ≤ 31 ∧ 31 ≤ 31 ∧ 7 < Width.w8.bits ∧ 8 % Width.w8.bits = 0
      ∧ 9 % (Width.w8.bits + 1) = 0 ∧ 10 % (Width.w8.bits + 1) ≠ 0 := by decide +kernel

theorem witness_FlagsWriteThenRead :
    0x00247300#32 &&& ~~~Config.sysFlagMask = 0#32 ∧ 0#32 &&& ~~~Config.sysFlagMask = 0#32
      ∧ prot.eflagsSys &&& ~~~Config.sysFlagMask = 0#32 := by decide +kernel

/-- One page of physical memory. -/
def onePage : State := { State.reset with memSize := 4096 }

/-- The last bytes inside, wrapping at 2^32 where the whole space is there, and the first address outside. -/
theorem witness_PhysicalAccessesAreAllOrNothing :
    (∀ k, k < Width.w32.bytes → (0xFFC#32 + BitVec.ofNat 32 k).toNat < onePage.memSize)
      ∧ (∀ k, k < Width.w32.bytes → (0xFFFFFFFE#32 + BitVec.ofNat 32 k).toNat < State.reset.memSize)
      ∧ Memory.wf onePage.mem = true
      ∧ (1 < Width.w16.bytes ∧ onePage.memSize ≤ (0xFFF#32 + BitVec.ofNat 32 1).toNat)
      ∧ (0 < Width.w8.bytes ∧ onePage.memSize ≤ (0x1000#32 + BitVec.ofNat 32 0).toNat) := by decide +kernel

theorem witness_PagingDisabledIsIdentity :
    real.pg = false ∧ real.identityTlb ∧ real.memSize = Config.memSizeMax :=
  ⟨rfl, (by intro e h; cases h), rfl⟩

theorem witness_TranslateHitsOrWalks :
    (∃ p, (st (translate 0x7123#32 .read true paged)).tlbAt .read true (vpnOf 0x7FFF#32) = some p)
      ∧ (paged.tlbAt .write true (vpnOf 0x7000#32) = none ∧ ∃ p t, walk 0x7000#32 .write true paged = .ok p t)
      ∧ (paged.tlbAt .read true (vpnOf 0x6000#32) = none ∧ ∃ e t, walk 0x6000#32 .read true paged = .error e t)
      ∧ ∃ pa t, translate 0x7FFF#32 .read true paged = .ok pa t :=
  ⟨⟨7#20, by decide +kernel⟩, ⟨rfl, _, _, ran (by decide +kernel)⟩,
    ⟨rfl, .raise (.pf 4#32), _, stopped (by decide +kernel)⟩,
    _, _, ran (by decide +kernel)⟩

/-- The directory entry of `paged`, and it with the accessed bit. -/
def pde0 : W32 := 0x4007#32

theorem witness_WalkFollowsTheTables :
    paged.pg = true
      ∧ (∃ pde, physRead 0x3004#32 4 paged = .ok pde paged ∧ pde.getLsbD 0 = false)
      ∧ physRead 0x3000#32 4 paged = .ok pde0 paged ∧ pde0.getLsbD 5 = false ∧ pde0.getLsbD 0 = true
      ∧ (let s1 := paged.storeBytes (addrsFrom 4 0x3000#32) (bytesOf 4 (pde0 ||| 0x20#32))
         let denied (pte : W32) (user write : Bool) :=
           (user && !(pte &&& pde0).getLsbD 2) || (write && !(pte &&& pde0).getLsbD 1)
         (∃ pte, physRead 0x4018#32 4 s1 = .ok pte s1 ∧ pte.getLsbD 0 = false)
           ∧ (∃ pte, physRead 0x4014#32 4 s1 = .ok pte s1 ∧ pte.getLsbD 0 = true ∧ denied pte true false = true)
           ∧ (∃ pte, physRead 0x4020#32 4 s1 = .ok pte s1 ∧ pte.getLsbD 0 = true ∧ denied pte false true = true)
           ∧ (∃ pte, physRead 0x401C#32 4 s1 = .ok pte s1 ∧ pte.getLsbD 0 = true ∧ denied pte true true = false)
           ∧ ∃ pte, physRead 0x4024#32 4 s1 = .ok pte s1 ∧ pte ||| 0x20#32 ||| atBit true 6 = pte) :=
  ⟨rfl, ⟨0#32, left (by decide +kernel), rfl⟩, left (by decide +kernel), rfl, rfl,
    ⟨0#32, left (by decide +kernel), rfl⟩, ⟨0x6003#32, left (by decide +kernel), rfl, rfl⟩,
    ⟨0x8005#32, left (by decide +kernel), rfl, rfl⟩, ⟨0x7007#32, left (by decide +kernel), rfl, rfl⟩,
    0x9063#32, left (by decide +kernel), rfl⟩

/-- The eviction list full. -/
def tlbFull : State := { State.reset with tlb := [(7, { ppn := 7#20, writable := true, useracc := true })],
                                          tlbList := List.range 2048 }

theorem witness_TlbInsertOverflowAndFlush :
    State.reset.tlbLegal = true ∧ State.reset.tlbList.length < 2048
      ∧ tlbFull.tlbLegal = true ∧ tlbFull.tlbList.length = 2048 ∧ vpnOf 0xFFFFF000#32 ≠ 7 := by decide +kernel

theorem witness_TranslationSetsOnlyAccessedAndDirty :
    (∃ as t, translateSpan 0x7FFE#32 2 .write true paged = .ok as t)
      ∧ (∃ t, translateSpan 0x7FFE#32 4 .write true paged = .error (.raise (.pf 7#32)) t)
      ∧ ∃ t, translateSpan 0x6000#32 1 .read false paged = .error (.raise (.pf 0#32)) t :=
  ⟨⟨_, _, ran (by decide +kernel)⟩, ⟨_, stopped (by decide +kernel)⟩, _, stopped (by decide +kernel)⟩

/-- The bytes from the last two of page 6 on, which `paged` does not map. -/
def unmappedLoc : Loc := .mem .ds 0x6FFE#32

/-- What a read there held when page 6 was still in the TLB. -/
def heldThere : Held := { val := 0#32, places := [0x6FFE#32, 0x6FFF#32, 0x7000#32, 0x7001#32] }

/-- R130: a place whose translation would raise by now is written at the addresses its probe answered. -/
theorem witness_AccessesReachTheirBytes_probed : ∃ s2 t,
    translateSpan ((paged.segs.get .ds).base + 0x6FFE#32) Width.w32.bytes .write (paged.cpl == 3#2) paged
        = .error (.raise (.pf 2#32)) t
      ∧ heldThere.places.length = Width.w32.bytes ∧ heldThere.places.Nodup ∧ heldThere.places.all paged.inMem = true
      ∧ writeBack .w32 unmappedLoc heldThere 5#32 paged = .ok () s2 ∧ dwordAt s2 0x6FFE = 5#32 :=
  ⟨_, _, stopped (by decide +kernel), rfl, by decide, by decide +kernel, finished (by decide +kernel),
    by decide +kernel⟩

theorem witness_AccessesReachTheirBytes :
    (∃ as u, translateSpan 0xFFFFFFFE#32 Width.w32.bytes .write (real.cpl == 3#2) real = .ok as u
        ∧ as.all u.inMem = true)
      ∧ (∃ as u, translateSpan 0x7FFE#32 Width.w16.bytes .write (paged.cpl == 3#2) paged = .ok as u
        ∧ as.all u.inMem = true)
      ∧ (∃ as u, translateSpan 0x7FFE#32 Width.w32.bytes .read (paged.cpl == 3#2) paged = .ok as u
          ∧ as.all u.inMem = true)
      ∧ (∃ as u, translateSpan 0x5FFE#32 2 .write false { paged with cpl := 3#2 } = .ok as u ∧ as.all u.inMem = true)
      ∧ (∃ as u, translateSpan 0xFFF#32 Width.w16.bytes .read (onePage.cpl == 3#2) onePage = .ok as u
          ∧ as.all u.inMem = false)
      ∧ (∃ u, translateSpan 0x6000#32 Width.w8.bytes .read false paged = .error (.raise (.pf 0#32)) u)
      ∧ ∃ u, translateSpan 0x6000#32 Width.w8.bytes .write false paged = .error (.raise (.pf 2#32)) u :=
  ⟨⟨_, _, ran (by decide +kernel), by decide +kernel⟩, ⟨_, _, ran (by decide +kernel), by decide +kernel⟩,
    ⟨_, _, ran (by decide +kernel), by decide +kernel⟩, ⟨_, _, ran (by decide +kernel), by decide +kernel⟩,
    ⟨_, _, ran (by decide +kernel), by decide +kernel⟩, ⟨_, stopped (by decide +kernel)⟩,
    _, stopped (by decide +kernel)⟩

theorem witness_RealModeSelectorLoad : real.pe = false := rfl

/-- The last descriptor inside the table ends at its limit; the next is outside. -/
theorem witness_ProtectedSelectorLoad :
    prot.pe = true
      ∧ ((3#16 &&& 0xFFFC#16) == 0#16) = true ∧ ((8#16 &&& 0xFFFC#16) == 0#16) = false
      ∧ (∃ t, descRead 0x60#16 prot = .ok none t)
      ∧ prot.gdtr.limit.toNat < (0x60#16).toNat / 8 * 8 + 7 ∧ (0x58#16).toNat / 8 * 8 + 7 ≤ prot.gdtr.limit.toNat
      ∧ (∃ e1 e2 t u, sysRead 0x1058#32 4 prot = .ok e1 t ∧ sysRead (0x1058#32 + 4#32) 4 t = .ok e2 u)
      ∧ (0x5C#16).getLsbD 2 = true ∧ (0x5C#16).toNat / 8 * 8 + 7 ≤ prot.segs.ldtr.limit.toNat :=
  ⟨rfl, rfl, rfl, ⟨_, answered (by decide +kernel)⟩, by decide +kernel, by decide +kernel,
    ⟨_, _, _, _, ran (by decide +kernel), ran (by decide +kernel)⟩, by decide, by decide +kernel⟩

/-- Loads that are refused, that find the segment absent, and that cache a descriptor, accessed already or not. -/
theorem witness_ProtectedSelectorLoad_descriptors :
    let bad (n : Sreg) (cpl rpl : BitVec 2) (d : Desc) : Bool :=
      bif n == .ss then
        !d.e2.getLsbD 12 || d.e2.getLsbD 11 || !d.e2.getLsbD 9 || rpl != cpl || d.e2.extractLsb' 13 2 != cpl
      else
        !d.e2.getLsbD 12 || (d.e2.getLsbD 11 && !d.e2.getLsbD 9)
          || (!(d.e2.getLsbD 11 && d.e2.getLsbD 10)
                && ((d.e2.extractLsb' 13 2).ult cpl || (d.e2.extractLsb' 13 2).ult rpl))
    (∃ d t, descRead 0x30#16 prot = .ok (some d) t ∧ bad .ds 0#2 0#2 d = true)
      ∧ (∃ d t, descRead 0x28#16 prot = .ok (some d) t ∧ bad .ss 0#2 0#2 d = true)
      ∧ (∃ d t, descRead 0x18#16 prot = .ok (some d) t ∧ bad .ds 0#2 0#2 d = false ∧ bad .ss 0#2 0#2 d = false
          ∧ d.e2.getLsbD 15 = false)
      ∧ (∃ d t u, descRead 0x10#16 prot = .ok (some d) t ∧ bad .ds 0#2 0#2 d = false ∧ bad .ss 0#2 0#2 d = false
          ∧ d.e2.getLsbD 15 = true ∧ d.e2.getLsbD 8 = false
          ∧ sysWrite (d.addr + 4#32) 4 (d.e2 ||| 0x100#32) t = .ok () u)
      ∧ ∃ d t, descRead 0x40#16 prot = .ok (some d) t ∧ bad .ds 0#2 0#2 d = false ∧ d.e2.getLsbD 8 = true :=
  ⟨⟨⟨0x67#32, 0x00008902#32, 0x1030#32⟩, _, answered (by decide +kernel), rfl⟩,
    ⟨⟨0x0000FFFF#32, 0x00CFF200#32, 0x1028#32⟩, _, answered (by decide +kernel), rfl⟩,
    ⟨⟨0x0000FFFF#32, 0x00CF1200#32, 0x1018#32⟩, _, answered (by decide +kernel), rfl, rfl, rfl⟩,
    ⟨⟨0x0000FFFF#32, 0x00CF9200#32, 0x1010#32⟩, _, _, answered (by decide +kernel), rfl, rfl, rfl, rfl,
      finished (by decide +kernel)⟩,
    ⟨⟨0x0000FFFF#32, 0x00CF9300#32, 0x1040#32⟩, _, answered (by decide +kernel), rfl, rfl⟩⟩

/-- `real` with an interrupt table of a limit. -/
def realIdt (limit : W32) : State := { real with idtr := { base := 0#32, limit := limit } }

theorem witness_RealModeDelivery :
    (realIdt 0x82#32).idtr.limit.toNat < (0x20#8 : Byte).toNat * 4 + 3
      ∧ (0x20#8 : Byte).toNat * 4 + 3 ≤ (realIdt 0x83#32).idtr.limit.toNat
      ∧ ∃ off sel s1 s2 s3 s4 s5,
        sysRead 0x80#32 2 (realIdt 0x83#32) = .ok off s1 ∧ sysRead 0x82#32 2 s1 = .ok sel s2
          ∧ accWrite 0xFFE#32 2 (flagsRead real) s2 = .ok () s3 ∧ accWrite 0xFFC#32 2 0#32 s3 = .ok () s4
          ∧ accWrite 0xFFA#32 2 0x100#32 s4 = .ok () s5 :=
  ⟨by decide, by decide, _, _, _, _, _, _, _, ran (by decide +kernel), ran (by decide +kernel),
    finished (by decide +kernel), finished (by decide +kernel), finished (by decide +kernel)⟩

/-- The code segment of level 0 of `prot` as its table holds it. -/
def code0 : Desc := { e1 := 0x0000FFFF#32, e2 := 0x00CF9A00#32, addr := 0x1008#32 }

/-- The data segment of level 0 of `prot` as its table holds it. -/
def data0 : Desc := { e1 := 0x0000FFFF#32, e2 := 0x00CF9200#32, addr := 0x1010#32 }

/-- The gate of vector 80H of `prot`. -/
def gate80 : Gate := { gw := .w32, isInt := true, tsel := 8#16, toff := 0x6600#32 }

/-- The gate of a vector is read and has a property. -/
def gateReads (s : State) (v : Byte) (p : W32 → Bool) : Prop :=
  8 * v.toNat + 7 ≤ s.idtr.limit.toNat ∧ ∃ g1 g2 s0 s1,
    sysRead (s.idtr.base + (v.setWidth 32 <<< 3)) 4 s = .ok g1 s0
      ∧ sysRead (s.idtr.base + (v.setWidth 32 <<< 3) + 4#32) 4 s0 = .ok g2 s1 ∧ p g2 = true

/-- The type of a system descriptor or gate. -/
def typeOf (e2 : W32) : BitVec 4 := e2.extractLsb' 8 4

/-- The gate reads of the same-level statement: no room in the table, not a gate, a task gate, no gate type, closed to a
software interrupt, not present, and usable. -/
theorem witness_ProtectedDeliverySameLevel_gates :
    ({ prot with idtr := { base := 0x10000#32, limit := 0x7FE#32 } } : State).idtr.limit.toNat
        < 8 * (0xFF#8 : Byte).toNat + 7
      ∧ gateReads (putBytes prot 0x10005 [0x9E#8]) 0#8 (fun g => g.getLsbD 12)
      ∧ gateReads prot 7#8 (fun g => !g.getLsbD 12 && typeOf g == 5#4)
      ∧ gateReads prot 11#8 (fun g => !g.getLsbD 12 && !List.contains [5#4, 6#4, 7#4, 14#4, 15#4] (typeOf g))
      ∧ gateReads ring3 0#8 (fun g => typeOf g == 14#4 && (g.extractLsb' 13 2 : BitVec 2).ult ring3.cpl)
      ∧ gateReads prot 6#8 (fun g => typeOf g == 14#4 && !g.getLsbD 15)
      ∧ gateReads prot 0x80#8 (fun g => typeOf g == 14#4 && g.getLsbD 15)
      ∧ gateReads prot 3#8 (fun g => typeOf g == 15#4 && g.getLsbD 15)
      ∧ (∃ t, readIdtGate 7#8 false prot = .error (.abort .unsupportedTaskGate) t)
      ∧ ∃ t, readIdtGate 0#8 true ring3 = .error (.raise (.gp 2#32)) t :=
  ⟨by decide +kernel, ⟨by decide +kernel, _, _, _, _, ran (by decide +kernel), ran (by decide +kernel), by decide +kernel⟩,
    ⟨by decide +kernel, _, _, _, _, ran (by decide +kernel), ran (by decide +kernel), by decide +kernel⟩,
    ⟨by decide +kernel, _, _, _, _, ran (by decide +kernel), ran (by decide +kernel), by decide +kernel⟩,
    ⟨by decide +kernel, _, _, _, _, ran (by decide +kernel), ran (by decide +kernel), by decide +kernel⟩,
    ⟨by decide +kernel, _, _, _, _, ran (by decide +kernel), ran (by decide +kernel), by decide +kernel⟩,
    ⟨by decide +kernel, _, _, _, _, ran (by decide +kernel), ran (by decide +kernel), by decide +kernel⟩,
    ⟨by decide +kernel, _, _, _, _, ran (by decide +kernel), ran (by decide +kernel), by decide +kernel⟩,
    ⟨_, stopped (by decide +kernel)⟩, _, stopped (by decide +kernel)⟩

/-- A descriptor is read and has a property. -/
def descReads (s : State) (sel : W16) (p : Desc → Bool) : Prop :=
  ∃ d t, descRead sel s = .ok (some d) t ∧ p d = true

theorem descReads_of {s : State} {sel : W16} {p : Desc → Bool}
    (h : (match descRead sel s with
      | .ok (some d) _ => p d
      | _ => false) = true) : descReads s sel p := by
  cases hr : descRead sel s with
  | error e t => rw [hr] at h; cases h
  | ok o t =>
    cases o with
    | none => rw [hr] at h; cases h
    | some d => rw [hr] at h; exact ⟨d, t, hr, h⟩

/-- `prot` with its code segment of level 0 not present. -/
def codeAbsent : State := putBytes prot 0x100D [0x1A#8]

/-- The targets: null, outside the table, of outer level or no code segment, not present. -/
theorem witness_ProtectedDeliverySameLevel_targets :
    let bad (s : State) (d : Desc) : Bool :=
      !d.e2.getLsbD 12 || !d.e2.getLsbD 11 || s.cpl.ult (d.e2.extractLsb' 13 2)
    ((3#16 &&& 0xFFFC#16).setWidth 32 : W32) = 0#32 ∧ ((8#16 &&& 0xFFFC#16).setWidth 32 : W32) ≠ 0#32
      ∧ (∃ t, descRead 0x60#16 prot = .ok none t)
      ∧ descReads prot 0x10#16 (bad prot) ∧ descReads prot 0x20#16 (bad prot)
      ∧ descReads codeAbsent 8#16 (fun d => !bad codeAbsent d && !d.e2.getLsbD 15)
      ∧ descReads prot 8#16 (fun d => !bad prot d && d.e2.getLsbD 15)
      ∧ ∃ s1 t, readIdtGate 0x80#8 true codeAbsent = .ok gate80 s1 ∧ gateTarget gate80.tsel s1 = .error (.raise (.np 8#32)) t :=
  ⟨by decide, by decide, ⟨_, answered (by decide +kernel)⟩, descReads_of (by decide +kernel),
    descReads_of (by decide +kernel), descReads_of (by decide +kernel), descReads_of (by decide +kernel),
    _, _, answered (by decide +kernel), stopped (by decide +kernel)⟩

theorem witness_ProtectedDeliverySameLevel : ∃ s1 s2 s3 p s4,
    prot.pe = true ∧ readIdtGate 0x80#8 true prot = .ok gate80 s1 ∧ gateTarget gate80.tsel s1 = .ok code0 s2
      ∧ (!code0.e2.getLsbD 10 && (code0.e2.extractLsb' 13 2 : BitVec 2).ult prot.cpl) = false
      ∧ markAccessed code0 s2 = .ok () s3
      ∧ framePushes false prot.segs.ss.base prot.stackMask gate80.gw.bytes (prot.regs.esp &&& prot.stackMask)
          [flagsRead prot, prot.segs.cs.sel.setWidth 32, 0x103#32] s3 p s4 :=
  ⟨_, _, _, _, _, rfl, answered (by decide +kernel), answered (by decide +kernel), by decide +kernel,
    finished (by decide +kernel), _, finished (by decide +kernel), _, finished (by decide +kernel),
    _, finished (by decide +kernel), rfl, rfl⟩

/-- `ring3` with the selector of the inner stack segment in the TSS. -/
def innerSel (sel : Byte) : State := putBytes ring3 0x20008 [sel]

/-- The stack selector of the TSS is read, and its descriptor has a property. -/
def innerReads (s : State) (sel : W16) (p : Desc → Bool) : Prop := ∃ nesp nss t1 t2,
  sysRead (s.segs.tr.base + BitVec.ofNat 32 4) 4 s = .ok nesp t1
    ∧ sysRead (s.segs.tr.base + BitVec.ofNat 32 8) 2 t1 = .ok nss t2 ∧ nss.setWidth 16 = sel
    ∧ (descReads t2 sel p ∨ sel &&& 0xFFFC#16 = 0#16 ∨ ∃ t3, descRead sel t2 = .ok none t3)

/-- The stack selectors that are refused and the one that is not; the last TSS that has room and the first that has
not, of both widths. -/
theorem witness_ProtectedDeliveryToInnerLevel_stack :
    let bad (d : Desc) : Bool :=
      !d.e2.getLsbD 12 || d.e2.getLsbD 11 || !d.e2.getLsbD 9 || (d.e2.extractLsb' 13 2 : BitVec 2) != 0#2
    ring3.segs.tr.rights.getLsbD 11 = true ∧ (0#2 : BitVec 2) ≠ 3#2
      ∧ (10 < 4 + 8 * (0#2 : BitVec 2).toNat + (2 * 4 - 1) ∧ 4 + 8 * (0#2 : BitVec 2).toNat + (2 * 4 - 1) ≤ 11)
      ∧ (4 < 2 + 4 * (0#2 : BitVec 2).toNat + (2 * 2 - 1) ∧ 2 + 4 * (0#2 : BitVec 2).toNat + (2 * 2 - 1) ≤ 5)
      ∧ innerReads (innerSel 0#8) 0#16 (fun _ => false) ∧ innerReads (innerSel 0x60#8) 0x60#16 (fun _ => false)
      ∧ innerReads (innerSel 8#8) 8#16 bad ∧ innerReads (innerSel 0x18#8) 0x18#16 (fun d => !bad d && !d.e2.getLsbD 15)
      ∧ innerReads ring3 0x10#16 (fun d => !bad d && d.e2.getLsbD 15) :=
  ⟨rfl, by decide, by decide, by decide,
    ⟨_, _, _, _, ran (by decide +kernel), ran (by decide +kernel), by decide +kernel, .inr (.inl (by decide))⟩,
    ⟨_, _, _, _, ran (by decide +kernel), ran (by decide +kernel), by decide +kernel,
      .inr (.inr ⟨_, answered (by decide +kernel)⟩)⟩,
    ⟨_, _, _, _, ran (by decide +kernel), ran (by decide +kernel), by decide +kernel,
      .inl (descReads_of (by decide +kernel))⟩,
    ⟨_, _, _, _, ran (by decide +kernel), ran (by decide +kernel), by decide +kernel,
      .inl (descReads_of (by decide +kernel))⟩,
    ⟨_, _, _, _, ran (by decide +kernel), ran (by decide +kernel), by decide +kernel,
      .inl (descReads_of (by decide +kernel))⟩⟩

theorem witness_ProtectedDeliveryToInnerLevel : ∃ s1 s2 s3 s4 s5 p s6,
    ring3.pe = true ∧ readIdtGate 0x80#8 true ring3 = .ok gate80 s1 ∧ gateTarget gate80.tsel s1 = .ok code0 s2
      ∧ code0.e2.getLsbD 10 = false ∧ (code0.e2.extractLsb' 13 2 : BitVec 2).ult ring3.cpl = true
      ∧ innerStack 0#2 s2 = .ok { nss := 0x10#16, nesp := 0x8000#32, desc := data0 } s3
      ∧ markAccessed data0 s3 = .ok () s4 ∧ markAccessed code0 s4 = .ok () s5
      ∧ framePushes true (descBase data0.e1 data0.e2) 0xFFFFFFFF#32 gate80.gw.bytes (0x8000#32 &&& 0xFFFFFFFF#32)
          ([ring3.segs.ss.sel.setWidth 32, ring3.regs.esp]
            ++ [flagsRead ring3, ring3.segs.cs.sel.setWidth 32, 0x103#32]) s5 p s6 :=
  ⟨_, _, _, _, _, _, _, rfl, answered (by decide +kernel), answered (by decide +kernel), rfl,
    by decide +kernel, answered (by decide +kernel), finished (by decide +kernel), finished (by decide +kernel),
    _, finished (by decide +kernel), _, finished (by decide +kernel), _, finished (by decide +kernel),
    _, finished (by decide +kernel), _, finished (by decide +kernel), rfl, rfl⟩

/-- The inner stack is refused during a delivery. -/
theorem witness_ProtectedDeliveryToInnerLevel_stops : ∃ s1 s2 t,
    readIdtGate 0x80#8 true (innerSel 0#8) = .ok gate80 s1 ∧ gateTarget gate80.tsel s1 = .ok code0 s2
      ∧ innerStack 0#2 s2 = .error (.raise (.ts 0#32)) t :=
  ⟨_, _, _, answered (by decide +kernel), answered (by decide +kernel), stopped (by decide +kernel)⟩

/-- The computations of the next witness: each raises, and its delivery ends as said. -/
theorem witness_RaiseIsDeliveredOrTripleFaults :
    (∀ s, (raise .de : M Unit) s = .error (.raise .de) s)
      ∧ (∃ s1, deliver 0#8 false none false prot.pc (prot.setStepFaulted true) = .ok () s1)
      ∧ (∃ s1, deliver 7#8 false none false prot.pc (prot.setStepFaulted true)
          = .error (.abort .unsupportedTaskGate) s1)
      ∧ (∃ s1 s2 s3,
          deliver 6#8 false none false prot.pc (prot.setStepFaulted true) = .error (.raise (.np 0x32#32)) s1
            ∧ deliver 11#8 false (some 0x32#32) false prot.pc s1 = .error (.raise (.gp 0x5A#32)) s2
            ∧ deliver 13#8 false (some 0x5A#32) false prot.pc s2 = .ok () s3)
      ∧ (∃ s1 s2,
          deliver 14#8 false (some 0#32) false prot.pc (prot.setStepFaulted true) = .error (.raise (.gp 0x72#32)) s1
            ∧ deliver 13#8 false (some 0x72#32) false prot.pc s1 = .ok () s2)
      ∧ (∃ s1 s2, let s0 := (putBytes prot 0x1006D [0x85#8]).setStepFaulted true
          deliver 14#8 false (some 0#32) false s0.pc s0 = .error (.raise (.gp 0x72#32)) s1
            ∧ deliver 13#8 false (some 0x72#32) false s0.pc s1 = .error (.abort .unsupportedTaskGate) s2)
      ∧ (∃ s1 s2 s3, let s0 := (putBytes prot 0x1006D [0x85#8]).setStepFaulted true
          deliver 6#8 false none false s0.pc s0 = .error (.raise (.np 0x32#32)) s1
            ∧ deliver 11#8 false (some 0x32#32) false s0.pc s1 = .error (.raise (.gp 0x5A#32)) s2
            ∧ deliver 13#8 false (some 0x5A#32) false s0.pc s2 = .error (.abort .unsupportedTaskGate) s3)
      ∧ ∃ s1 s2 s3, let s0 := { prot with idtr := { base := 0#32, limit := 0#32 }, stepFaulted := true }
          deliver 0#8 false none false s0.pc s0 = .error (.raise (.gp 2#32)) s1
            ∧ deliver 13#8 false (some 2#32) false s0.pc s1 = .error (.raise (.gp 0x6A#32)) s2
            ∧ deliver 13#8 false (some 0x6A#32) false s0.pc s2 = .error (.raise (.gp 0x6A#32)) s3 :=
  ⟨fun _ => rfl, ⟨_, finished (by decide +kernel)⟩, ⟨_, stopped (by decide +kernel)⟩,
    ⟨_, _, _, stopped (by decide +kernel), stopped (by decide +kernel), finished (by decide +kernel)⟩,
    ⟨_, _, stopped (by decide +kernel), finished (by decide +kernel)⟩,
    ⟨_, _, stopped (by decide +kernel), stopped (by decide +kernel)⟩,
    ⟨_, _, _, stopped (by decide +kernel), stopped (by decide +kernel), stopped (by decide +kernel)⟩,
    ⟨_, _, _, stopped (by decide +kernel), stopped (by decide +kernel), stopped (by decide +kernel)⟩⟩

theorem witness_AbortedMachineMakesNoStep : (State.reset.setAborted .busError).aborted = some .busError := rfl

/-- The line asserted and interrupts enabled, in real-address mode. -/
def asked : State := { real with irqLine := true, eflagsSys := 0x200#32 }

/-- `asked` with its interrupt acknowledged. -/
def acknowledged (s : State) (v : Byte) : State :=
  { s with stepFaulted := false, halted := false, pendingVector := some v,
           history := .ack :: s.history, irqLine := Config.irqAfter (.ack :: s.history) }

/-- The delivery completes whatever vector the platform gives and whatever it does with the line. -/
theorem acknowledged_delivers (v : Byte) (line : Bool) :
    ∃ u, deliver v false none true real.pc { asked with pendingVector := some v, history := [.ack], irqLine := line }
      = .ok () u := by
  have h : ((List.range 256).all fun n => [true, false].all fun b =>
      done (deliver (BitVec.ofNat 8 n) false none true real.pc
        { asked with pendingVector := some (BitVec.ofNat 8 n), history := [.ack], irqLine := b })) = true := by
    decide +kernel
  have h' := List.all_eq_true.mp h v.toNat (List.mem_range.mpr v.isLt)
  have h'' := List.all_eq_true.mp h' line (by cases line <;> simp)
  rw [BitVec.ofNat_toNat, BitVec.setWidth_eq] at h''
  exact ⟨_, finished h''⟩

theorem witness_InterruptBoundary :
    (State.reset.pendingVector = none ∧ (State.reset.irqLine && State.reset.ifFlag) = false)
      ∧ (asked.pendingVector = none ∧ (asked.irqLine && asked.ifFlag) = true
        ∧ ∃ u, deliver (Config.ackVector asked.history) false none true asked.pc
            (acknowledged asked (Config.ackVector asked.history)) = .ok () u)
      ∧ (∃ u, deliver 0x20#8 false none true real.pc
            (({ real with pendingVector := some 0x20#8 } : State).setStepFaulted false |>.setHalted false) = .ok () u)
      ∧ (∃ u, deliver 7#8 false none true prot.pc
            (({ prot with pendingVector := some 7#8 } : State).setStepFaulted false |>.setHalted false)
            = .error (.abort .unsupportedTaskGate) u)
      ∧ ∃ u, deliver 6#8 false none true prot.pc
            (({ prot with pendingVector := some 6#8 } : State).setStepFaulted false |>.setHalted false)
            = .error (.raise (.np 0x32#32)) u :=
  ⟨⟨rfl, rfl⟩, ⟨rfl, rfl, acknowledged_delivers _ _⟩, ⟨_, finished (by decide +kernel)⟩,
    ⟨_, stopped (by decide +kernel)⟩, ⟨_, stopped (by decide +kernel)⟩⟩

/-- `prot` with an interrupt latched and an interrupt table of a limit. -/
def latched (v : Byte) (limit : W32) : State :=
  { prot with pendingVector := some v, idtr := { prot.idtr with limit := limit } }

/-- The state such an interrupt is delivered in. -/
def latchedAt (v : Byte) (limit : W32) : State := ((latched v limit).setStepFaulted false).setHalted false

/-- Vector 6 raises #NP; beyond the table limit #GP is raised, and delivered where the limit allows it, else a second and
a third time; vector 7 is a task gate: an abort. -/
theorem witness_InterruptBoundary_chain :
    (∃ u x, deliver 0xFF#8 false none true prot.pc (latchedAt 0xFF#8 0x7F#32) = .error (.raise (.gp 0x7FA#32)) u
        ∧ deliver 13#8 false (some 0x7FA#32) false prot.pc u = .ok () x)
      ∧ (∃ u x y, deliver 0x20#8 false none true prot.pc (latchedAt 0x20#8 0#32) = .error (.raise (.gp 0x102#32)) u
        ∧ deliver 13#8 false (some 0x102#32) false prot.pc u = .error (.raise (.gp 0x6A#32)) x
        ∧ deliver 13#8 false (some 0x6A#32) false prot.pc x = .error (.raise (.gp 0x6A#32)) y) :=
  ⟨⟨_, _, stopped (by decide +kernel), finished (by decide +kernel)⟩,
    _, _, _, stopped (by decide +kernel), stopped (by decide +kernel), stopped (by decide +kernel)⟩

/-- A step whose boundary delivers and goes on at the handler, one that stays halted, and one whose boundary aborts. -/
theorem witness_InterruptBoundary_step :
    (latched 0xFF#8 0x7FF#32).aborted = none ∧ (latched 3#8 0x7FF#32).boundary.aborted = none
      ∧ (latched 3#8 0x7FF#32).boundary.halted = false ∧ (latched 3#8 0x7FF#32).boundary.pc ≠ prot.pc
      ∧ ({ State.reset with halted := true } : State).boundary.halted = true
      ∧ (latched 7#8 0x7FF#32).boundary.aborted = some .unsupportedTaskGate
      ∧ (latched 0x20#8 0#32).boundary.aborted = some .tripleFault
      ∧ (latched 0x20#8 0#32).boundary.pendingVector = some 0x20#8 := by decide +kernel

theorem witness_HaltedStepsDoNotCount :
    State.reset.aborted = none ∧ State.reset.quiet = true ∧ State.reset.halted = false
      ∧ (∃ t, step State.reset = .next t)
      ∧ ({ State.reset with halted := true } : State).quiet = true :=
  ⟨rfl, rfl, rfl, ⟨_, went (s := State.reset) (by decide +kernel)⟩, rfl⟩

/-- The status `execute` reports, from reset with the given bytes at pc. -/
def statusOf (bs : List Byte) (budget : Nat) (f : State → State) : Status :=
  (execute budget (f (putBytes State.reset 0 bs))).2

/-- HLT is the second step; no step before it ended the run. -/
theorem witness_ExecuteReportsWhyItStopped_run :
    (let s := putBytes State.reset 0 [0x90#8, 0xF4#8]
     (execute 5 s).2 = .halted ∧ (execute 5 s).2 ≠ .continuable
      ∧ (runSteps 2 s).map State.halted = some true ∧ (runSteps 1 s).map State.halted = some false) := by
  decide +kernel

theorem witness_ExecuteReportsWhyItStopped :
    statusOf [0xF4#8] 3 id = .halted ∧ statusOf [0x90#8, 0x90#8] 2 id = .continuable
      ∧ statusOf [] 0 id = .continuable ∧ statusOf [0x0F#8, 0x0B#8] 3 id = .faultPending
      ∧ statusOf [0x0F#8, 0x0B#8] 3 (fun s => s.setIdtr { base := 0#32, limit := 0#32 }) = .aborted .tripleFault := by
  decide +kernel

theorem witness_ResetValues : Sreg.es ≠ .ldtr ∧ Sreg.es ≠ .tr := by decide

theorem witness_ResetIsLegal : Launch.plain.legal = true
    ∧ ({ Launch.plain with memSize := 4096, mem := [(0xFFF, 1#8)] } : Launch).legal = true := by decide +kernel

theorem witness_StepKeepsLegalState : State.reset.legal = true ∧ ∃ t, step State.reset = .next t :=
  ⟨by decide +kernel, _, went (s := State.reset) (by decide +kernel)⟩

theorem witness_ExceptionsArePrecise : ∃ t,
    (realIdt 0#32).idtr.limit = 0#32 ∧ (realIdt 0#32).stepFaulted = false
      ∧ exec (.divRm8 (.reg .edx)) ({ realIdt 0#32 with regs := { real.regs with edx := 0#32 } }) = .next t
      ∧ t.stepFaulted = true :=
  ⟨_, rfl, rfl, went (s := real) (by decide +kernel), by decide +kernel⟩

theorem witness_UserModeKeepsControlState :
    ring3.pe = true ∧ ring3.cpl = 3#2 ∧ WellFormed ring3.mode .hlt = true
      ∧ WellFormed ring3.mode (.intImm8 0x80#8) = true
      ∧ (∃ t, exec .hlt ring3 = .next t) ∧ ∃ t, exec (.intImm8 0x80#8) ring3 = .next t :=
  ⟨rfl, rfl, rfl, rfl, ⟨_, went (s := ring3) (by decide +kernel)⟩, _, went (s := ring3) (by decide +kernel)⟩

theorem witness_PrivilegeChecksFault :
    ring3.cpl ≠ 0#2 ∧ ring3.pe = true ∧ ring3.iopl.ult ring3.cpl = true
      ∧ ring3.locOf (.ind32 .ebx .none) = some (.mem .ds 0x200#32)
      ∧ ring3.dec.rep = none ∧ ring3.regs.read ring3.asz .ecx ≠ 0#32
      ∧ (let s := { ring3 with dec := { ring3.dec with rep := some .repe }, regs := { ring3.regs with ecx := 0#32 } }
         s.dec.rep ≠ none ∧ s.regs.read s.asz .ecx = 0#32) := by decide +kernel

/-! The operand of the next witnesses is the register EDX or the memory at DS:BX, in `real`. -/

/-- The memory operand at BX. -/
def atBx : Rm := .ind16 .bx .none

/-- Where it is in `real`. -/
def bxLoc : Loc := .mem .ds 0x200#32

theorem located : real.locOf (.reg .edx) = some (.reg .edx) ∧ real.locOf atBx = some bxLoc := ⟨rfl, rfl⟩

/-- An operand is read for an update and any value written back, at every width, in a register and in memory. -/
theorem updates (l : Loc) (w : Width) (h : l = .reg .edx ∨ l = bxLoc) :
    ∃ h s1, readLocW w l real = .ok h s1 ∧ ∀ v, ∃ s2, writeBack w l h v s1 = .ok () s2 := by
  rcases h with rfl | rfl <;> cases w
  · exact ⟨_, _, rfl, fun _ => ⟨_, rfl⟩⟩
  · exact ⟨_, _, rfl, fun _ => ⟨_, rfl⟩⟩
  · exact ⟨_, _, rfl, fun _ => ⟨_, rfl⟩⟩
  · exact ⟨_, _, ran (by decide +kernel), fun _ => ⟨_, finished (by rfl)⟩⟩
  · exact ⟨_, _, ran (by decide +kernel), fun _ => ⟨_, finished (by rfl)⟩⟩
  · exact ⟨_, _, ran (by decide +kernel), fun _ => ⟨_, finished (by rfl)⟩⟩

/-- An operand is read, at every width, in a register and in memory. -/
theorem reads (l : Loc) (w : Width) (h : l = .reg .edx ∨ l = bxLoc) : ∃ a s1, readLoc w l real = .ok a s1 := by
  rcases h with rfl | rfl <;> cases w
  · exact ⟨_, _, rfl⟩
  · exact ⟨_, _, rfl⟩
  · exact ⟨_, _, rfl⟩
  · exact ⟨_, _, ran (by decide +kernel)⟩
  · exact ⟨_, _, ran (by decide +kernel)⟩
  · exact ⟨_, _, ran (by decide +kernel)⟩

/-- Any value is written to an operand, at every width, in a register and in memory. -/
theorem writes (l : Loc) (w : Width) (v : W32) (h : l = .reg .edx ∨ l = bxLoc) :
    ∃ s1, writeLoc w l v real = .ok () s1 := by
  rcases h with rfl | rfl <;> cases w
  · exact ⟨_, rfl⟩
  · exact ⟨_, rfl⟩
  · exact ⟨_, rfl⟩
  · exact ⟨_, finished (by rfl)⟩
  · exact ⟨_, finished (by rfl)⟩
  · exact ⟨_, finished (by rfl)⟩

/-- With `located` and `updates`: every form, each operation. -/
theorem witness_AluToOperandCompletes (op : AluOp) :
    AluRmForm op real atBx (op.rm8R8 atBx .eax) .w8 (real.regs.read .w8 .eax)
      ∧ AluRmForm op real atBx (op.rmvImm8 atBx 0x80#8) real.osz (truncW real.osz ((0x80#8 : Byte).signExtend 32))
      ∧ real.locOf atBx = some bxLoc
      ∧ (∃ a s1 s2, readLocW .w8 bxLoc real = .ok a s1
          ∧ writeBack .w8 bxLoc a (aluResult op .w8 real.cc.cf a.val (real.regs.read .w8 .eax)) s1 = .ok () s2)
      ∧ ∃ a s1, readLoc .w8 bxLoc real = .ok a s1 := by
  obtain ⟨a, s1, h, k⟩ := updates bxLoc .w8 (.inr rfl)
  obtain ⟨s2, k⟩ := k (aluResult op .w8 real.cc.cf a.val (real.regs.read .w8 .eax))
  exact ⟨.rm8R8 .eax, .rmvImm8 0x80#8, rfl, ⟨a, s1, s2, h, k⟩, reads bxLoc .w8 (.inr rfl)⟩

theorem witness_AluToRegisterAndTestComplete :
    real.locOf atBx = some bxLoc ∧ (∃ v s1, readLoc .w8 bxLoc real = .ok v s1)
      ∧ ∃ v s1, readLoc real.osz bxLoc real = .ok v s1 :=
  ⟨rfl, reads _ _ (.inr rfl), reads _ _ (.inr rfl)⟩

theorem witness_IncDecNegNotComplete : ∃ a s1 s2 s3 s4 s5,
    (Instr.incRmv atBx, Instr.decRmv atBx, Instr.negRmv atBx, Instr.notRmv atBx, real.osz)
        ∈ [(.incRm8 atBx, .decRm8 atBx, .negRm8 atBx, .notRm8 atBx, .w8),
           (.incRmv atBx, .decRmv atBx, .negRmv atBx, .notRmv atBx, real.osz)]
      ∧ real.locOf atBx = some bxLoc ∧ readLocW real.osz bxLoc real = .ok a s1
      ∧ writeBack real.osz bxLoc a (truncW real.osz (a.val + 1#32)) s1 = .ok () s2
      ∧ writeBack real.osz bxLoc a (truncW real.osz (a.val - 1#32)) s1 = .ok () s3
      ∧ writeBack real.osz bxLoc a (truncW real.osz (0#32 - a.val)) s1 = .ok () s4
      ∧ writeBack real.osz bxLoc a (truncW real.osz (~~~a.val)) s1 = .ok () s5 := by
  obtain ⟨a, s1, h, k⟩ := updates bxLoc real.osz (.inr rfl)
  obtain ⟨s2, k2⟩ := k (truncW real.osz (a.val + 1#32))
  obtain ⟨s3, k3⟩ := k (truncW real.osz (a.val - 1#32))
  obtain ⟨s4, k4⟩ := k (truncW real.osz (0#32 - a.val))
  obtain ⟨s5, k5⟩ := k (truncW real.osz (~~~a.val))
  exact ⟨a, s1, s2, s3, s4, s5, by simp, rfl, h, k2, k3, k4, k5⟩

theorem witness_MultiplyCompletes :
    real.locOf (.reg .edx) = some (.reg .edx) ∧ (∃ b s1, readLoc .w8 (.reg .edx) real = .ok b s1)
      ∧ (∃ b s1, readLoc real.osz (.reg .edx) real = .ok b s1)
      ∧ (Instr.mulRm8 (.reg .edx), Instr.imulRm8 (.reg .edx), Width.w8)
          ∈ [(.mulRm8 (.reg .edx), .imulRm8 (.reg .edx), .w8),
             (.mulRmv (.reg .edx), .imulRmv (.reg .edx), real.osz)] :=
  ⟨rfl, reads _ _ (.inl rfl), reads _ _ (.inl rfl), by simp⟩

theorem witness_ProductsAreExact :
    truncW .w8 0x80#32 = 0x80#32 ∧ truncW .w8 0xFF#32 = 0xFF#32 ∧ truncW .w32 0x80000000#32 = 0x80000000#32 := by
  decide +kernel

/-- `real` with AX, and a divisor in CL. -/
def divides (ax cl : W32) : State := { real with regs := { real.regs with eax := ax, ecx := cl } }

/-- 100 by 7 fits, 7F00H by 1 does not, -32768 by 256 is -128 and fits, by 255 it is -128 too, by 128 it does not; and a
divisor of 0. -/
theorem witness_DivideCompletesOrFaults :
    (Instr.divRm8 (.reg .ecx), Instr.idivRm8 (.reg .ecx), Width.w8)
        ∈ [(.divRm8 (.reg .ecx), .idivRm8 (.reg .ecx), .w8), (.divRmv (.reg .ecx), .idivRmv (.reg .ecx), real.osz)]
      ∧ (divides 100#32 7#32).locOf (.reg .ecx) = some (.reg .ecx)
      ∧ (∃ s1, readLoc .w8 (.reg .ecx) (divides 100#32 7#32) = .ok 7#32 s1) ∧ truncW .w8 7#32 = 7#32
      ∧ (divides 100#32 7#32).regs.dividend .w8 / 7 < 2 ^ Width.w8.bits
      ∧ ((divides 100#32 7#32).regs.dividendS .w8).tdiv (signedW .w8 7#32) = 14
      ∧ (∃ s1, readLoc .w8 (.reg .ecx) (divides 0x7F00#32 1#32) = .ok 1#32 s1) ∧ truncW .w8 1#32 = 1#32
      ∧ 2 ^ Width.w8.bits ≤ (divides 0x7F00#32 1#32).regs.dividend .w8 / 1
      ∧ 2 ^ (Width.w8.bits - 1) ≤ ((divides 0x7F00#32 1#32).regs.dividendS .w8).tdiv (signedW .w8 1#32)
      ∧ ((divides 0xC000#32 0x80#32).regs.dividendS .w8).tdiv (signedW .w8 0x80#32) = 128
      ∧ ((divides 0x4000#32 0x80#32).regs.dividendS .w8).tdiv (signedW .w8 0x80#32) = -128
      ∧ ∃ s1, readLoc .w8 (.reg .ecx) (divides 100#32 0#32) = .ok 0#32 s1 :=
  ⟨by simp, rfl, ⟨_, rfl⟩, rfl, by decide, by decide, ⟨_, rfl⟩, rfl, by decide, by decide, by decide, by decide, _,
    rfl⟩

theorem witness_DecimalAdjustsComplete : (10#8 : Byte) ≠ 0#8 := by decide

theorem witness_ExchangesComplete :
    (Instr.xchgRmvRv atBx .esi, Instr.xaddRmvRv atBx .esi, Instr.cmpxchgRmvRv atBx .esi, real.osz)
        ∈ [(.xchgRm8R8 atBx .esi, .xaddRm8R8 atBx .esi, .cmpxchgRm8R8 atBx .esi, .w8),
           (.xchgRmvRv atBx .esi, .xaddRmvRv atBx .esi, .cmpxchgRmvRv atBx .esi, real.osz)]
      ∧ real.locOf atBx = some bxLoc
      ∧ (∃ a s1 s2 s3, readLocW real.osz bxLoc real = .ok a s1
          ∧ writeBack real.osz bxLoc a (real.regs.read real.osz .esi) s1 = .ok () s2
          ∧ writeBack real.osz bxLoc a (truncW real.osz (a.val + real.regs.read real.osz .esi)) s1 = .ok () s3) := by
  obtain ⟨a, s1, h, k⟩ := updates bxLoc real.osz (.inr rfl)
  obtain ⟨s2, k2⟩ := k (real.regs.read real.osz .esi)
  obtain ⟨s3, k3⟩ := k (truncW real.osz (a.val + real.regs.read real.osz .esi))
  exact ⟨by simp, rfl, a, s1, s2, s3, h, k2, k3⟩

/-- The accumulator equal to the operand, and not. -/
theorem witness_ExchangesComplete_accumulator :
    (∃ s1, readLocW .w16 (.reg .eax) real = .ok { val := real.regs.read .w16 .eax, places := [] } s1)
      ∧ (∃ s1, readLocW .w16 bxLoc real = .ok { val := 0#32, places := [0x200#32, 0x201#32] } s1) ∧ real.regs.read .w16 .eax ≠ 0#32
      ∧ truncW .w16 0#32 = 0#32 :=
  ⟨⟨_, rfl⟩, ⟨_, answered (by decide +kernel)⟩, by decide, rfl⟩

theorem witness_ShiftsComplete (k : ShiftRow) :
    ShiftForm k real atBx (k.rm8Cl atBx) .w8 (real.regs.read .w8 .ecx)
      ∧ ShiftForm k real atBx (k.rmvImm8 atBx 32#8) real.osz ((32#8 : Byte).setWidth 32)
      ∧ (real.regs.read .w8 .ecx).toNat % 32 = 2 ∧ ((32#8 : Byte).setWidth 32 : W32).toNat % 32 = 0
      ∧ 9 % (Width.w8.bits + 1) = 0 ∧ real.locOf atBx = some bxLoc
      ∧ ∃ x s1 s2 s3, readLocW .w8 bxLoc real = .ok x s1 ∧ writeBack .w8 bxLoc x x.val s1 = .ok () s2
          ∧ writeBack .w8 bxLoc x (shiftResult k.op .w8 real.cc.cf x.val 2) s1 = .ok () s3 := by
  obtain ⟨x, s1, h, e⟩ := updates bxLoc .w8 (.inr rfl)
  obtain ⟨s2, e2⟩ := e x.val
  obtain ⟨s3, e3⟩ := e (shiftResult k.op .w8 real.cc.cf x.val 2)
  exact ⟨.rm8Cl, .rmvImm8 32#8, by decide, by decide, rfl, rfl, x, s1, s2, s3, h, e2, e3⟩

/-- `real` with 32-bit operands. -/
def real32 : State := { real with dec := { real.dec with opsizeOvr := true } }

theorem witness_DoubleShiftsComplete : ∃ a s1 s2 s3,
    (Instr.shldCl atBx .esi, true, real32.regs.read .w8 .ecx)
        ∈ [(.shldImm8 atBx .esi 0#8, true, (0#8 : Byte).setWidth 32),
           (.shldCl atBx .esi, true, real32.regs.read .w8 .ecx),
           (.shrdImm8 atBx .esi 0#8, false, (0#8 : Byte).setWidth 32),
           (.shrdCl atBx .esi, false, real32.regs.read .w8 .ecx)]
      ∧ real32.osz = .w32 ∧ (real32.regs.read .w8 .ecx).toNat % 32 ≠ 0
      ∧ real32.locOf atBx = some bxLoc ∧ readLocW real32.osz bxLoc real32 = .ok a s1
      ∧ writeBack real32.osz bxLoc a a.val s1 = .ok () s2
      ∧ writeBack real32.osz bxLoc a
          (doubleResult true real32.osz a.val (real32.regs.read real32.osz .esi) 2) s1 = .ok () s3
      ∧ real.osz = .w16 ∧ ((0x20#8 : Byte).setWidth 32 : W32).toNat % 32 = 0 := by
  exact ⟨_, _, _, _, by simp, rfl, by decide, rfl, ran (by decide +kernel), finished (by decide +kernel),
    finished (by decide +kernel), rfl, by decide⟩

/-- At width 16, by a count above the width. -/
theorem witness_DoubleShiftsComplete_narrow : ∃ a s1 s2,
    real.osz = .w16 ∧ ((31#8 : Byte).setWidth 32 : W32).toNat % 32 ≠ 0 ∧ readLocW real.osz bxLoc real = .ok a s1
      ∧ writeBack real.osz bxLoc a (doubleResult false real.osz a.val (real.regs.read real.osz .esi) 31) s1 = .ok () s2 :=
  ⟨_, _, _, rfl, by decide, ran (by decide +kernel), finished (by decide +kernel)⟩

theorem witness_BitInstructionsComplete :
    real.locOf atBx = some bxLoc ∧ (∃ v s1, readLoc real.osz bxLoc real = .ok v s1)
      ∧ (∃ v s1 s2, readLocW real.osz bxLoc real = .ok v s1
          ∧ writeBack real.osz bxLoc v (v.val ||| 1#32 <<< 3) s1 = .ok () s2)
      ∧ (∃ v s1 s2,
          let p : Loc := .mem .ds (real.reduce (0x200#32 + BitVec.ofInt 32 (signedW .w16 0xFFFF#32 / 16 * 2)))
          readLocW real.osz p real = .ok v s1 ∧ writeBack real.osz p v (v.val &&& ~~~(1#32 <<< 15)) s1 = .ok () s2)
      ∧ (∃ s1, readLoc .w16 bxLoc real = .ok 0#32 s1)
      ∧ (∃ s1, readLoc .w16 (.reg .edx) real = .ok 0x3F8#32 s1)
      ∧ (0x3F8#32 : W32).getLsbD 3 = true ∧ (∀ k, k < 3 → (0x3F8#32 : W32).getLsbD k = false)
      ∧ (0x3F8#32 : W32).getLsbD 9 = true ∧ (∀ k, k < 32 → 9 < k → (0x3F8#32 : W32).getLsbD k = false) := by
  obtain ⟨a, s1, h, k⟩ := updates bxLoc real.osz (.inr rfl)
  obtain ⟨s2, k2⟩ := k (a.val ||| 1#32 <<< 3)
  exact ⟨rfl, reads _ _ (.inr rfl), ⟨a, s1, s2, h, k2⟩,
    ⟨_, _, _, ran (by decide +kernel), finished (by decide +kernel)⟩, ⟨_, answered (by decide +kernel)⟩, ⟨_, rfl⟩,
    by decide, by decide, by decide, by decide⟩

theorem witness_StoringMovesComplete : ∃ s1 s2,
    writeLoc .w8 bxLoc (real.regs.read .w8 .ecx) real = .ok () s1 ∧ real.locOf atBx = some bxLoc
      ∧ (Instr.movRm8R8 atBx .ecx, Width.w8, real.regs.read .w8 .ecx) ∈ [
          (.movRm8R8 atBx .ecx, .w8, real.regs.read .w8 .ecx),
          (.movRmvRv atBx .ecx, real.osz, real.regs.read real.osz .ecx)]
      ∧ writeLoc real.osz (.mem (real.eseg .ds) (ImmV.i16 0xFFFF#16).val) (real.regs.read real.osz .eax) real
          = .ok () s2 :=
  ⟨_, _, finished (by decide +kernel), rfl, by simp, finished (by decide +kernel)⟩

theorem witness_LoadingMovesComplete : ∃ v s1 x s2 y s3 z s4,
    readLoc .w8 bxLoc real = .ok v s1 ∧ real.locOf atBx = some bxLoc
      ∧ readLoc .w8 (.mem (real.dec.segOvr.getD .ds) (ImmV.i16 0xFFFF#16).val) real = .ok x s2
      ∧ readLoc .w8 (.mem (real.dec.segOvr.getD .ds) (truncW real.asz (real.regs.ebx + real.regs.read .w8 .eax))) real
          = .ok y s3
      ∧ WellFormed real.mode (.leaRvM .eax atBx) = true
      ∧ accRead ((real.segs.get (real.dec.segOvr.getD .ds)).base + 0x200#32) real.osz.bytes real = .ok z s4 :=
  ⟨_, _, _, _, _, _, _, _, ran (by decide +kernel), rfl, ran (by decide +kernel), ran (by decide +kernel), rfl,
    ran (by decide +kernel)⟩

/-- A form of each row; the last sum is beyond 2^16 and wraps. -/
theorem witness_LoadingMovesComplete_addresses :
    Addressed real.regs (.abs16 0xFFFF#16) .ds 0xFFFF#32 ∧ Addressed real.regs atBx .ds 0x200#32
      ∧ Addressed real.regs (.abs32 0x12345#32) .ds 0x12345#32
      ∧ Addressed real.regs (.ind32 .ebp (.d8 0xFF#8)) .ss 0x8FF#32
      ∧ Addressed real.regs (.sib 2#2 .ecx .esi (.dn 0x10#32)) .ds 0x318#32
      ∧ Addressed real.regs (.sib 3#2 .esp .esp .none) .ss 0x1000#32
      ∧ Addressed real.regs (.sibAbs 1#2 .edx 5#32) .ds 0x7F5#32
      ∧ Addressed real.regs (.ind16 .bpsi (.dn 0xFFFF#16)) .ss 0xBFF#32 :=
  ⟨.abs16 _, .ind16 .bx .none .ds 0x200#32 0#32 (by decide) .none, .abs32 _,
    .ind32 .ebp (.d8 0xFF#8) .ss 0x900#32 0xFFFFFFFF#32 (by decide) (.d8 _),
    .sib 2#2 .ecx .esi (.dn 0x10#32) .ds 2#32 0x300#32 0x10#32 (by decide) (by decide) (.dn _),
    .sib 3#2 .esp .esp .none .ss 0#32 0x1000#32 0#32 (by decide) (by decide) .none,
    .sibAbs 1#2 .edx 5#32 0x3F8#32 (by decide),
    .ind16 .bpsi (.dn 0xFFFF#16) .ss 0xC00#32 0xFFFF#32 (by decide) (.dn _)⟩

theorem witness_RegisterMovesComplete :
    real.locOf atBx = some (.mem .ds 0x200#32) ∧ real.locOf (.reg .edx) = some (.reg .edx) := ⟨rfl, rfl⟩

theorem witness_PushesComplete :
    (∃ s1, writeLoc real.osz (.mem .ss (real.below real.osz 1)) (real.regs.read real.osz .eax) real = .ok () s1)
      ∧ (∃ v s1 s2, readLoc real.osz bxLoc real = .ok v s1
          ∧ writeLoc real.osz (.mem .ss (real.below real.osz 1)) v s1 = .ok () s2)
      ∧ ∃ s1, accesses (onStack real.osz [(real.below .w16 1, 1#32), (real.below .w16 2, 2#32), (real.below .w16 3, 3#32),
          (real.below .w16 4, 4#32), (real.below .w16 5, 5#32), (real.below .w16 6, 6#32), (real.below .w16 7, 7#32),
          (real.below .w16 8, 8#32)]) real s1 :=
  ⟨⟨_, finished (by decide +kernel)⟩, ⟨_, _, _, ran (by decide +kernel), finished (by decide +kernel)⟩,
    _, _, finished (by decide +kernel), _, finished (by decide +kernel), _, finished (by decide +kernel),
    _, finished (by decide +kernel), _, finished (by decide +kernel), _, finished (by decide +kernel),
    _, finished (by decide +kernel), _, finished (by decide +kernel), rfl⟩

theorem witness_PopsComplete :
    (∃ v s1 s2, readLoc real.osz (.mem .ss (real.above real.osz 0)) real = .ok v s1
        ∧ State.locOf { real with regs := real.espAt (real.above real.osz 1) } atBx = some bxLoc
        ∧ writeLoc real.osz bxLoc v s1 = .ok () s2)
      ∧ (∃ v s1 s2, readLoc prot.osz (.mem .ss (prot.above prot.osz 0)) ({ prot with mem := (0x9000, 0x10#8) :: [] })
            = .ok v s1 ∧ loadSeg .es 0#16 s1 = .ok () s2)
      ∧ (∃ s1 s2, readLoc real.osz (.mem .ss (real.above real.osz 0)) real = .ok 0#32 s1
          ∧ loadSeg .ss ((0#32 : W32).setWidth 16) s1 = .ok () s2)
      ∧ ∃ a b c d e f g h s1, accesses (offStack real.osz [(real.above .w16 0, a), (real.above .w16 1, b),
          (real.above .w16 2, c), (real.above .w16 3, d), (real.above .w16 4, e), (real.above .w16 5, f),
          (real.above .w16 6, g), (real.above .w16 7, h)]) real s1 :=
  ⟨⟨_, _, _, ran (by decide +kernel), rfl, finished (by decide +kernel)⟩,
    ⟨_, _, _, ran (by decide +kernel), finished (by decide +kernel)⟩,
    ⟨_, _, answered (by decide +kernel), finished (by decide +kernel)⟩,
    0#32, 0#32, 0#32, 0#32, 0#32, 0#32, 0#32, 0#32, _, _, answered (by decide +kernel), _, answered (by decide +kernel),
    _, answered (by decide +kernel), _, answered (by decide +kernel), _, answered (by decide +kernel),
    _, answered (by decide +kernel), _, answered (by decide +kernel), _, answered (by decide +kernel), rfl⟩

theorem witness_BranchesComplete :
    real.locOf (.reg .edx) = some (.reg .edx) ∧ (∃ v s1, readLoc real.osz (.reg .edx) real = .ok v s1)
      ∧ (Cond.nle, !real.cc.zf && real.cc.sf == real.cc.of)
          ∈ [(.le, real.cc.zf || real.cc.sf != real.cc.of), (.nle, !real.cc.zf && real.cc.sf == real.cc.of)] :=
  ⟨rfl, reads _ _ (.inl rfl), by simp⟩

/-- ENTER of level 3 in `real`: the frame, two copies, and the frame pointer stored. -/
theorem witness_CallsAndFramesComplete :
    (∃ s1, writeLoc real.osz (.mem .ss (real.below real.osz 1)) real.nextpc real = .ok () s1)
      ∧ (∃ v s1 s2, readLoc real.osz bxLoc real = .ok v s1
          ∧ writeLoc real.osz (.mem .ss (real.below real.osz 1)) real.nextpc s1 = .ok () s2)
      ∧ (∃ v s1, readLoc real.osz (.mem .ss (real.above real.osz 0)) real = .ok v s1)
      ∧ (∃ v s1, readLoc real.osz (.mem .ss (real.regs.ebp &&& real.stackMask)) real = .ok v s1)
      ∧ (∃ s1, writeLoc real.osz (.mem .ss (real.below real.osz 1)) (real.regs.read real.osz .ebp) real = .ok () s1)
      ∧ (0x40#8 : Byte).toNat % 32 = 0 ∧ 0 < (3#8 : Byte).toNat % 32
      ∧ ∃ a b s1, [a, b].length = (3#8 : Byte).toNat % 32 - 1
          ∧ accesses (.write real.osz (.mem .ss (real.below real.osz 1)) (real.regs.read real.osz .ebp)
            :: (displayCopies real.osz real.stackMask real.regs.ebp (real.below real.osz 1) [a, b]
              ++ [.write real.osz (.mem .ss ((real.below real.osz 1 - 6#32) &&& real.stackMask))
                    (real.below real.osz 1)])) real s1 :=
  ⟨⟨_, finished (by decide +kernel)⟩, ⟨_, _, _, ran (by decide +kernel), finished (by decide +kernel)⟩,
    ⟨_, _, ran (by decide +kernel)⟩, ⟨_, _, ran (by decide +kernel)⟩, ⟨_, finished (by decide +kernel)⟩, by decide,
    by decide, 0#32, 0#32, _, by decide, _, finished (by decide +kernel), _, answered (by decide +kernel),
    _, finished (by decide +kernel), _, answered (by decide +kernel), _, finished (by decide +kernel),
    _, finished (by decide +kernel), rfl⟩

theorem witness_SoftwareInterruptsComplete :
    (∃ s1, deliver 0x80#8 true none false real.nextpc real = .ok () s1)
      ∧ (∃ s1, deliver 3#8 true none false real.nextpc real = .ok () s1)
      ∧ (∃ s1, let s := { real with cc := real.cc.setImage 0x800#32 }
          s.cc.of = true ∧ deliver 4#8 true none false s.nextpc s = .ok () s1)
      ∧ real.cc.of = false
      ∧ (∃ s1 s2, readLoc real.osz bxLoc real = .ok 0#32 s1
          ∧ readLoc real.osz (.mem .ds (truncW real.asz (0x200#32 + BitVec.ofNat 32 real.osz.bytes))) s1 = .ok 0#32 s2)
      ∧ (let s := { real with regs := { real.regs with esi := 0#32 } }
         signedW s.osz 0#32 ≤ signedW s.osz (s.regs.read s.osz .esi)
          ∧ signedW s.osz (s.regs.read s.osz .esi) ≤ signedW s.osz 0#32)
      ∧ signedW real.osz 0#32 < signedW real.osz (real.regs.read real.osz .esi) :=
  ⟨⟨_, finished (by decide +kernel)⟩, ⟨_, finished (by decide +kernel)⟩,
    ⟨_, by decide +kernel, finished (by decide +kernel)⟩, by decide +kernel,
    ⟨_, _, answered (by decide +kernel), answered (by decide +kernel)⟩, by decide +kernel, by decide +kernel⟩

/-- `real` with a repeat prefix and a count. -/
def repeated (count : W32) : State :=
  { real with dec := { real.dec with rep := some .repe }, regs := { real.regs with ecx := count } }

theorem witness_StringElementsComplete :
    ((repeated 0#32).dec.rep ≠ none ∧ (repeated 0#32).regs.read (repeated 0#32).asz .ecx = 0#32)
      ∧ real.dec.rep = none ∧ (repeated 1#32).regs.read (repeated 1#32).asz .ecx ≠ 0#32
      ∧ (∃ v s1 s2, readLoc .w16 (.mem (real.eseg .ds) (real.regs.read real.asz .esi)) real = .ok v s1
          ∧ writeLoc .w16 (.mem .es (real.regs.read real.asz .edi)) v s1 = .ok () s2)
      ∧ (∃ v s1 x s2, readLoc .w8 (.mem (real.eseg .ds) (real.regs.read real.asz .esi)) real = .ok v s1
          ∧ readLoc .w8 (.mem .es (real.regs.read real.asz .edi)) s1 = .ok x s2)
      ∧ (∃ s1, writeLoc .w8 (.mem .es (real.regs.read real.asz .edi)) (real.regs.read .w8 .eax) real = .ok () s1)
      ∧ real.iopl.ult real.cpl = false
      ∧ (∃ as s1 v s2 s3, translateSpan (real.segs.es.base + real.regs.read real.asz .edi) Width.w8.bytes .write (real.cpl == 3#2) real
            = .ok as s1
          ∧ portRead (real.regs.edx.setWidth 16) .w8 s1 = .ok v s2
          ∧ writeBack .w8 (.mem .es (real.regs.read real.asz .edi)) { val := v, places := as } v s2 = .ok () s3)
      ∧ ∃ v s1 s2, readLoc .w8 (.mem (real.eseg .ds) (real.regs.read real.asz .esi)) real = .ok v s1
          ∧ portWrite (real.regs.edx.setWidth 16) .w8 v s1 = .ok () s2 :=
  ⟨by decide +kernel, rfl, by decide +kernel, ⟨_, _, _, ran (by decide +kernel), finished (by decide +kernel)⟩,
    ⟨_, _, _, _, ran (by decide +kernel), ran (by decide +kernel)⟩, ⟨_, finished (by decide +kernel)⟩,
    by decide +kernel, ⟨_, _, _, _, _, ran (by decide +kernel), ran (by decide +kernel), finished (by decide +kernel)⟩,
    _, _, _, ran (by decide +kernel), finished (by decide +kernel)⟩

/-- A handler of each width at port 60H, a byte handler at 61H and at 71H, none at 70H. -/
def withPorts : State :=
  { real with ports := { r8 := [0x60#10, 0x61#10, 0x71#10, 0x72#10], r16 := [0x60#10], r32 := [0x60#10],
                         w8 := [0x60#10, 0x71#10], w16 := [0x60#10], w32 := [0x60#10] } }

/-- Handled at every width, handled at none, and done byte by byte with and without a handler for a byte. -/
theorem witness_PortsComplete :
    real.iopl.ult real.cpl = false
      ∧ (∃ v s1, portRead 0x3F8#16 .w16 real = .ok v s1) ∧ (∃ s1, portWrite 0x3F8#16 .w16 5#32 real = .ok () s1)
      ∧ ((0x60#16 + BitVec.ofNat 16 0).extractLsb' 0 10 ∈ withPorts.ports.reads .w32
        ∧ (0x60#16 + BitVec.ofNat 16 0).extractLsb' 0 10 ∈ withPorts.ports.writes .w32)
      ∧ ((0x3F8#16 + BitVec.ofNat 16 0).extractLsb' 0 10 ∉ withPorts.ports.reads .w16
        ∧ ∀ k, k < Width.w16.bytes → (0x3F8#16 + BitVec.ofNat 16 k).extractLsb' 0 10 ∉ withPorts.ports.r8)
      ∧ ((0x3F8#16 + BitVec.ofNat 16 0).extractLsb' 0 10 ∉ withPorts.ports.writes .w16
        ∧ ∀ k, k < Width.w16.bytes → (0x3F8#16 + BitVec.ofNat 16 k).extractLsb' 0 10 ∉ withPorts.ports.w8)
      ∧ ((0x71#16 + BitVec.ofNat 16 0).extractLsb' 0 10 ∉ withPorts.ports.r16 ++ withPorts.ports.r32
        ∧ (0x71#16 + BitVec.ofNat 16 0).extractLsb' 0 10 ∉ withPorts.ports.w16 ++ withPorts.ports.w32)
      ∧ (∃ b0 s1 b1 s2 b2 s3 b3 s4, portRead 0x71#16 .w8 withPorts = .ok b0 s1
          ∧ portRead (0x71#16 + 1#16) .w8 s1 = .ok b1 s2 ∧ portRead (0x71#16 + 2#16) .w8 s2 = .ok b2 s3
          ∧ portRead (0x71#16 + 3#16) .w8 s3 = .ok b3 s4)
      ∧ ∃ s1 s2 s3 s4, portWrite 0x71#16 .w8 5#32 withPorts = .ok () s1
          ∧ portWrite (0x71#16 + 1#16) .w8 (5#32 >>> 8) s1 = .ok () s2
          ∧ portWrite (0x71#16 + 2#16) .w8 (5#32 >>> 16) s2 = .ok () s3
          ∧ portWrite (0x71#16 + 3#16) .w8 (5#32 >>> 24) s3 = .ok () s4 :=
  ⟨by decide +kernel, ⟨_, _, ran (by decide +kernel)⟩, ⟨_, finished (by decide +kernel)⟩, by decide +kernel,
    by decide +kernel, by decide +kernel, by decide +kernel, ⟨_, _, _, _, _, _, _, _, rfl, rfl, rfl, rfl⟩,
    _, _, _, _, rfl, rfl, rfl, rfl⟩

theorem witness_FlagAndMiscInstructionsComplete :
    real.iopl.ult real.cpl = false ∧ real.cpl = 0#2 ∧ real.cr4.getLsbD 2 = false
      ∧ (({ ring3 with cr4 := 4#32 } : State).cr4.getLsbD 2 = true ∧ ring3.cpl ≠ 0#2)
      ∧ real.cr0.getLsbD 2 = false ∧ real.cr0.getLsbD 3 = false
      ∧ ((0x14#32 : W32).getLsbD 2 = true ∧ (0x1A#32 : W32).getLsbD 1 = true ∧ (0x1A#32 : W32).getLsbD 3 = true) := by
  decide +kernel

/-- `prot` with a selector in EDX. -/
def selects (sel : W32) : State := { prot with regs := { prot.regs with edx := sel } }

theorem witness_SegmentMovesComplete :
    real.locOf atBx = some bxLoc ∧ real.locOf (.reg .edx) = some (.reg .edx)
      ∧ (3#3, Sreg.ds) ∈ [(0#3, .es), (2#3, .ss), (3#3, .ds), (4#3, .fs), (5#3, .gs)]
      ∧ (∃ s1, writeLoc .w16 bxLoc ((real.segs.get .ds).sel.setWidth 32) real = .ok () s1)
      ∧ (∃ v s1 s2, readLoc .w16 (.reg .edx) real = .ok v s1 ∧ loadSeg .ds (v.setWidth 16) s1 = .ok () s2)
      ∧ (∃ v s1 x s2 s3, readLoc real.osz bxLoc real = .ok v s1
          ∧ readLoc .w16 (.mem .ds (truncW real.asz (0x200#32 + BitVec.ofNat 32 real.osz.bytes))) s1 = .ok x s2
          ∧ loadSeg .es (x.setWidth 16) s2 = .ok () s3)
      ∧ (∃ v s1 s2, readLoc .w16 (.reg .edx) (selects 0x10#32) = .ok v s1 ∧ loadSeg .ss (v.setWidth 16) s1 = .ok () s2)
      ∧ WellFormed prot.mode (.movRm16Sreg (.cut 3#2 2#3) 6#3) = true
      ∧ WellFormed prot.mode (.movSregRm16 1#3 (.cut 3#2 2#3)) = true
      ∧ WellFormed prot.mode (.ldsRvM .eax (.reg .edx)) = true :=
  ⟨rfl, rfl, by simp, ⟨_, finished (by decide +kernel)⟩,
    ⟨_, _, _, ran (by decide +kernel), finished (by decide +kernel)⟩,
    ⟨_, _, _, _, _, ran (by decide +kernel), ran (by decide +kernel), finished (by decide +kernel)⟩,
    ⟨_, _, _, ran (by decide +kernel), finished (by decide +kernel)⟩, rfl, rfl, rfl⟩

theorem witness_RealModeFarTransfersComplete :
    real.pe = false
      ∧ (∃ s1, accesses (onStack real.osz [(real.below real.osz 1, real.segs.cs.sel.setWidth 32),
          (real.below real.osz 2, real.nextpc)]) real s1)
      ∧ (∃ o s1 sel s2 s3, readLoc real.osz bxLoc real = .ok o s1
          ∧ readLoc .w16 (.mem .ds (truncW real.asz (0x200#32 + BitVec.ofNat 32 real.osz.bytes))) s1 = .ok sel s2
          ∧ accesses (onStack real.osz [(real.below real.osz 1, real.segs.cs.sel.setWidth 32),
              (real.below real.osz 2, real.nextpc)]) s2 s3)
      ∧ ∃ o c f s1 s2, accesses (offStack real.osz [(real.above real.osz 0, o), (real.above real.osz 1, c)]) real s1
          ∧ accesses (offStack real.osz [(real.above real.osz 0, o), (real.above real.osz 1, c),
              (real.above real.osz 2, f)]) real s2 :=
  ⟨rfl, ⟨_, _, finished (by decide +kernel), _, finished (by decide +kernel), rfl⟩,
    ⟨_, _, _, _, _, ran (by decide +kernel), ran (by decide +kernel), _, finished (by decide +kernel),
      _, finished (by decide +kernel), rfl⟩,
    0#32, 0#32, 0#32, _, _, ⟨_, answered (by decide +kernel), _, answered (by decide +kernel), rfl⟩,
    _, answered (by decide +kernel), _, answered (by decide +kernel), _, answered (by decide +kernel), rfl⟩

/-- IRET in real-address mode of an image with VM set. -/
theorem witness_RealModeFarTransfersComplete_vm86 :
    vmFrame.pe = false
      ∧ (∃ o c f s1, accesses (offStack vmFrame.osz [(vmFrame.above vmFrame.osz 0, o), (vmFrame.above vmFrame.osz 1, c),
          (vmFrame.above vmFrame.osz 2, f)]) vmFrame s1
        ∧ (vmFrame.osz == .w32 && vmFrame.cpl == 0#2 && f.getLsbD 17) = true) :=
  ⟨rfl, 0x105#32, 0x1000#32, 0x20003#32, _, ⟨_, answered (by decide +kernel), _, answered (by decide +kernel),
    _, answered (by decide +kernel), rfl⟩, by decide +kernel⟩

/-- A far jump and a far call to the code segment, by either form, and the gates and TSSs they abort on. -/
theorem witness_ProtectedFarTransfersComplete :
    prot.pe = true ∧ ((8#16 &&& 0xFFFC#16).setWidth 32 : W32) ≠ 0#32
      ∧ FarForm prot (.jmpPtr (.i32 0x5000#32) 8#16) (.callPtr (.i32 0x5000#32) 8#16) 8#16 0x5000#32 prot
      ∧ (∃ off sel t u, prot.locOf (.ind32 .ebx .none) = some (.mem .ds 0x200#32)
          ∧ readLoc prot.osz (.mem .ds 0x200#32) prot = .ok off t
          ∧ readLoc .w16 (.mem .ds (truncW prot.asz (0x200#32 + BitVec.ofNat 32 prot.osz.bytes))) t = .ok sel u)
      ∧ (∃ s1 s2 s3, descRead 8#16 prot = .ok (some code0) s1 ∧ markAccessed code0 s1 = .ok () s2
          ∧ accesses (onStack prot.osz [(prot.below prot.osz 1, prot.segs.cs.sel.setWidth 32),
              (prot.below prot.osz 2, prot.nextpc)]) s2 s3)
      ∧ (code0.e2.getLsbD 12 = true ∧ code0.e2.getLsbD 11 = true ∧ code0.e2.getLsbD 15 = true
        ∧ code0.e2.getLsbD 10 = false
        ∧ (prot.cpl.ult ((8#16).extractLsb' 0 2) || (code0.e2.extractLsb' 13 2 : BitVec 2) != prot.cpl) = false
        ∧ (descLimit code0.e1 code0.e2).ult 0xFFFFFFFF#32 = false)
      ∧ descReads prot 0x50#16 (fun d => !d.e2.getLsbD 12 && typeOf d.e2 == 5#4)
      ∧ descReads prot 0x30#16 (fun d => !d.e2.getLsbD 12 && typeOf d.e2 == 9#4)
      ∧ descReads prot 0x48#16 (fun d => !d.e2.getLsbD 12 && typeOf d.e2 == 1#4)
      ∧ descReads prot 0x58#16 (fun d => !d.e2.getLsbD 12 && typeOf d.e2 == 12#4)
      ∧ descReads prot 0x38#16 (fun d => !d.e2.getLsbD 12 && typeOf d.e2 == 2#4)
      ∧ ({ prot with eflagsSys := 0x4000#32 } : State).eflagsSys.getLsbD 14 = true :=
  ⟨rfl, by decide, .ptr (.i32 0x5000#32) 8#16, ⟨_, _, _, _, rfl, ran (by decide +kernel), ran (by decide +kernel)⟩,
    ⟨_, _, _, answered (by decide +kernel), finished (by decide +kernel),
      _, finished (by decide +kernel), _, finished (by decide +kernel), rfl⟩,
    by decide +kernel, descReads_of (by decide +kernel), descReads_of (by decide +kernel),
    descReads_of (by decide +kernel), descReads_of (by decide +kernel), descReads_of (by decide +kernel), rfl⟩

/-- The selectors a far jump, a return and its stack refuse: null, outside the table, of a wrong kind or level, not
present; and a limit below the target. -/
theorem witness_ProtectedFarTransfersComplete_faults :
    let lvl (d : Desc) : BitVec 2 := d.e2.extractLsb' 13 2
    let noStack (d : Desc) : Bool := !d.e2.getLsbD 12 || d.e2.getLsbD 11 || !d.e2.getLsbD 9 || lvl d != 0#2
    ((3#16 &&& 0xFFFC#16).setWidth 32 : W32) = 0#32 ∧ (∃ t, descRead 0x60#16 prot = .ok none t)
      ∧ descReads prot 0x10#16 (fun d => d.e2.getLsbD 12 && !d.e2.getLsbD 11)
      ∧ descReads prot 0x20#16 (fun d => d.e2.getLsbD 12 && d.e2.getLsbD 11 && !d.e2.getLsbD 10 && lvl d != prot.cpl)
      ∧ descReads codeAbsent 8#16 (fun d => d.e2.getLsbD 12 && d.e2.getLsbD 11 && lvl d == 0#2 && !d.e2.getLsbD 15)
      ∧ descReads (putBytes prot 0x100E [0x4F#8]) 8#16
          (fun d => d.e2.getLsbD 11 && lvl d == 0#2 && d.e2.getLsbD 15 && (descLimit d.e1 d.e2).ult 0x100000#32)
      ∧ descReads prot 0x10#16 (fun d => !noStack d && d.e2.getLsbD 15) ∧ descReads prot 8#16 noStack
      ∧ descReads prot 0x18#16 (fun d => !noStack d && !d.e2.getLsbD 15) :=
  ⟨by decide, ⟨_, answered (by decide +kernel)⟩, descReads_of (by decide +kernel), descReads_of (by decide +kernel),
    descReads_of (by decide +kernel), descReads_of (by decide +kernel), descReads_of (by decide +kernel),
    descReads_of (by decide +kernel), descReads_of (by decide +kernel)⟩

/-- IRET of a virtual-8086 image, and of a null code selector. -/
theorem witness_ProtectedFarTransfersComplete_stops :
    (let s := putBytes prot 0x900A [2#8]
      ∃ s1, (true && s.osz == .w32 && s.cpl == 0#2 && (0x20202#32 : W32).getLsbD 17) = true
        ∧ accesses (offStack s.osz ([(s.above s.osz 0, 0x1234#32), (s.above s.osz 1, 8#32)]
            ++ [(s.above s.osz 2, 0x20202#32)])) s s1)
      ∧ ∃ s1 s2, let s := putBytes prot 0x9004 [0#8]
        accesses (offStack s.osz ([(s.above s.osz 0, 0x1234#32), (s.above s.osz 1, 0#32)]
            ++ [(s.above s.osz 2, 0x202#32)])) s s1
          ∧ returnTarget ((0#32 : W32).setWidth 16) s1 = .error (.raise (.gp 0#32)) s2 :=
  ⟨⟨_, by decide +kernel, _, answered (by decide +kernel), _, answered (by decide +kernel),
      _, answered (by decide +kernel), rfl⟩,
    _, _, ⟨_, answered (by decide +kernel), _, answered (by decide +kernel), _, answered (by decide +kernel), rfl⟩,
    stopped (by decide +kernel)⟩

/-- IRET and RETF to the same level. -/
theorem witness_ProtectedFarTransfersComplete_return :
    prot.eflagsSys.getLsbD 14 = false ∧ prot.cpl = 0#2 ∧ (0x202#32 : W32).getLsbD 17 = false
      ∧ (∃ s1 s2 s3,
        accesses (offStack prot.osz ([(prot.above prot.osz 0, 0x1234#32), (prot.above prot.osz 1, 8#32)]
            ++ [(prot.above prot.osz 2, 0x202#32)])) prot s1
          ∧ returnTarget ((8#32 : W32).setWidth 16) s1 = .ok code0 s2
          ∧ ((8#32 : W32).extractLsb' 0 2 : BitVec 2) = prot.cpl ∧ markAccessed code0 s2 = .ok () s3)
      ∧ ∃ s1 s2 s3,
        accesses (offStack prot.osz ([(prot.above prot.osz 0, 0x1234#32), (prot.above prot.osz 1, 8#32)] ++ []))
            prot s1
          ∧ returnTarget ((8#32 : W32).setWidth 16) s1 = .ok code0 s2 ∧ markAccessed code0 s2 = .ok () s3 :=
  ⟨by decide +kernel, rfl, by decide,
    ⟨_, _, _, ⟨_, answered (by decide +kernel), _, answered (by decide +kernel), _, answered (by decide +kernel), rfl⟩,
      answered (by decide +kernel), by decide +kernel, finished (by decide +kernel)⟩,
    _, _, _, ⟨_, answered (by decide +kernel), _, answered (by decide +kernel), rfl⟩,
    answered (by decide +kernel), finished (by decide +kernel)⟩

/-- The code and the data segment of level 3 of `prot` as its table holds them. -/
def code3 : Desc := { e1 := 0x0000FFFF#32, e2 := 0x00CFFA00#32, addr := 0x1020#32 }

/-- The data segment of level 3. -/
def data3 : Desc := { e1 := 0x0000FFFF#32, e2 := 0x00CFF200#32, addr := 0x1028#32 }

/-- `prot` with a far frame to level 3 on the stack: offset, CS, flags, ESP, SS. -/
def outward : State :=
  putBytes prot 0x9004 [0x23#8, 0#8, 0#8, 0#8, 2#8, 2#8, 0#8, 0#8, 0#8, 0x70#8, 0#8, 0#8, 0x2B#8]

/-- IRET to an outer level. -/
theorem witness_ProtectedFarTransfersComplete_outer : ∃ s1 s2 s3 s4 s5 s6,
    accesses (offStack outward.osz ([(outward.above outward.osz 0, 0x1234#32), (outward.above outward.osz 1, 0x23#32)]
        ++ [(outward.above outward.osz 2, 0x202#32)])) outward s1
      ∧ returnTarget ((0x23#32 : W32).setWidth 16) s1 = .ok code3 s2
      ∧ ((0x23#32 : W32).extractLsb' 0 2 : BitVec 2) ≠ outward.cpl
      ∧ readLoc outward.osz (.mem .ss (0x900C#32 &&& outward.stackMask)) s2 = .ok 0x7000#32 s3
      ∧ readLoc outward.osz (.mem .ss (0x9010#32 &&& outward.stackMask)) s3 = .ok 0x2B#32 s4
      ∧ returnStack ((0x2B#32 : W32).setWidth 16) 3#2 s4 = .ok data3 s5
      ∧ (do markAccessed code3; markAccessed data3) s5 = .ok () s6 :=
  ⟨_, _, _, _, _, _,
    ⟨_, answered (by decide +kernel), _, answered (by decide +kernel), _, answered (by decide +kernel), rfl⟩,
    answered (by decide +kernel), by decide +kernel, answered (by decide +kernel), answered (by decide +kernel),
    answered (by decide +kernel), finished (by decide +kernel)⟩

/-- IRET to an outer level whose stack selector is null. -/
theorem witness_ProtectedFarTransfersComplete_outer_stops : ∃ s1 s2 s3 s4 s5,
    let s := putBytes outward 0x9010 [0#8]
    accesses (offStack s.osz ([(s.above s.osz 0, 0x1234#32), (s.above s.osz 1, 0x23#32)]
        ++ [(s.above s.osz 2, 0x202#32)])) s s1
      ∧ returnTarget ((0x23#32 : W32).setWidth 16) s1 = .ok code3 s2
      ∧ readLoc s.osz (.mem .ss (0x900C#32 &&& s.stackMask)) s2 = .ok 0x7000#32 s3
      ∧ readLoc s.osz (.mem .ss (0x9010#32 &&& s.stackMask)) s3 = .ok 0#32 s4
      ∧ returnStack ((0#32 : W32).setWidth 16) 3#2 s4 = .error (.raise (.gp 0#32)) s5 :=
  ⟨_, _, _, _, _,
    ⟨_, answered (by decide +kernel), _, answered (by decide +kernel), _, answered (by decide +kernel), rfl⟩,
    answered (by decide +kernel), answered (by decide +kernel), answered (by decide +kernel),
    stopped (by decide +kernel)⟩

/-- The call gate of `prot`, to its code segment. -/
def gate58 : Desc := { e1 := 0x00085000#32, e2 := 0x00008C00#32, addr := 0x1058#32 }

/-- At the same level. -/
theorem witness_CallGateCompletes : ∃ s1 s2 s3 s4,
    prot.pe = true ∧ 0x58#16 &&& 0xFFFC#16 ≠ 0#16 ∧ descRead 0x58#16 prot = .ok (some gate58) s1
      ∧ gate58.e2.getLsbD 12 = false ∧ (gate58.e2.extractLsb' 8 4 : BitVec 4) = 12#4
      ∧ ((dplOf gate58.e2).ult prot.cpl || (dplOf gate58.e2).ult ((0x58#16).extractLsb' 0 2)) = false
      ∧ gate58.e2.getLsbD 15 = true ∧ gateTarget (gate58.e1.extractLsb' 16 16) s1 = .ok code0 s2
      ∧ (descLimit code0.e1 code0.e2).ult 0x5000#32 = false
      ∧ (!code0.e2.getLsbD 10 && (dplOf code0.e2).ult prot.cpl) = false
      ∧ markAccessed code0 s2 = .ok () s3
      ∧ accesses (onStack .w32 [(prot.below .w32 1, prot.segs.cs.sel.setWidth 32), (prot.below .w32 2, prot.nextpc)])
          s3 s4 :=
  ⟨_, _, _, _, rfl, by decide, answered (by decide +kernel), by decide, by decide, by decide +kernel, by decide,
    answered (by decide +kernel), by decide +kernel, by decide +kernel, finished (by decide +kernel),
    _, finished (by decide +kernel), _, finished (by decide +kernel), rfl⟩

/-- A gate of too low a level, one not present, a target not present, and an offset beyond the target's limit. -/
theorem witness_CallGateCompletes_faults :
    FarForm ring3 (.jmpPtr (.i32 0#32) 0x58#16) (.callPtr (.i32 0#32) 0x58#16) 0x58#16 0#32 ring3
      ∧ descReads ring3 0x58#16 (fun g => !g.e2.getLsbD 12 && typeOf g.e2 == 12#4
          && (g.e2.extractLsb' 13 2 : BitVec 2).ult ring3.cpl)
      ∧ descReads (putBytes prot 0x105D [0x0C#8]) 0x58#16 (fun g => typeOf g.e2 == 12#4 && !g.e2.getLsbD 15)
      ∧ (∃ s1 t, descRead 0x58#16 codeAbsent = .ok (some gate58) s1
          ∧ gateTarget (gate58.e1.extractLsb' 16 16) s1 = .error (.raise (.np 8#32)) t)
      ∧ ∃ s1 d s2, let s := putBytes prot 0x1008 [0#8, 0x10#8, 0#8, 0#8, 0#8, 0x9A#8, 0x40#8]
          descRead 0x58#16 s = .ok (some gate58) s1 ∧ gateTarget (gate58.e1.extractLsb' 16 16) s1 = .ok d s2
            ∧ (descLimit d.e1 d.e2).ult 0x5000#32 = true :=
  ⟨.ptr (.i32 0#32) 0x58#16, descReads_of (by decide +kernel), descReads_of (by decide +kernel),
    ⟨_, _, answered (by decide +kernel), stopped (by decide +kernel)⟩,
    _, { e1 := 0x1000#32, e2 := 0x00409A00#32, addr := 0x1008#32 }, _, answered (by decide +kernel),
    answered (by decide +kernel), by decide +kernel⟩

/-- The call gate at level 3, with one parameter. -/
def gate58User : Desc := { e1 := 0x00085000#32, e2 := 0x0000EC01#32, addr := 0x1058#32 }

/-- To an inner level. -/
theorem witness_CallGateCompletes_inner :
    let s := putBytes ring3 0x105C [1#8, 0xEC#8]
    ∃ s1 s2 s3 s4 p s5 q s6 r s7,
      FarForm s (.jmpPtr (.i32 0#32) 0x58#16) (.callPtr (.i32 0#32) 0x58#16) 0x58#16 0#32 s
        ∧ descRead 0x58#16 s = .ok (some gate58User) s1
        ∧ ((dplOf gate58User.e2).ult s.cpl || (dplOf gate58User.e2).ult ((0x58#16).extractLsb' 0 2)) = false
        ∧ gateTarget (gate58User.e1.extractLsb' 16 16) s1 = .ok code0 s2
        ∧ (!code0.e2.getLsbD 10 && (dplOf code0.e2).ult s.cpl) = true
        ∧ innerStack (dplOf code0.e2) s2 = .ok { nss := 0x10#16, nesp := 0x8000#32, desc := data0 } s3
        ∧ (do markAccessed data0; markAccessed code0) s3 = .ok () s4
        ∧ framePushes true (descBase data0.e1 data0.e2) 0xFFFFFFFF#32 Width.w32.bytes (0x8000#32 &&& 0xFFFFFFFF#32)
            [s.segs.ss.sel.setWidth 32, s.regs.esp] s4 p s5
        ∧ gateParams .w32 (descBase data0.e1 data0.e2) 0xFFFFFFFF#32 s
            (gate58User.e2.extractLsb' 0 5).toNat p s5 q s6
        ∧ framePushes true (descBase data0.e1 data0.e2) 0xFFFFFFFF#32 Width.w32.bytes q
            [s.segs.cs.sel.setWidth 32, s.nextpc] s6 r s7 :=
  ⟨_, _, _, _, _, _, _, _, _, _, .ptr (.i32 0#32) 0x58#16, answered (by decide +kernel), by decide +kernel,
    answered (by decide +kernel), by decide +kernel, answered (by decide +kernel), finished (by decide +kernel),
    ⟨_, finished (by decide +kernel), _, finished (by decide +kernel), rfl, rfl⟩,
    ⟨_, _, _, ran (by decide +kernel), finished (by decide +kernel), rfl, rfl⟩,
    _, finished (by decide +kernel), _, finished (by decide +kernel), rfl, rfl⟩

/-- To an inner level whose stack is refused. -/
theorem witness_CallGateCompletes_inner_stops :
    let s := putBytes (innerSel 0#8) 0x105C [1#8, 0xEC#8]
    ∃ s1 s2 t, descRead 0x58#16 s = .ok (some gate58User) s1
      ∧ gateTarget (gate58User.e1.extractLsb' 16 16) s1 = .ok code0 s2
      ∧ innerStack 0#2 s2 = .error (.raise (.ts 0#32)) t :=
  ⟨_, _, _, answered (by decide +kernel), answered (by decide +kernel), stopped (by decide +kernel)⟩

/-- To an inner level, the offset beyond the target's limit. -/
theorem witness_CallGateCompletes_inner_limit :
    let s := putBytes (putBytes ring3 0x105C [1#8, 0xEC#8]) 0x1008 [0#8, 0x10#8, 0#8, 0#8, 0#8, 0x9A#8, 0x40#8]
    let d : Desc := { e1 := 0x1000#32, e2 := 0x00409A00#32, addr := 0x1008#32 }
    ∃ s1 s2 s3, descRead 0x58#16 s = .ok (some gate58User) s1
      ∧ gateTarget (gate58User.e1.extractLsb' 16 16) s1 = .ok d s2
      ∧ (!d.e2.getLsbD 10 && (dplOf d.e2).ult s.cpl) = true ∧ (descLimit d.e1 d.e2).ult 0x5000#32 = true
      ∧ innerStack (dplOf d.e2) s2 = .ok { nss := 0x10#16, nesp := 0x8000#32, desc := data0 } s3 :=
  ⟨_, _, _, answered (by decide +kernel), answered (by decide +kernel), by decide +kernel, by decide +kernel,
    answered (by decide +kernel)⟩

theorem witness_SystemRegistersComplete :
    real.locOf atBx = some bxLoc ∧ real.cpl = 0#2
      ∧ (∃ s1 s2, writeLoc .w16 bxLoc real.gdtr.limit real = .ok () s1
          ∧ writeLoc .w32 (.mem .ds (truncW real.asz (0x200#32 + 2#32))) real.gdtr.base s1 = .ok () s2)
      ∧ (∃ lim s1 b s2, readLoc .w16 bxLoc real = .ok lim s1
          ∧ readLoc .w32 (.mem .ds (truncW real.asz (0x200#32 + 2#32))) s1 = .ok b s2)
      ∧ (∃ s1, writeLoc .w16 bxLoc real.cr0 real = .ok () s1) ∧ real.locOf (.reg .edx) = some (.reg .edx)
      ∧ (∃ v s1, readLoc .w16 bxLoc real = .ok v s1) :=
  ⟨rfl, rfl, ⟨_, _, finished (by decide +kernel), finished (by decide +kernel)⟩,
    ⟨_, _, _, _, ran (by decide +kernel), ran (by decide +kernel)⟩, ⟨_, finished (by decide +kernel)⟩, rfl,
    _, _, ran (by decide +kernel)⟩

/-- LLDT of a null selector and of an LDT, LTR of a TSS. -/
theorem witness_SystemRegistersComplete_tables :
    prot.pe = true ∧ prot.cpl = 0#2 ∧ (selects 0x38#32).locOf (.reg .edx) = some (.reg .edx)
      ∧ (∃ s1, readLoc .w16 (.reg .edx) (selects 3#32) = .ok 3#32 s1)
      ∧ ((3#32 : W32).setWidth 16 : W16) &&& 0xFFFC#16 = 0#16
      ∧ (∃ s1 s2, readLoc .w16 (.reg .edx) (selects 0x38#32) = .ok 0x38#32 s1
          ∧ descRead 0x38#16 s1 = .ok (some { e1 := 7#32, e2 := 0x00008203#32, addr := 0x1038#32 }) s2)
      ∧ ∃ s1 s2 s3, readLoc .w16 (.reg .edx) (selects 0x30#32) = .ok 0x30#32 s1
          ∧ descRead 0x30#16 s1 = .ok (some { e1 := 0x67#32, e2 := 0x00008902#32, addr := 0x1030#32 }) s2
          ∧ sysWrite (0x1030#32 + 4#32) 4 (0x00008902#32 ||| 0x200#32) s2 = .ok () s3 :=
  ⟨rfl, rfl, rfl, ⟨_, rfl⟩, by decide, ⟨_, _, rfl, answered (by decide +kernel)⟩,
    _, _, _, rfl, answered (by decide +kernel), finished (by decide +kernel)⟩

/-- The selectors LLDT and LTR refuse. -/
theorem witness_SystemRegistersComplete_faults :
    (0x3C#16).getLsbD 2 = true ∧ (0x38#16).getLsbD 2 = false
      ∧ (∃ s1 s2, readLoc .w16 (.reg .edx) (selects 0x60#32) = .ok 0x60#32 s1 ∧ descRead 0x60#16 s1 = .ok none s2)
      ∧ descReads (selects 0x10#32) 0x10#16 (fun d => d.e2.getLsbD 12)
      ∧ descReads (selects 0x50#32) 0x50#16 (fun d => !d.e2.getLsbD 12 && !List.contains [2#4, 1#4, 9#4] (typeOf d.e2))
      ∧ descReads (putBytes prot 0x103D [2#8]) 0x38#16
          (fun d => !d.e2.getLsbD 12 && typeOf d.e2 == 2#4 && !d.e2.getLsbD 15) :=
  ⟨by decide, by decide, ⟨_, _, rfl, answered (by decide +kernel)⟩, descReads_of (by decide +kernel),
    descReads_of (by decide +kernel), descReads_of (by decide +kernel)⟩

theorem witness_DescriptorQueriesComplete :
    real.pe = false ∧ prot.pe = true ∧ (selects 3#32).locOf (.reg .edx) = some (.reg .edx)
      ∧ (∃ s1, readLoc .w16 (.reg .edx) (selects 3#32) = .ok 3#32 s1)
      ∧ (∃ s1 s2, readLoc .w16 (.reg .edx) (selects 0x60#32) = .ok 0x60#32 s1 ∧ descRead 0x60#16 s1 = .ok none s2)
      ∧ (∃ s1 s2, readLoc .w16 (.reg .edx) (selects 0x10#32) = .ok 0x10#32 s1
          ∧ descRead 0x10#16 s1 = .ok (some data0) s2)
      ∧ (∃ s1 s2, readLocW .w16 (.reg .edx) (selects 8#32) = .ok { val := 8#32, places := [] } s1
          ∧ ((8#32 : W32).extractLsb' 0 2 : BitVec 2).ult (((3#32 : W32)).extractLsb' 0 2) = true
          ∧ writeBack .w16 (.reg .edx) { val := 8#32, places := [] } ((8#32 &&& 0xFFFC#32) ||| (3#32 &&& 3#32)) s1 = .ok () s2)
      ∧ ((8#32 : W32).extractLsb' 0 2 : BitVec 2).ult ((8#32 : W32).extractLsb' 0 2) = false :=
  ⟨rfl, rfl, rfl, ⟨_, rfl⟩, ⟨_, _, rfl, answered (by decide +kernel)⟩, ⟨_, _, rfl, answered (by decide +kernel)⟩,
    ⟨_, _, rfl, by decide, rfl⟩, by decide⟩

/-- Forms that end decoding, each well formed. -/
theorem witness_PrefixesAndUnadmittedOpcodes :
    Instr.udD6 ∈ notAdmitted
      ∧ (∀ q : Reg, Rm.ind32 .eax .none ≠ .reg q) ∧ (∀ q : Reg, Rm.cut 1#2 2#3 ≠ .reg q)
      ∧ WellFormed mode32 (.jmpM (.reg .eax)) = true ∧ WellFormed mode32 (.boundRvM .ecx (.reg .eax)) = true
      ∧ WellFormed mode32 (.movR32Cr (.reg .eax) 1#3) = true ∧ WellFormed mode32 (.movCrR32 3#3 (.cut 1#2 2#3)) = true
      ∧ WellFormed mode32 (.movDrR32 1#3 (.cut 0#2 0#3)) = true
      ∧ WellFormed mode32 (.movSregRm16 7#3 (.cut 3#2 0#3)) = true := by
  refine ⟨by decide +kernel, ?_, ?_, ?_⟩
  · intro q h; cases h
  · intro q h; cases h
  · decide +kernel

end Sys2Proof.Tests
end

section
/-! The state: the general registers and their parts (R42), and the machine that has aborted (R85). -/

namespace Sys2Proof.Machine

/-! ### The parts of a register -/

/-- Truncation to a width keeps the bits under the width's mask. -/
theorem truncW_eq_and (w : Width) (v : W32) : truncW w v = v &&& BitVec.ofNat 32 (2 ^ w.bits - 1) := by
  have hmask : 2 ^ w.bits - 1 < 2 ^ 32 := by cases w <;> decide
  have hlt : v.toNat % 2 ^ w.bits < 2 ^ 32 := (Nat.mod_le _ _).trans_lt v.isLt
  apply BitVec.eq_of_toNat_eq
  rw [truncW, BitVec.toNat_setWidth, BitVec.toNat_setWidth, Nat.mod_eq_of_lt hlt, BitVec.toNat_and,
    BitVec.toNat_ofNat, Nat.mod_eq_of_lt hmask, Nat.and_two_pow_sub_one_eq_mod]

/-- A 16-bit operand is bits 15:0 of its register. -/
theorem Regs.read_w16 (g : Regs) (r : Reg) : g.read .w16 r = g.get r &&& 0x0000FFFF#32 :=
  truncW_eq_and .w16 (g.get r)

/-- An 8-bit operand is bits 15:8 of its home for AH, CH, DH and BH, and bits 7:0 for the others. -/
theorem Regs.read_w8 (g : Regs) (r : Reg) : g.read .w8 r =
    bif byteHigh r then (g.get (byteHome r) >>> 8) &&& 0xFF#32 else g.get (byteHome r) &&& 0xFF#32 := by
  rw [Regs.read]
  cases byteHigh r with
  | true => exact truncW_eq_and .w8 _
  | false => exact truncW_eq_and .w8 _

/-- A 16-bit write keeps bits 31:16 of the register. -/
theorem Regs.write_w16_get_self (g : Regs) (r : Reg) (v : W32) :
    (g.write .w16 r v).get r = (g.get r &&& 0xFFFF0000#32) ||| (v &&& 0x0000FFFF#32) := by
  rw [Regs.write, Regs.get_set_self, truncW_eq_and]
  rfl

/-- An 8-bit write keeps the 24 other bits of the home register. -/
theorem Regs.write_w8_get_home (g : Regs) (r : Reg) (v : W32) : (g.write .w8 r v).get (byteHome r) =
    bif byteHigh r then (g.get (byteHome r) &&& 0xFFFF00FF#32) ||| ((v &&& 0xFF#32) <<< 8)
    else (g.get (byteHome r) &&& 0xFFFFFF00#32) ||| (v &&& 0xFF#32) := by
  have htrunc : truncW .w8 v = v &&& 0xFF#32 := truncW_eq_and .w8 v
  rw [Regs.write, htrunc]
  cases byteHigh r with
  | true => exact Regs.get_set_self g (byteHome r) _
  | false => exact Regs.get_set_self g (byteHome r) _

/-- Settles O5, by what a read and a write do at each width; `Regs.write_get_other` is the frame. -/
theorem registerPartsAlias : Obligations.RegisterPartsAlias := by
  intro g r v
  exact ⟨Regs.read_w32 g r, Regs.read_w16 g r, Regs.read_w8 g r, Regs.get_set_self g r v,
    Regs.write_w16_get_self g r v, Regs.write_w8_get_home g r v,
    fun q hq => ⟨Regs.write_get_other g .w32 r q v hq, Regs.write_get_other g .w16 r q v hq⟩,
    fun q hq => Regs.write_get_other g .w8 r q v hq⟩

/-! ### The aborted machine -/

/-- A step of an aborted machine is the fault that names the reason (R85, log entry 7). -/
theorem step_of_aborted {s : State} {r : AbortReason} (h : s.aborted = some r) : step s = .fault (.aborted r) := by
  rw [step, h]

/-- Settles O22: the step is a fault, so it is no next state. -/
theorem abortedMachineMakesNoStep : Obligations.AbortedMachineMakesNoStep := by
  intro s r h t hstep
  rw [step_of_aborted h] at hstep
  cases hstep

end Sys2Proof.Machine
end

section
/-! The moves between registers (R303, R310 to R313, R335, R336): how a rule runs where it names a register, the flags or
the place of an r/m operand, and what each of these instructions leaves. -/

namespace Sys2Proof.Machine

/-! ### Running a rule over the registers and the operand's place -/

section
variable {β : Type}

@[simp] theorem run_bind_readReg (w : Width) (r : Reg) (f : W32 → M β) (s : State) :
    (readReg w r >>= f) s = f (s.regs.read w r) s := rfl
@[simp] theorem run_bind_writeReg (w : Width) (r : Reg) (v : W32) (f : Unit → M β) (s : State) :
    (writeReg w r v >>= f) s = f () (s.setReg w r v) := rfl
@[simp] theorem run_bind_updCc (g : CC → CC) (f : Unit → M β) (s : State) :
    (updCc g >>= f) s = f () (s.setCc (g s.cc)) := rfl
@[simp] theorem run_advance (s : State) : advance s = .ok () (s.setPc s.nextpc) := rfl

end

/-- The place of an r/m operand is found without a change of the state. -/
theorem locate_of_locOf {s : State} {rm : Rm} {l : Loc} (h : s.locOf rm = some l) : locate rm s = .ok l s := by
  simp only [locate, run_bind_get, h, run_pure]

/-- A memory-only operand that is in memory is the segment and offset of its place. -/
theorem locateMem_of_mem {s : State} {rm : Rm} {seg : Sreg} {off : W32} (h : s.locOf rm = some (.mem seg off)) :
    locateMem rm s = .ok (seg, off) s := run_bind_ok (locate_of_locOf h)

/-- A memory-only operand that is a register raises the invalid-opcode exception (R241). -/
theorem locateMem_of_reg {s : State} {rm : Rm} {p : Reg} (h : s.locOf rm = some (.reg p)) :
    locateMem rm s = .error (.raise .ud) s := run_bind_ok (locate_of_locOf h)

/-! ### The moves -/

/-- A rule that ends by writing one register changes that register and pc alone. -/
theorem complete_writeReg_advance {m : M Unit} {s : State} {w : Width} {r : Reg} {v : W32}
    (h : m s = (do writeReg w r v; advance) s) :
    complete m s = .next { s with regs := s.regs.write w r v, pc := s.nextpc } :=
  complete_ok (h.trans (by rw [run_bind_writeReg, run_advance]; rfl))

/-- LEA of a memory operand is a write of the offset. -/
theorem loadEffAddr_of_mem {s : State} {rm : Rm} {seg : Sreg} {off : W32} (w : Width) (r : Reg)
    (h : s.locOf rm = some (.mem seg off)) : loadEffAddr w r rm s = (do writeReg w r off; advance) s := by
  rw [loadEffAddr, run_bind_ok (locateMem_of_mem h)]

/-- LEA of a register raises the invalid-opcode exception before it writes. -/
theorem loadEffAddr_of_reg {s : State} {rm : Rm} {p : Reg} (w : Width) (r : Reg) (h : s.locOf rm = some (.reg p)) :
    loadEffAddr w r rm s = .error (.raise .ud) s := by
  rw [loadEffAddr, run_bind_error (locateMem_of_reg h)]

/-- XCHG with the accumulator: both registers are read before either is written. -/
theorem complete_exchangeAcc (s : State) (w : Width) (q : Reg) :
    complete (exchangeAcc w q) s = .next { s with
      regs := (s.regs.write w .eax (s.regs.read w q)).write w q (s.regs.read w .eax), pc := s.nextpc } := by
  apply complete_ok
  simp only [exchangeAcc, run_bind_readReg, run_bind_writeReg, run_advance]
  rfl

/-- Each of the opcodes 91 to 97 is the exchange with the register it names. -/
theorem exec_xchgEax {i : Instr} {q : Reg} (s : State)
    (h : (i, q) ∈ [(.xchgEaxEcx, .ecx), (.xchgEaxEdx, .edx), (.xchgEaxEbx, .ebx), (.xchgEaxEsp, .esp),
      (.xchgEaxEbp, .ebp), (.xchgEaxEsi, .esi), (.xchgEaxEdi, .edi)]) :
    exec i s = complete (exchangeAcc s.osz q) s := by
  simp only [List.mem_cons, Prod.mk.injEq, List.not_mem_nil, or_false] at h
  rcases h with ⟨rfl, rfl⟩ | ⟨rfl, rfl⟩ | ⟨rfl, rfl⟩ | ⟨rfl, rfl⟩ | ⟨rfl, rfl⟩ | ⟨rfl, rfl⟩ | ⟨rfl, rfl⟩ <;> rfl

/-- CBW reads AL and CWDE reads AX: the width of the read follows the operand size. -/
theorem execCbw_eq (s : State) : execCbw s = .next { s with
    regs := s.regs.write s.osz .eax
      (bif s.osz == .w32 then sextW .w16 (s.regs.read .w16 .eax) else sextW .w8 (s.regs.read .w8 .eax)),
    pc := s.nextpc } := by
  rw [execCbw]
  apply complete_writeReg_advance
  rw [run_bind_readReg]
  cases s.osz == .w32 with
  | true => simp only [cond_true]
  | false => simp only [cond_false]

/-- CWD and CDQ copy the sign of the accumulator over the data register. -/
theorem execCwd_eq (s : State) : execCwd s = .next { s with
    regs := s.regs.write s.osz .edx (bif msbW s.osz (s.regs.read s.osz .eax) then 0xFFFFFFFF#32 else 0#32),
    pc := s.nextpc } :=
  complete_writeReg_advance (run_bind_readReg _ _ _ _)

/-- LAHF: register 4 at width 8 is AH (R42), and it takes bits 7 to 0 of the EFLAGS image. -/
theorem execLahf_eq (s : State) : execLahf s = .next { s with
    regs := s.regs.write .w8 .esp (flagsRead s &&& 0xFF#32), pc := s.nextpc } := by
  have hlow : truncW .w8 (flagsRead s) = flagsRead s &&& 0xFF#32 := truncW_eq_and .w8 _
  rw [← hlow]
  exact complete_writeReg_advance rfl

/-- SAHF sets the flags from AH and keeps OF; no register changes. -/
theorem execSahf_eq (s : State) : execSahf s = .next { s with
    cc := s.cc.setImage ((s.cc.image &&& 0x800#32) ||| (s.regs.read .w8 .esp &&& 0xD5#32)), pc := s.nextpc } := by
  apply complete_ok
  rw [run_bind_readReg, run_bind_updCc, run_advance]
  rfl

/-- Settles O45, instruction by instruction: all but XCHG, SAHF and the fault of LEA end by writing one register
(`complete_writeReg_advance`). -/
theorem registerMovesComplete : Obligations.RegisterMovesComplete := by
  intro s r q ib iv rm i put
  refine ⟨complete_writeReg_advance rfl, complete_writeReg_advance rfl, fun seg off hmem => ?lea, fun p hreg => ?leaReg,
    fun hform => ?xchg, execCbw_eq s, execCwd_eq s, execLahf_eq s, execSahf_eq s⟩
  case lea => exact complete_writeReg_advance (loadEffAddr_of_mem s.osz r hmem)
  case leaReg => exact complete_raise (loadEffAddr_of_reg s.osz r hreg)
  case xchg => rw [exec_xchgEax s hform, complete_exchangeAcc]

end Sys2Proof.Machine
end

section
/-! The operation behind each instruction: what `exec` answers is the end of a rule, and the rules are few. A property of
every instruction is then proved once for each operation (R660, R700). -/

namespace Sys2Proof.Machine

/-! ### The rules -/

/-- A source operand: a register, an r/m operand or an immediate (R230, R237). -/
inductive Source : M W32 → Prop where
  | reg (w : Width) (r : Reg) : Source (readReg w r)
  | rm (w : Width) (rm : Rm) : Source (readRm w rm)
  | imm (v : W32) : Source (pure v)

/-- The word and the bit a bit instruction acts on (R414). -/
inductive BitPlace : M (Loc × Nat) → Prop where
  | byImm (w : Width) (rm : Rm) (ib : Byte) : BitPlace (bitByImm w rm ib)
  | byReg (w : Width) (rm : Rm) (r : Reg) : BitPlace (bitByReg w rm r)

/-- One element of a string instruction (R482 to R486, R504, R505). -/
inductive StringElem : M Unit → Prop where
  | movs (w : Width) : StringElem (movsElem w)
  | cmps (w : Width) : StringElem (cmpsElem w)
  | stos (w : Width) : StringElem (stosElem w)
  | lods (w : Width) : StringElem (lodsElem w)
  | scas (w : Width) : StringElem (scasElem w)
  | ins (w : Width) : StringElem (insElem w)
  | outs (w : Width) : StringElem (outsElem w)

/-- The rules of the instructions below the system ones, one constructor for each shared operation. -/
inductive CoreRule : M Unit → Prop where
  | aluToRm (op : AluOp) (w : Width) (rm : Rm) {src : M W32} (h : Source src) : CoreRule (aluToRm op w rm src)
  | aluToReg (op : AluOp) (w : Width) (r : Reg) {src : M W32} (h : Source src) : CoreRule (aluToReg op w r src)
  | testWith (w : Width) {x y : M W32} (hx : Source x) (hy : Source y) : CoreRule (testWith w x y)
  | incDecLoc (f : Family) (w : Width) (l : Loc) : CoreRule (incDecLoc f w l)
  | incDecRm (f : Family) (w : Width) (rm : Rm) : CoreRule (incDecRm f w rm)
  | negate (w : Width) (rm : Rm) : CoreRule (negate w rm)
  | complement (w : Width) (rm : Rm) : CoreRule (complement w rm)
  | mulUnsigned (w : Width) (rm : Rm) : CoreRule (mulUnsigned w rm)
  | mulSigned (w : Width) (rm : Rm) : CoreRule (mulSigned w rm)
  | mulInto (w : Width) (r : Reg) {x y : M W32} (hx : Source x) (hy : Source y) : CoreRule (mulInto w r x y)
  | divUnsigned (w : Width) (rm : Rm) : CoreRule (divUnsigned w rm)
  | divSigned (w : Width) (rm : Rm) : CoreRule (divSigned w rm)
  | decimalAdjust (isSub : Bool) : CoreRule (decimalAdjust isSub)
  | asciiAdjust (isSub : Bool) : CoreRule (asciiAdjust isSub)
  | asciiMul (base : Byte) : CoreRule (asciiMul base)
  | asciiDiv (base : Byte) : CoreRule (asciiDiv base)
  | compareExchange (w : Width) (rm : Rm) (r : Reg) : CoreRule (compareExchange w rm r)
  | exchangeAdd (w : Width) (rm : Rm) (r : Reg) : CoreRule (exchangeAdd w rm r)
  | exchange (w : Width) (rm : Rm) (r : Reg) : CoreRule (exchange w rm r)
  | exchangeAcc (w : Width) (r : Reg) : CoreRule (exchangeAcc w r)
  | shiftRm (op : ShiftOp) (w : Width) (rm : Rm) {count : M W32} (h : Source count) : CoreRule (shiftRm op w rm count)
  | doubleShift (left : Bool) (w : Width) (rm : Rm) (r : Reg) {count : M W32} (h : Source count) :
      CoreRule (doubleShift left w rm r count)
  | bitTest (w : Width) {place : M (Loc × Nat)} (h : BitPlace place) : CoreRule (bitTest w place)
  | bitModify (op : BitOp) (w : Width) {place : M (Loc × Nat)} (h : BitPlace place) : CoreRule (bitModify op w place)
  | bitScan (pick : W32 → Nat) (w : Width) (r : Reg) (rm : Rm) : CoreRule (bitScan pick w r rm)
  | moveTo (w : Width) (rm : Rm) {v : M W32} (h : Source v) : CoreRule (moveTo w rm v)
  | moveFrom (wd : Width) (r : Reg) (ws : Width) (rm : Rm) (conv : W32 → W32) : CoreRule (moveFrom wd r ws rm conv)
  | loadMoffs (w : Width) (ia : ImmV) : CoreRule (loadMoffs w ia)
  | storeMoffs (w : Width) (ia : ImmV) : CoreRule (storeMoffs w ia)
  | loadEffAddr (w : Width) (r : Reg) (rm : Rm) : CoreRule (loadEffAddr w r rm)
  | translateByte : CoreRule translateByte
  | condMove (w : Width) (c : Cond) (r : Reg) (rm : Rm) : CoreRule (condMove w c r rm)
  | condSet (c : Cond) (rm : Rm) : CoreRule (condSet c rm)
  | writeReg (w : Width) (r : Reg) (v : W32) : CoreRule (do writeReg w r v; advance)
  | regToReg (ws : Width) (q : Reg) (wd : Width) (r : Reg) (f : W32 → W32) :
      CoreRule (do let v ← readReg ws q; Machine.writeReg wd r (f v); advance)
  | setRegs (f : Regs → Regs) : CoreRule (do upd fun s => s.setRegs (f s.regs); advance)
  | pushValue (w : Width) {v : M W32} (h : Source v) : CoreRule (pushValue w v)
  | push (w : Width) (v : W32) : CoreRule (do push w v; advance)
  | pushAll (w : Width) : CoreRule (pushAll w)
  | pushSelector (w : Width) (n : Sreg) : CoreRule (pushSelector w n)
  | popReg (w : Width) (r : Reg) : CoreRule (popReg w r)
  | popRm (w : Width) (rm : Rm) : CoreRule (popRm w rm)
  | popAll (w : Width) : CoreRule (popAll w)
  | popFlags (w : Width) (s : State) :
      CoreRule (do let v ← pop w; upd fun t => flagsWrite t v (popfMask s); advance)
  | popSelector (w : Width) {n : Sreg} (h1 : n ≠ .ldtr) (h2 : n ≠ .tr) : CoreRule (popSelector w n)
  | loadFarPointer (w : Width) {n : Sreg} (r : Reg) (rm : Rm) (h1 : n ≠ .ldtr) (h2 : n ≠ .tr) :
      CoreRule (loadFarPointer w n r rm)
  | storeSelector (w : Width) (rm : Rm) (n : Sreg) : CoreRule (storeSelector w rm n)
  | branchIf (c : Bool) (d : W32) : CoreRule (branchIf c d)
  | jumpRm (w : Width) (rm : Rm) : CoreRule (do let t ← readRm w rm; jumpTo t)
  | callNear (w : Width) {target : M W32} (h : Source target) : CoreRule (callNear w target)
  | retNear (w : Width) (imm : W32) : CoreRule (retNear w imm)
  | countLoop (test : Bool → Bool) (d : W32) : CoreRule (countLoop test d)
  | enterFrame (w : Width) (size : W32) (lvl : Byte) : CoreRule (enterFrame w size lvl)
  | leaveFrame (w : Width) : CoreRule (leaveFrame w)
  | softInterrupt (v : Byte) : CoreRule (softInterrupt v)
  | interruptIf (c : Bool) (v : Byte) : CoreRule (bif c then Machine.softInterrupt v else advance)
  | boundCheck (w : Width) (r : Reg) (rm : Rm) : CoreRule (boundCheck w r rm)
  | repeated (isCompare : Bool) {elem : M Unit} (h : StringElem elem) : CoreRule (repeated isCompare elem)
  | portIn (w : Width) (port : W16) : CoreRule (portIn w port)
  | portOut (w : Width) (port : W16) : CoreRule (portOut w port)
  | farJump (sel : W16) (off : W32) : CoreRule (farJump sel off)
  | farJumpM (w : Width) (rm : Rm) : CoreRule (do let p ← readFarPointer w rm; Machine.farJump p.1 p.2)
  | farCall (w : Width) (sel : W16) (off : W32) : CoreRule (farCall w sel off)
  | farCallM (w : Width) (rm : Rm) : CoreRule (do let p ← readFarPointer w rm; Machine.farCall w p.1 p.2)
  | farReturn (w : Width) (imm : W32) : CoreRule (farReturn w imm)
  | returnFromException : CoreRule returnFromException
  | changeFlags (f : W32 → W32) : CoreRule (do updCc fun c => c.setImage (f c.image); advance)
  | flagsFrom (w : Width) (r : Reg) (f : W32 → W32 → W32) :
      CoreRule (do let v ← readReg w r; updCc fun c => c.setImage (f v c.image); advance)
  | setDf (b : Bool) : CoreRule (do upd fun s => s.setDf b; advance)
  | clearIf : CoreRule (do ioCheck; upd fun s => s.setSys (s.eflagsSys &&& ~~~0x00000200#32); advance)
  | setIf : CoreRule (do ioCheck; upd fun s => s.setSys (s.eflagsSys ||| 0x00000200#32); advance)
  | advance : CoreRule advance
  | raise (e : Exc) : CoreRule (raise e)
  | check (c : Bool) (e : Exc) : CoreRule (do raiseIf c e; Machine.advance)
  | timeStamp (c : Bool) (e : Exc) (n : BitVec 64) :
      CoreRule (do
        raiseIf c e
        Machine.writeReg .w32 .eax (n.extractLsb' 0 32)
        Machine.writeReg .w32 .edx (n.extractLsb' 32 32)
        Machine.advance)
  | privileged : CoreRule (do privileged; Machine.advance)
  | writeDebug (rm : Rm) : CoreRule (do let _ ← locateReg rm; Machine.privileged; Machine.advance)
  | readControl (rm : Rm) (n : BitVec 3) : CoreRule (readControl rm n)
  | storeTable (rm : Rm) (t : TableReg) : CoreRule (storeTable rm t)
  | storeWord (w : Width) (rm : Rm) (v : W32) : CoreRule (do storeWord w rm v; Machine.advance)
  | protStoreSelector (w : Width) (rm : Rm) (n : Sreg) : CoreRule (do protectedOnly; Machine.storeSelector w rm n)
  | verify (test : BitVec 2 → W16 → W32 → Bool) (rm : Rm) : CoreRule (do protectedOnly; verify test rm)
  | adjustRpl (rm : Rm) (r : Reg) : CoreRule (do protectedOnly; adjustRpl rm r)
  | loadDescInfo (w : Width) (r : Reg) (rm : Rm) (types : BitVec 4 → Bool) (info : Desc → W32) :
      CoreRule (do protectedOnly; loadDescInfo w r rm types info)

/-- The rules of the instructions that write the control state, each behind the test of the level (R600, R691). -/
inductive SystemRule : M Unit → Prop where
  | halt : SystemRule (do privileged; upd fun s => s.setHalted true; advance)
  | clearTs : SystemRule (do privileged; upd fun s => s.setCr0 (s.cr0 &&& ~~~0x8#32); advance)
  | loadMsw (w : Width) (rm : Rm) :
      SystemRule (do
        privileged
        let v ← readRm w rm
        upd fun s => s.writeCr0 ((s.cr0 &&& 0xFFFFFFF0#32) ||| (v &&& 0xE#32) ||| ((s.cr0 ||| v) &&& 1#32))
        advance)
  | loadLdtr (rm : Rm) : SystemRule (do protectedOnly; privileged; loadLdtr rm)
  | loadTr (rm : Rm) : SystemRule (do protectedOnly; privileged; loadTr rm)
  | loadGdtr (w : Width) (rm : Rm) : SystemRule (loadTable w rm State.setGdtr)
  | loadIdtr (w : Width) (rm : Rm) : SystemRule (loadTable w rm State.setIdtr)
  | writeControl (rm : Rm) (n : BitVec 3) : SystemRule (writeControl rm n)
  | flushPage (rm : Rm) :
      SystemRule (do
        let (seg, off) ← locateMem rm
        privileged
        upd fun s => s.tlbFlushPage (vpnOf (s.lin seg off))
        advance)

/-- MOV Sreg, r/m16: the one rule whose segment register is a number of the encoding (R562). -/
def loadSelector (n : Sreg) (rm : Rm) : M Unit := do
  let v ← readRm .w16 rm
  loadSeg n (v.setWidth 16)
  advance

/-- All that an instruction's answer can be: the end of one of the rules, or a change of the decode state, which
leaves the length count as it was (R222, R660). -/
inductive ExecForm (i : Instr) (s : State) (answer : Answer) : Prop where
  | core {m : M Unit} (he : answer = complete m s) (h : CoreRule m)
  | system {m : M Unit} (he : answer = complete m s) (h : SystemRule m)
  | loadSelector (n : BitVec 3) (rm : Rm) (hi : i = .movSregRm16 n rm)
      (he : answer = complete (loadSelector (Sreg.ofNum n) rm) s)
  | pfx {d : DecodeState} (hi : i.isPfx = true) (he : answer = .next (s.setDec d)) (hd : d.len = s.dec.len)

/-- Every constructor's meaning is one of the rules. -/
theorem execForm (i : Instr) (s : State) : ExecForm i s (exec i s) := by
  cases i with
  | addRm8R8 | addRmvRv | orRm8R8 | orRmvRv | adcRm8R8 | adcRmvRv | sbbRm8R8 | sbbRmvRv | andRm8R8 | andRmvRv
  | subRm8R8 | subRmvRv | xorRm8R8 | xorRmvRv | cmpRm8R8 | cmpRmvRv =>
    exact .core rfl (.aluToRm _ _ _ (.reg _ _))
  | addR8Rm8 | addRvRmv | orR8Rm8 | orRvRmv | adcR8Rm8 | adcRvRmv | sbbR8Rm8 | sbbRvRmv | andR8Rm8 | andRvRmv
  | subR8Rm8 | subRvRmv | xorR8Rm8 | xorRvRmv | cmpR8Rm8 | cmpRvRmv =>
    exact .core rfl (.aluToReg _ _ _ (.rm _ _))
  | addAlImm8 | addEaxImmv => exact .core rfl (.aluToReg .addOp _ _ (.imm _))
  | orAlImm8 | orEaxImmv => exact .core rfl (.aluToReg .orOp _ _ (.imm _))
  | adcAlImm8 | adcEaxImmv => exact .core rfl (.aluToReg .adcOp _ _ (.imm _))
  | sbbAlImm8 | sbbEaxImmv => exact .core rfl (.aluToReg .sbbOp _ _ (.imm _))
  | andAlImm8 | andEaxImmv => exact .core rfl (.aluToReg .andOp _ _ (.imm _))
  | subAlImm8 | subEaxImmv => exact .core rfl (.aluToReg .subOp _ _ (.imm _))
  | xorAlImm8 | xorEaxImmv => exact .core rfl (.aluToReg .xorOp _ _ (.imm _))
  | cmpAlImm8 | cmpEaxImmv => exact .core rfl (.aluToReg .cmpOp _ _ (.imm _))
  | pushRv => exact .core rfl (.pushValue _ (.reg _ _))
  | popRv => exact .core rfl (.popReg _ _)
  | boundRvM => exact .core rfl (.boundCheck _ _ _)
  | arplRm16R16 => exact .core rfl (.adjustRpl _ _)
  | pushImmv | pushImm8 => exact .core rfl (.pushValue _ (.imm _))
  | imulRvRmvImmv | imulRvRmvImm8 => exact .core rfl (.mulInto _ _ (.rm _ _) (.imm _))
  | jccRel8 | jcxzRel8 | jmpRelv | jmpRel8 | jccRelv => exact .core rfl (.branchIf _ _)
  | addRm8Imm8 | orRm8Imm8 | adcRm8Imm8 | sbbRm8Imm8 | andRm8Imm8 | subRm8Imm8 | xorRm8Imm8 | cmpRm8Imm8
  | addRmvImmv | orRmvImmv | adcRmvImmv | sbbRmvImmv | andRmvImmv | subRmvImmv | xorRmvImmv | cmpRmvImmv
  | addRmvImm8 | orRmvImm8 | adcRmvImm8 | sbbRmvImm8 | andRmvImm8 | subRmvImm8 | xorRmvImm8 | cmpRmvImm8 =>
    exact .core rfl (.aluToRm _ _ _ (.imm _))
  | testRm8R8 | testRmvRv => exact .core rfl (.testWith _ (.rm _ _) (.reg _ _))
  | xchgRm8R8 | xchgRmvRv => exact .core rfl (.exchange _ _ _)
  | movRm8R8 | movRmvRv => exact .core rfl (.moveTo _ _ (.reg _ _))
  | movR8Rm8 | movRvRmv | movzxRvRm8 | movzxRvRm16 | movsxRvRm8 | movsxRvRm16 =>
    exact .core rfl (.moveFrom _ _ _ _ _)
  | movRm16Sreg => exact .core rfl (.storeSelector _ _ _)
  | leaRvM => exact .core rfl (.loadEffAddr _ _ _)
  | movSregRm16 n rm => exact .loadSelector n rm rfl rfl
  | popRmv => exact .core rfl (.popRm _ _)
  | callPtr => exact .core rfl (.farCall _ _ _)
  | movAlMoffs | movEaxMoffs => exact .core rfl (.loadMoffs _ _)
  | movMoffsAl | movMoffsEax => exact .core rfl (.storeMoffs _ _)
  | testAlImm8 | testEaxImmv => exact .core rfl (.testWith _ (.reg _ _) (.imm _))
  | movR8Imm8 | movRvImmv | lahf => exact .core rfl (.writeReg _ _ _)
  | rolRm8Imm8 | rorRm8Imm8 | rclRm8Imm8 | rcrRm8Imm8 | shlRm8Imm8 | shrRm8Imm8 | salRm8Imm8 | sarRm8Imm8
  | rolRmvImm8 | rorRmvImm8 | rclRmvImm8 | rcrRmvImm8 | shlRmvImm8 | shrRmvImm8 | salRmvImm8 | sarRmvImm8
  | rolRm8One | rorRm8One | rclRm8One | rcrRm8One | shlRm8One | shrRm8One | salRm8One | sarRm8One | rolRmvOne
  | rorRmvOne | rclRmvOne | rcrRmvOne | shlRmvOne | shrRmvOne | salRmvOne | sarRmvOne =>
    exact .core rfl (.shiftRm _ _ _ (.imm _))
  | rolRm8Cl | rorRm8Cl | rclRm8Cl | rcrRm8Cl | shlRm8Cl | shrRm8Cl | salRm8Cl | sarRm8Cl | rolRmvCl | rorRmvCl
  | rclRmvCl | rcrRmvCl | shlRmvCl | shrRmvCl | salRmvCl | sarRmvCl =>
    exact .core rfl (.shiftRm _ _ _ (.reg _ _))
  | retImm16 | ret => exact .core rfl (.retNear _ _)
  | lesRvM | ldsRvM | lssRvM | lfsRvM | lgsRvM => exact .core rfl (.loadFarPointer _ _ _ (by decide) (by decide))
  | movRm8Imm8 | movRmvImmv => exact .core rfl (.moveTo _ _ (.imm _))
  | enter => exact .core rfl (.enterFrame _ _ _)
  | retfImm16 | retf => exact .core rfl (.farReturn _ _)
  | intImm8 | int3 => exact .core rfl (.softInterrupt _)
  | aam => exact .core rfl (.asciiMul _)
  | aad => exact .core rfl (.asciiDiv _)
  | esc | fwait => exact .core rfl (.check _ _)
  | loopneRel8 => exact .core rfl (.countLoop (fun z => !z) _)
  | loopeRel8 => exact .core rfl (.countLoop (fun z => z) _)
  | loopRel8 => exact .core rfl (.countLoop (fun _ => true) _)
  | inAlImm8 | inEaxImm8 | inAlDx | inEaxDx => exact .core rfl (.portIn _ _)
  | outImm8Al | outImm8Eax | outDxAl | outDxEax => exact .core rfl (.portOut _ _)
  | callRelv => exact .core rfl (.callNear _ (.imm _))
  | jmpPtr => exact .core rfl (.farJump _ _)
  | testRm8Imm8 | testRmvImmv => exact .core rfl (.testWith _ (.rm _ _) (.imm _))
  | notRm8 | notRmv => exact .core rfl (.complement _ _)
  | negRm8 | negRmv => exact .core rfl (.negate _ _)
  | mulRm8 | mulRmv => exact .core rfl (.mulUnsigned _ _)
  | imulRm8 | imulRmv => exact .core rfl (.mulSigned _ _)
  | divRm8 | divRmv => exact .core rfl (.divUnsigned _ _)
  | idivRm8 | idivRmv => exact .core rfl (.divSigned _ _)
  | incRm8 | decRm8 | incRmv | decRmv => exact .core rfl (.incDecRm _ _ _)
  | callRmv => exact .core rfl (.callNear _ (.rm _ _))
  | callM => exact .core rfl (.farCallM _ _)
  | jmpRmv => exact .core rfl (.jumpRm _ _)
  | jmpM => exact .core rfl (.farJumpM _ _)
  | pushRmv => exact .core rfl (.pushValue _ (.rm _ _))
  | sldtRm16 | strRm16 => exact .core rfl (.protStoreSelector _ _ _)
  | lldtRm16 => exact .system rfl (.loadLdtr _)
  | ltrRm16 => exact .system rfl (.loadTr _)
  | verrRm16 | verwRm16 => exact .core rfl (.verify _ _)
  | sgdtM | sidtM => exact .core rfl (.storeTable _ _)
  | lgdtM => exact .system rfl (.loadGdtr _ _)
  | lidtM => exact .system rfl (.loadIdtr _ _)
  | smswRm16 => exact .core rfl (.storeWord _ _ _)
  | lmswRm16 => exact .system rfl (.loadMsw _ _)
  | invlpgM => exact .system rfl (.flushPage _)
  | larRvRm16 | lslRvRm16 => exact .core rfl (.loadDescInfo _ _ _ _ _)
  | movR32Cr => exact .core rfl (.readControl _ _)
  | movCrR32 => exact .system rfl (.writeControl _ _)
  | movDrR32 => exact .core rfl (.writeDebug _)
  | cmovRvRmv => exact .core rfl (.condMove _ _ _ _)
  | setccRm8 => exact .core rfl (.condSet _ _)
  | btRmvRv => exact .core rfl (.bitTest _ (.byReg _ _ _))
  | shldImm8 | shrdImm8 => exact .core rfl (.doubleShift _ _ _ _ (.imm _))
  | shldCl | shrdCl => exact .core rfl (.doubleShift _ _ _ _ (.reg _ _))
  | btsRmvRv | btrRmvRv | btcRmvRv => exact .core rfl (.bitModify _ _ (.byReg _ _ _))
  | imulRvRmv => exact .core rfl (.mulInto _ _ (.reg _ _) (.rm _ _))
  | cmpxchgRm8R8 | cmpxchgRmvRv => exact .core rfl (.compareExchange _ _ _)
  | btRmvImm8 => exact .core rfl (.bitTest _ (.byImm _ _ _))
  | btsRmvImm8 | btrRmvImm8 | btcRmvImm8 => exact .core rfl (.bitModify _ _ (.byImm _ _ _))
  | bsfRvRmv | bsrRvRmv => exact .core rfl (.bitScan _ _ _ _)
  | xaddRm8R8 | xaddRmvRv => exact .core rfl (.exchangeAdd _ _ _)
  | bswapR32 r => exact .core rfl (.regToReg .w32 r .w32 r swapBytes)
  | cbw => exact .core rfl (.regToReg _ .eax _ .eax fun v => bif s.osz == .w32 then sextW .w16 v else sextW .w8 v)
  | cwd => exact .core rfl (.regToReg _ .eax _ .edx fun v => bif msbW s.osz v then 0xFFFFFFFF#32 else 0#32)
  | pfxEs | pfxCs | pfxSs | pfxDs | pfxFs | pfxGs | pfxOpsize | pfxAddrsize | pfxRepne | pfxRep | pfxLock =>
    exact .pfx rfl rfl rfl
  | pushEs | pushCs | pushSs | pushDs | pushFs | pushGs => exact .core rfl (.pushSelector _ _)
  | popEs | popSs | popDs | popFs | popGs => exact .core rfl (.popSelector _ (by decide) (by decide))
  | daa | das => exact .core rfl (.decimalAdjust _)
  | aaa | aas => exact .core rfl (.asciiAdjust _)
  | incEax | incEcx | incEdx | incEbx | incEsp | incEbp | incEsi | incEdi =>
    exact .core rfl (.incDecLoc .inc s.osz (.reg _))
  | decEax | decEcx | decEdx | decEbx | decEsp | decEbp | decEsi | decEdi =>
    exact .core rfl (.incDecLoc .dec s.osz (.reg _))
  | pusha => exact .core rfl (.pushAll _)
  | popa => exact .core rfl (.popAll _)
  | insb | insv => exact .core rfl (.repeated _ (.ins _))
  | outsb | outsv => exact .core rfl (.repeated _ (.outs _))
  | nop => exact .core rfl .advance
  | xchgEaxEcx | xchgEaxEdx | xchgEaxEbx | xchgEaxEsp | xchgEaxEbp | xchgEaxEsi | xchgEaxEdi =>
    exact .core rfl (.exchangeAcc _ _)
  | pushf => exact .core rfl (.push _ _)
  | popf => exact .core rfl (.popFlags _ _)
  | sahf => exact .core rfl (.flagsFrom _ _ fun ah c => (c &&& 0x800#32) ||| (ah &&& 0xD5#32))
  | movsb | movsv => exact .core rfl (.repeated _ (.movs _))
  | cmpsb | cmpsv => exact .core rfl (.repeated _ (.cmps _))
  | stosb | stosv => exact .core rfl (.repeated _ (.stos _))
  | lodsb | lodsv => exact .core rfl (.repeated _ (.lods _))
  | scasb | scasv => exact .core rfl (.repeated _ (.scas _))
  | leave => exact .core rfl (.leaveFrame _)
  | into => exact .core rfl (.interruptIf _ _)
  | iret => exact .core rfl .returnFromException
  | xlat => exact .core rfl .translateByte
  | hlt => exact .system rfl .halt
  | cmc => exact .core rfl (.changeFlags fun c => c ^^^ 0x001#32)
  | clc => exact .core rfl (.changeFlags fun c => c &&& ~~~0x001#32)
  | stc => exact .core rfl (.changeFlags fun c => c ||| 0x001#32)
  | cli => exact .core rfl .clearIf
  | sti => exact .core rfl .setIf
  | cld | std => exact .core rfl (.setDf _)
  | clts => exact .system rfl .clearTs
  | invd | wbinvd => exact .core rfl .privileged
  | rdtsc => exact .core rfl (.timeStamp _ _ _)
  | cpuid => exact .core rfl (.setRegs _)
  | udD6 | udF1 | udF6Ext1 | udF7Ext1 | udFEExt2 | udFEExt3 | udFEExt4 | udFEExt5 | udFEExt6 | udFEExt7 | udFFExt7
  | ud8FExt1 | ud8FExt2 | ud8FExt3 | ud8FExt4 | ud8FExt5 | ud8FExt6 | ud8FExt7 | udC6Ext1 | udC6Ext2 | udC6Ext3
  | udC6Ext4 | udC6Ext5 | udC6Ext6 | udC6Ext7 | udC7Ext1 | udC7Ext2 | udC7Ext3 | udC7Ext4 | udC7Ext5 | udC7Ext6
  | udC7Ext7 | ud0F00Ext6 | ud0F00Ext7 | ud0F01Ext5 | ud0FBAExt0 | ud0FBAExt1 | ud0FBAExt2 | ud0FBAExt3 | ud0F04
  | ud0F05 | ud0F07 | ud0F0A | ud0F0B | ud0F0C | ud0F0D | ud0F0E | ud0F0F | ud0F10 | ud0F11 | ud0F12 | ud0F13
  | ud0F14 | ud0F15 | ud0F16 | ud0F17 | ud0F18 | ud0F19 | ud0F1A | ud0F1B | ud0F1C | ud0F1D | ud0F1E | ud0F1F
  | ud0F21 | ud0F24 | ud0F25 | ud0F26 | ud0F27 | ud0F28 | ud0F29 | ud0F2A | ud0F2B | ud0F2C | ud0F2D | ud0F2E
  | ud0F2F | ud0F30 | ud0F32 | ud0F33 | ud0F34 | ud0F35 | ud0F36 | ud0F37 | ud0F38 | ud0F39 | ud0F3A | ud0F3B
  | ud0F3C | ud0F3D | ud0F3E | ud0F3F | ud0F50 | ud0F51 | ud0F52 | ud0F53 | ud0F54 | ud0F55 | ud0F56 | ud0F57
  | ud0F58 | ud0F59 | ud0F5A | ud0F5B | ud0F5C | ud0F5D | ud0F5E | ud0F5F | ud0F60 | ud0F61 | ud0F62 | ud0F63
  | ud0F64 | ud0F65 | ud0F66 | ud0F67 | ud0F68 | ud0F69 | ud0F6A | ud0F6B | ud0F6C | ud0F6D | ud0F6E | ud0F6F
  | ud0F70 | ud0F71 | ud0F72 | ud0F73 | ud0F74 | ud0F75 | ud0F76 | ud0F77 | ud0F78 | ud0F79 | ud0F7A | ud0F7B
  | ud0F7C | ud0F7D | ud0F7E | ud0F7F | ud0FA6 | ud0FA7 | ud0FAA | ud0FAE | ud0FB8 | ud0FB9 | ud0FC2 | ud0FC3
  | ud0FC4 | ud0FC5 | ud0FC6 | ud0FC7 | ud0FD0 | ud0FD1 | ud0FD2 | ud0FD3 | ud0FD4 | ud0FD5 | ud0FD6 | ud0FD7
  | ud0FD8 | ud0FD9 | ud0FDA | ud0FDB | ud0FDC | ud0FDD | ud0FDE | ud0FDF | ud0FE0 | ud0FE1 | ud0FE2 | ud0FE3
  | ud0FE4 | ud0FE5 | ud0FE6 | ud0FE7 | ud0FE8 | ud0FE9 | ud0FEA | ud0FEB | ud0FEC | ud0FED | ud0FEE | ud0FEF
  | ud0FF0 | ud0FF1 | ud0FF2 | ud0FF3 | ud0FF4 | ud0FF5 | ud0FF6 | ud0FF7 | ud0FF8 | ud0FF9 | ud0FFA | ud0FFB
  | ud0FFC | ud0FFD | ud0FFE | ud0FFF =>
    exact .core (m := raise .ud) rfl (.raise .ud)

end Sys2Proof.Machine
end

section
/-! What every instruction keeps: a property closed under the updates of the shared operations is kept by every rule, so
by every instruction's answer. -/

namespace Sys2Proof.Machine

variable {P : State → Prop}

theorem keeps_source (h : CoreClosed P) {m : M W32} (hm : Source m) : Keeps P m := by
  cases hm with
  | reg w r => exact keeps_readReg w r
  | rm w rm => exact keeps_readRm h.toWalkClosed w rm
  | imm v => exact keeps_pure v

theorem keeps_bitPlace {m : M (Loc × Nat)} (hm : BitPlace m) : Keeps P m := by
  cases hm with
  | byImm w rm ib => exact keeps_bitByImm w rm ib
  | byReg w rm r => exact keeps_bitByReg w rm r

theorem keeps_stringElem (h : CoreClosed P) {m : M Unit} (hm : StringElem m) : Keeps P m := by
  cases hm with
  | movs w => exact keeps_movsElem h w
  | cmps w => exact keeps_cmpsElem h w
  | stos w => exact keeps_stosElem h w
  | lods w => exact keeps_lodsElem h w
  | scas w => exact keeps_scasElem h w
  | ins w => exact keeps_insElem h w
  | outs w => exact keeps_outsElem h w

/-- A rule below the system instructions keeps every property closed under the updates a program makes. -/
theorem keeps_coreRule (h : CoreClosed P) {m : M Unit} (hm : CoreRule m) : Keeps P m := by
  have last := keeps_advance h
  have readRm (w : Width) (rm : Rm) : Keeps P (readRm w rm) := keeps_readRm h.toWalkClosed w rm
  cases hm with
  | aluToRm op w rm hs => exact keeps_aluToRm h op w rm (keeps_source h hs)
  | aluToReg op w r hs => exact keeps_aluToReg h op w r (keeps_source h hs)
  | testWith w hx hy => exact keeps_testWith h w (keeps_source h hx) (keeps_source h hy)
  | incDecLoc f w l => exact keeps_incDecLoc h f w l
  | incDecRm f w rm => exact keeps_incDecRm h f w rm
  | negate w rm => exact keeps_negate h w rm
  | complement w rm => exact keeps_complement h w rm
  | mulUnsigned w rm => exact keeps_mulUnsigned h w rm
  | mulSigned w rm => exact keeps_mulSigned h w rm
  | mulInto w r hx hy => exact keeps_mulInto h w r (keeps_source h hx) (keeps_source h hy)
  | divUnsigned w rm => exact keeps_divUnsigned h w rm
  | divSigned w rm => exact keeps_divSigned h w rm
  | decimalAdjust b => exact keeps_decimalAdjust h b
  | asciiAdjust b => exact keeps_asciiAdjust h b
  | asciiMul b => exact keeps_asciiMul h b
  | asciiDiv b => exact keeps_asciiDiv h b
  | compareExchange w rm r => exact keeps_compareExchange h w rm r
  | exchangeAdd w rm r => exact keeps_exchangeAdd h w rm r
  | exchange w rm r => exact keeps_exchange h w rm r
  | exchangeAcc w r => exact keeps_exchangeAcc h w r
  | shiftRm op w rm hc => exact keeps_shiftRm h op w rm (keeps_source h hc)
  | doubleShift left w rm r hc => exact keeps_doubleShift h left w rm r (keeps_source h hc)
  | bitTest w hp => exact keeps_bitTest h w (keeps_bitPlace hp)
  | bitModify op w hp => exact keeps_bitModify h op w (keeps_bitPlace hp)
  | bitScan pick w r rm => exact keeps_bitScan h pick w r rm
  | moveTo w rm hv => exact keeps_moveTo h w rm (keeps_source h hv)
  | moveFrom wd r ws rm f => exact keeps_moveFrom h wd r ws rm f
  | loadMoffs w ia => exact keeps_loadMoffs h w ia
  | storeMoffs w ia => exact keeps_storeMoffs h w ia
  | loadEffAddr w r rm => exact keeps_loadEffAddr h w r rm
  | translateByte => exact keeps_translateByte h
  | condMove w c r rm => exact keeps_condMove h w c r rm
  | condSet c rm => exact keeps_condSet h c rm
  | writeReg w r v => exact keeps_bind (keeps_writeReg h w r v) fun _ => last
  | regToReg ws q wd r f => exact keeps_bind (keeps_readReg ws q) fun _ => keeps_bind (keeps_writeReg h _ _ _) fun _ => last
  | setRegs f => exact keeps_bind (keeps_updRegs h _) fun _ => last
  | pushValue w hv => exact keeps_pushValue h w (keeps_source h hv)
  | push w v => exact keeps_bind (keeps_push h w v) fun _ => last
  | pushAll w => exact keeps_pushAll h w
  | pushSelector w n => exact keeps_pushSelector h w n
  | popReg w r => exact keeps_popReg h w r
  | popRm w rm => exact keeps_popRm h w rm
  | popAll w => exact keeps_popAll h w
  | popFlags w s =>
    exact keeps_bind (keeps_pop h w) fun v =>
      keeps_bind (keeps_upd fun _ ht => h.flagsWrite v (popfMask_system s) ht) fun _ => last
  | popSelector w h1 h2 => exact keeps_popSelector h h1 h2 w
  | loadFarPointer w r rm h1 h2 => exact keeps_loadFarPointer h h1 h2 w r rm
  | storeSelector w rm n => exact keeps_storeSelector h w rm n
  | branchIf c d => exact keeps_branchIf h c d
  | jumpRm w rm => exact keeps_bind (readRm w rm) fun _ => keeps_jumpTo h _
  | callNear w ht => exact keeps_callNear h w (keeps_source h ht)
  | retNear w imm => exact keeps_retNear h w imm
  | countLoop test d => exact keeps_countLoop h test d
  | enterFrame w size lvl => exact keeps_enterFrame h w size lvl
  | leaveFrame w => exact keeps_leaveFrame h w
  | softInterrupt v => exact keeps_softInterrupt h v
  | interruptIf c v => exact keeps_cond (fun _ => keeps_softInterrupt h v) fun _ => last
  | boundCheck w r rm => exact keeps_boundCheck h w r rm
  | repeated b he => exact keeps_repeated h b (keeps_stringElem h he)
  | portIn w port => exact keeps_portIn h w port
  | portOut w port => exact keeps_portOut h w port
  | farJump sel off => exact keeps_farJump h sel off
  | farJumpM w rm => exact keeps_bind (keeps_readFarPointer h w rm) fun _ => keeps_farJump h _ _
  | farCall w sel off => exact keeps_farCall h w sel off
  | farCallM w rm => exact keeps_bind (keeps_readFarPointer h w rm) fun _ => keeps_farCall h w _ _
  | farReturn w imm => exact keeps_farReturn h w imm
  | returnFromException => exact keeps_returnFromException h
  | changeFlags f => exact keeps_bind (keeps_updCc h fun _ => .inl rfl) fun _ => last
  | flagsFrom w r f =>
    exact keeps_bind (keeps_readReg w r) fun _ => keeps_bind (keeps_updCc h fun _ => .inl rfl) fun _ => last
  | setDf b => exact keeps_bind (keeps_upd fun s hs => h.df s b hs) fun _ => last
  | clearIf => exact keeps_bind keeps_ioCheck fun _ => keeps_bind (keeps_upd fun s hs => h.sysClear s _ hs) fun _ => last
  | setIf =>
    exact keeps_bind keeps_ioCheck fun _ => keeps_bind (keeps_upd fun s hs => h.sysSet s _ (by decide) hs) fun _ => last
  | advance => exact last
  | raise e => exact keeps_raise e
  | check c e => exact keeps_bind (keeps_raiseIf c e) fun _ => last
  | timeStamp c e n =>
    exact keeps_bind (keeps_raiseIf c e) fun _ => keeps_bind (keeps_writeReg h _ _ _) fun _ =>
      keeps_bind (keeps_writeReg h _ _ _) fun _ => last
  | privileged => exact keeps_bind keeps_privileged fun _ => last
  | writeDebug rm => exact keeps_bind (keeps_locateReg rm) fun _ => keeps_bind keeps_privileged fun _ => last
  | readControl rm n => exact keeps_readControl h rm n
  | storeTable rm t => exact keeps_storeTable h rm t
  | storeWord w rm v => exact keeps_bind (keeps_storeWord h w rm v) fun _ => last
  | protStoreSelector w rm n => exact keeps_bind keeps_protectedOnly fun _ => keeps_storeSelector h w rm n
  | verify test rm => exact keeps_bind keeps_protectedOnly fun _ => keeps_verify h test rm
  | adjustRpl rm r => exact keeps_bind keeps_protectedOnly fun _ => keeps_adjustRpl h rm r
  | loadDescInfo w r rm types info => exact keeps_bind keeps_protectedOnly fun _ => keeps_loadDescInfo h w r rm types info

/-- LMSW takes the low bits of its operand and never clears PE; ET stays set (R618). -/
theorem keeps_loadMsw (h : SystemClosed P) (w : Width) (rm : Rm) : Keeps P (do
    privileged
    let v ← readRm w rm
    upd fun s => s.writeCr0 ((s.cr0 &&& 0xFFFFFFF0#32) ||| (v &&& 0xE#32) ||| ((s.cr0 ||| v) &&& 1#32))
    advance) := by
  have q : WalkClosed fun s => P s ∧ s.cpl = 0#2 :=
    { cr2 := fun s v hs => ⟨h.cr2 s v hs.1, hs.2⟩
      byte := fun s a b ha hs => ⟨h.byte s a b ha hs.1, hs.2⟩
      insert := fun s la e hs => ⟨h.insert s la e hs.1, by
        rw [← hs.2]; unfold State.tlbInsert; cases Nat.ble _ _ <;> rfl⟩ }
  refine keeps_privileged_bind fun s hs hc => ⟨fun a t ht => ?_, fun e t ht => ?_⟩
  · obtain ⟨v, u, hv, ht⟩ := bind_ok_iff.mp ht
    obtain ⟨hu, hcu⟩ := (keeps_readRm q w rm).of_ok ⟨hs, hc⟩ hv
    rw [run_bind_upd] at ht
    exact (keeps_advance h.toCoreClosed).of_ok (h.writeCr0 u _ hcu hu) ht
  · rcases bind_error_iff.mp ht with hv | ⟨v, u, hv, ht⟩
    · exact ((keeps_readRm q w rm).of_error ⟨hs, hc⟩ hv).1
    · rw [run_bind_upd] at ht
      cases ht

/-- CLTS changes one bit of CR0 (R619). -/
theorem keeps_clearTs (h : SystemClosed P) (hts : ∀ s, s.cpl = 0#2 → P s → P (s.setCr0 (s.cr0 &&& ~~~0x8#32))) :
    Keeps P (do privileged; upd fun s => s.setCr0 (s.cr0 &&& ~~~0x8#32); advance) :=
  keeps_privileged_bind fun s hs hc => by
    rw [run_bind_upd]
    exact keeps_advance h.toCoreClosed _ (hts s hc hs)

/-- A system instruction's rule keeps every property closed under the updates of the system instructions as well. -/
theorem keeps_systemRule (h : SystemClosed P) (hts : ∀ s, s.cpl = 0#2 → P s → P (s.setCr0 (s.cr0 &&& ~~~0x8#32)))
    {m : M Unit} (hm : SystemRule m) : Keeps P m := by
  have last := keeps_advance h.toCoreClosed
  cases hm with
  | halt => exact keeps_bind keeps_privileged fun _ => keeps_bind (keeps_upd fun s hs => h.halted s true hs) fun _ => last
  | clearTs => exact keeps_clearTs h hts
  | loadMsw w rm => exact keeps_loadMsw h w rm
  | loadLdtr rm => exact keeps_bind keeps_protectedOnly fun _ => keeps_bind keeps_privileged fun _ => keeps_loadLdtr h rm
  | loadTr rm => exact keeps_bind keeps_protectedOnly fun _ => keeps_bind keeps_privileged fun _ => keeps_loadTr h rm
  | loadGdtr w rm => exact keeps_loadTable h w rm h.gdtr
  | loadIdtr w rm => exact keeps_loadTable h w rm h.idtr
  | writeControl rm n => exact keeps_writeControl h rm n
  | flushPage rm =>
    exact keeps_bind (keeps_locateMem rm) fun p => keeps_bind keeps_privileged fun _ =>
      keeps_bind (keeps_upd fun s hs => h.flushPage s _ hs) fun _ => last

/-- A selector load whatever register it names, LDTR and TR among them. -/
theorem keeps_loadSeg_any (h : SystemClosed P) (n : Sreg) (sel : W16) : Keeps P (loadSeg n sel) := by
  by_cases h1 : n = .ldtr ∨ n = .tr
  · have w := h.toWalkClosed
    have set (sel b l r) : Keeps P (setSeg n sel b l r) := keeps_upd fun s hs => h.sysSeg s n _ hs
    have cached (d : Desc) : Keeps P (setSegFrom n sel d) := set _ _ _ _
    have data : Keeps P (loadSegData n sel) := by
      refine keeps_cond (fun _ => set sel _ _ _) fun _ => keeps_get_any fun s => ?_
      refine keeps_bind (keeps_descReadOr w _ _) fun d => keeps_bind (keeps_raiseIf _ _) fun _ => ?_
      refine keeps_bind (keeps_raiseIf _ _) fun _ => keeps_bind (keeps_raiseIf _ _) fun _ => ?_
      refine keeps_bind (keeps_raiseIf _ _) fun _ => ?_
      exact keeps_bind (keeps_markAccessed w d) fun _ => cached d
    have real : Keeps P (loadSegReal n sel) := set _ _ _ _
    have stack (hn : (n == .ss) = true) : Keeps P (loadSegStack sel) := by
      rcases h1 with rfl | rfl <;> cases hn
    exact keeps_get_any fun s => keeps_cond (fun _ => real) fun _ => keeps_cond stack fun _ => data
  · obtain ⟨h1, h2⟩ := not_or.mp h1
    exact keeps_loadSeg h.toCoreClosed h1 h2 sel

theorem keeps_loadSelector (h : SystemClosed P) (n : Sreg) (rm : Rm) : Keeps P (loadSelector n rm) :=
  keeps_bind (keeps_readRm h.toWalkClosed _ _) fun _ => keeps_bind (keeps_loadSeg_any h _ _) fun _ =>
    keeps_advance h.toCoreClosed

/-! ### A whole step -/

/-- The updates of an item, of either kind: those of the instructions, and those of the fetch. -/
structure ItemClosed (P : State → Prop) : Prop extends SystemClosed P where
  clearTs : ∀ s, s.cpl = 0#2 → P s → P (s.setCr0 (s.cr0 &&& ~~~0x8#32))
  dec : ∀ (s : State) d, d.len ≤ Config.maxInsnLen → P s → P (s.setDec d)
  decLen : ∀ (s : State) d, d.len = s.dec.len → P s → P (s.setDec d)

/-- The updates of a step: those of the items, the boundary's, and the count of the attempt. -/
structure StepClosed (P : State → Prop) : Prop extends ItemClosed P where
  pending : ∀ s v, P s → P (s.setPending v)
  cycle : ∀ s n, P s → P (s.setCycle n)

/-- The answer of an item of either kind keeps the property. -/
theorem ItemClosed.exec (h : ItemClosed P) (i : Instr) {s t : State} (hs : P s) (ht : exec i s = .next t) : P t := by
  cases execForm i s with
  | core he hm => exact h.complete (keeps_coreRule h.toCoreClosed hm) hs (he ▸ ht)
  | system he hm => exact h.complete (keeps_systemRule h.toSystemClosed h.clearTs hm) hs (he ▸ ht)
  | loadSelector n rm hi he => exact h.complete (keeps_loadSelector h.toSystemClosed _ rm) hs (he ▸ ht)
  | pfx hi he hd =>
    rw [he] at ht
    cases ht
    exact h.decLen s _ hd hs

theorem WalkClosed.andDec {P : State → Prop} (h : WalkClosed P) (d : DecodeState) :
    WalkClosed fun s => P s ∧ s.dec = d where
  cr2 s v hs := ⟨h.cr2 s v hs.1, hs.2⟩
  byte s a b ha hs := ⟨h.byte s a b ha hs.1, hs.2⟩
  insert s la e hs := ⟨h.insert s la e hs.1, by rw [← hs.2]; unfold State.tlbInsert; cases Nat.ble _ _ <;> rfl⟩

theorem keeps_fetchPart (h : ItemClosed P) (n : Nat) : Keeps P (fetchPart n) := by
  refine keeps_get_bind fun s hs => ?_
  have q := h.toWalkClosed.andDec s.dec
  have rest : Keeps (fun u => P u ∧ u.dec = s.dec) (accRead (s.lin .cs s.dec.fp) n) := keeps_accRead q _ _
  rw [run_cond]
  cases hl : Nat.blt Config.maxInsnLen (s.dec.len + n) with
  | true => exact keeps_raise (α := W32) .ud s hs
  | false =>
    have hle : s.dec.len + n ≤ Config.maxInsnLen := by
      rw [Bool.eq_false_iff, ne_eq, Nat.blt_eq] at hl; omega
    constructor
    · intro a t ht
      obtain ⟨v, u, hv, ht⟩ := bind_ok_iff.mp ht
      obtain ⟨hu, hd⟩ := rest.of_ok ⟨hs, rfl⟩ hv
      cases ht
      exact h.dec u _ (by rw [hd]; exact hle) hu
    · intro e t ht
      rcases bind_error_iff.mp ht with hv | ⟨v, u, hv, ht⟩
      · exact (rest.of_error ⟨hs, rfl⟩ hv).1
      · cases ht

theorem keeps_fetchRun {α : Type} (h : ItemClosed P) (f : Fetch α) : Keeps P (fetchRun f) := by
  induction f with
  | done a => exact keeps_pure a
  | byte k ih => exact keeps_bind (keeps_fetchPart h 1) fun _ => ih _
  | word k ih => exact keeps_bind (keeps_fetchPart h 2) fun _ => ih _
  | dword k ih => exact keeps_bind (keeps_fetchPart h 4) fun _ => ih _

theorem keeps_fetchItem (h : ItemClosed P) : Keeps P fetchItem := keeps_get_any fun _ => keeps_fetchRun h _

theorem ItemClosed.fetchStopped (h : ItemClosed P) {st : Stop} {s t : State} (hs : P s)
    (ht : fetchStopped st s = .next t) : P t := by
  cases st with
  | raise e => cases ht; exact h.takeException e s hs
  | abort r => cases ht; exact h.aborted s r hs

theorem ItemClosed.runItems (h : ItemClosed P) (n : Nat) :
    ∀ {s t : State}, P s → runItems n s = .next t → P t := by
  induction n with
  | zero => intro s t hs ht; cases ht; exact h.takeException .ud s hs
  | succ n ih =>
    intro s t hs ht
    rw [Sys2Proof.Machine.runItems] at ht
    cases hf : fetchItem s with
    | error st u =>
      rw [hf] at ht
      exact h.fetchStopped ((keeps_fetchItem h).of_error hs hf) ht
    | ok i u =>
      have hu := (keeps_fetchItem h).of_ok hs hf
      rw [hf] at ht
      dsimp only at ht
      cases hp : i.isPfx with
      | false => rw [hp] at ht; exact h.exec i hu ht
      | true =>
        rw [hp, cond_true] at ht
        cases he : Sys2Proof.Machine.exec i u with
        | next v => rw [he] at ht; exact ih (h.exec i hu he) ht
        | fault f => rw [he] at ht; cases ht
        | refused r => rw [he] at ht; cases ht

theorem StepClosed.deliverInterrupt (h : StepClosed P) (s : State) (v : Byte) (hs : P s) : P (s.deliverInterrupt v) := by
  have hd := keeps_deliver h.toCoreClosed v false none true s.pc
  have h0 := h.halted s false hs
  unfold State.deliverInterrupt
  cases hr : deliver v false none true s.pc (s.setHalted false) with
  | ok a t => exact h.pending t none (hd.of_ok h0 hr)
  | error x t =>
    cases x with
    | raise e => exact h.deliverChain 2 e s.pc t (hd.of_error h0 hr)
    | abort r => exact h.aborted t r (hd.of_error h0 hr)

theorem StepClosed.boundary (h : StepClosed P) (s : State) (hs : P s) : P s.boundary := by
  have h0 := h.stepFaulted s false hs
  unfold State.boundary
  dsimp only
  cases (s.setStepFaulted false).pendingVector with
  | some v => exact h.deliverInterrupt _ v h0
  | none =>
    cases (s.setStepFaulted false).irqLine && (s.setStepFaulted false).ifFlag with
    | true => exact h.deliverInterrupt _ _ (h.pending _ _ (h.platform _ _ _ h0))
    | false => exact h0

/-- Every step keeps a property closed under the updates a step makes. -/
theorem StepClosed.step (h : StepClosed P) {s t : State} (hs : P s) (ht : step s = .next t) : P t := by
  have hb := h.boundary s hs
  unfold Sys2Proof.Machine.step at ht
  cases ha : s.aborted with
  | some r => rw [ha] at ht; cases ht
  | none =>
    rw [ha] at ht
    dsimp only at ht
    cases hh : s.boundary.aborted.isSome || s.boundary.halted with
    | true => rw [hh] at ht; cases ht; exact hb
    | false =>
      rw [hh] at ht
      exact h.runItems 16 (h.dec _ _ (Nat.zero_le _) (h.cycle _ _ hb)) ht

end Sys2Proof.Machine
end

section
/-! Every step keeps a legal state legal and the launch parameters as they are (R7, R48, R56, R62, R69, R120, R169, R198,
R221, R690). -/

namespace Sys2Proof.Machine

/-! ### The parts of a legal state -/

theorem legal_iff {s : State} : s.legal = true ↔
    s.memLegal = true ∧ s.tlbLegal = true ∧ s.flagsLegal = true ∧ s.controlLegal = true ∧ s.decLegal = true := by
  simp only [State.legal, Bool.and_eq_true, and_assoc]

theorem memLegal_iff {s : State} : s.memLegal = true ↔
    Memory.wf s.mem = true ∧ memBelow s.memSize s.mem = true
      ∧ s.memSize % 4096 = 0 ∧ 4096 ≤ s.memSize ∧ s.memSize ≤ Config.memSizeMax := by
  simp only [State.memLegal, Bool.and_eq_true, and_assoc, Nat.ble_eq, beq_iff_eq]

theorem tlbLegal_iff {s : State} : s.tlbLegal = true ↔
    keysRise s.tlb = true ∧ (∀ e ∈ s.tlb, e.1 ∈ s.tlbList) ∧ (∀ p ∈ s.tlbList, p < 1048576)
      ∧ s.tlbList.length ≤ Config.tlbListMax := by
  simp only [State.tlbLegal, Bool.and_eq_true, and_assoc, Nat.ble_eq, List.all_eq_true, List.contains_iff_mem, Nat.blt_eq]

theorem flagsLegal_iff {s : State} : s.flagsLegal = true ↔
    s.eflagsSys &&& ~~~Config.sysFlagMask = 0#32 ∧ s.cc.op2.isIncDec = false := by
  simp only [State.flagsLegal, Bool.and_eq_true, beq_iff_eq, Bool.not_eq_true']

theorem controlLegal_iff {s : State} : s.controlLegal = true ↔
    s.cr0.getLsbD 4 = true ∧ s.gdtr.limit.toNat ≤ 0xFFFF ∧ s.idtr.limit.toNat ≤ 0xFFFF ∧ (s.pe = true ∨ s.cpl = 0#2) := by
  simp only [State.controlLegal, Bool.and_eq_true, and_assoc, Nat.ble_eq, Bool.or_eq_true, beq_iff_eq]

/-! ### The TLB -/

theorem vpnOf_lt (la : W32) : vpnOf la < 1048576 := (la.extractLsb' 12 20).isLt

/-- Unmapping a list of pages leaves entries of other pages alone. -/
theorem mem_unmapAll {ps : List Nat} : ∀ {t : List (Nat × TlbEntry)} {e : Nat × TlbEntry},
    e ∈ unmapAll t ps → e ∈ t ∧ e.1 ∉ ps := by
  induction ps with
  | nil => intro t e he; exact ⟨he, List.not_mem_nil⟩
  | cons p ps ih =>
    intro t e he
    obtain ⟨h1, h2⟩ := ih he
    obtain ⟨h3, h4⟩ := mem_assocErase h1
    exact ⟨h3, by simp [h4, h2]⟩

/-- Where every mapped page is listed, unmapping the list leaves nothing (R165, R170). -/
theorem unmapAll_eq_nil {t : List (Nat × TlbEntry)} {ps : List Nat} (h : ∀ e ∈ t, e.1 ∈ ps) : unmapAll t ps = [] :=
  List.eq_nil_iff_forall_not_mem.mpr fun e he => (mem_unmapAll he).2 (h e (mem_unmapAll he).1)

theorem tlbLegal_insert {s : State} (la : W32) (e : TlbEntry) (h : s.tlbLegal = true) :
    (s.tlbInsert (vpnOf la) e).tlbLegal = true := by
  obtain ⟨hrise, hmem, hlt, hlen⟩ := tlbLegal_iff.mp h
  unfold State.tlbInsert
  cases hb : Nat.ble Config.tlbListMax s.tlbList.length with
  | true =>
    rw [cond_true, unmapAll_eq_nil hmem]
    refine tlbLegal_iff.mpr ⟨rfl, fun x hx => ?_, fun p hp => ?_, Nat.le_of_ble_eq_true rfl⟩
    · exact List.mem_singleton.mpr (congrArg Prod.fst (List.mem_singleton.mp hx))
    · exact List.mem_singleton.mp hp ▸ vpnOf_lt la
  | false =>
    have hroom : s.tlbList.length < Config.tlbListMax := by rw [Bool.eq_false_iff, ne_eq, Nat.ble_eq] at hb; omega
    refine tlbLegal_iff.mpr ⟨keysRise_set _ _ hrise, fun x hx => ?_, fun p hp => ?_, ?_⟩
    · rcases mem_assocSet hx with rfl | hx
      · exact List.mem_append_right _ (List.mem_singleton.mpr rfl)
      · exact List.mem_append_left _ (hmem x hx)
    · rcases List.mem_append.mp hp with hp | hp
      · exact hlt p hp
      · rw [List.mem_singleton.mp hp]; exact vpnOf_lt la
    · exact List.length_append.trans_le hroom

theorem tlbLegal_flushAll {s : State} (h : s.tlbLegal = true) : s.tlbFlushAll.tlbLegal = true := by
  obtain ⟨hrise, hmem, hlt, hlen⟩ := tlbLegal_iff.mp h
  unfold State.tlbFlushAll
  rw [unmapAll_eq_nil hmem]
  rfl

theorem tlbLegal_flushPage {s : State} (p : Nat) (h : s.tlbLegal = true) : (s.tlbFlushPage p).tlbLegal = true := by
  obtain ⟨hrise, hmem, hlt, hlen⟩ := tlbLegal_iff.mp h
  exact tlbLegal_iff.mpr ⟨keysRise_erase p hrise, fun e he => hmem e (mem_assocErase he).1, hlt, hlen⟩

/-! ### Memory, the flags, the control state -/

theorem memLegal_write {s : State} {a : W32} (b : Byte) (ha : s.inMem a = true) (h : s.memLegal = true) :
    (s.setMem (memWrite s.mem a.toNat b)).memLegal = true := by
  obtain ⟨hwf, hbelow, hsize⟩ := memLegal_iff.mp h
  have hlt : a.toNat < s.memSize := Nat.blt_eq.mp ha
  exact memLegal_iff.mpr ⟨memWrite_wf _ b hwf, memWrite_below b hlt hbelow, hsize⟩

theorem carryKind_isIncDec {c : CC} (h : c.op2.isIncDec = false) : c.carryKind.isIncDec = false := by
  unfold CC.carryKind
  cases h1 : c.op.isIncDec with
  | true => exact h
  | false => exact h1

theorem sysFlags_and {x m : W32} (h : x &&& ~~~Config.sysFlagMask = 0#32) :
    (x &&& m) &&& ~~~Config.sysFlagMask = 0#32 := by
  rw [BitVec.and_assoc, BitVec.and_comm m, ← BitVec.and_assoc, h, BitVec.zero_and]

theorem sysFlags_or {x y : W32} (hx : x &&& ~~~Config.sysFlagMask = 0#32) (hy : y &&& ~~~Config.sysFlagMask = 0#32) :
    (x ||| y) &&& ~~~Config.sysFlagMask = 0#32 := by
  rw [BitVec.and_comm, BitVec.and_or_distrib_left, BitVec.and_comm, hx, BitVec.and_comm, hy, BitVec.or_zero]

/-! ### The invariant -/

section
variable {s t : State}

/-- A state that differs from a legal one in the parts of memory alone. -/
theorem legal_of_mem (hs : s.legal = true) (hm : t.memLegal = true)
    (h : t = { s with mem := t.mem }) : t.legal = true := by
  obtain ⟨_, htlb, hflags, hcontrol, hdec⟩ := legal_iff.mp hs
  rw [h] at hm ⊢
  exact legal_iff.mpr ⟨hm, htlb, hflags, hcontrol, hdec⟩

/-- A state that differs from a legal one in the TLB alone. -/
theorem legal_of_tlb (hs : s.legal = true) (ht : t.tlbLegal = true)
    (h : t = { s with tlb := t.tlb, tlbList := t.tlbList }) : t.legal = true := by
  obtain ⟨hmem, _, hflags, hcontrol, hdec⟩ := legal_iff.mp hs
  rw [h] at ht ⊢
  exact legal_iff.mpr ⟨hmem, ht, hflags, hcontrol, hdec⟩

/-- A state that differs from a legal one in the flags alone. -/
theorem legal_of_flags (hs : s.legal = true) (hf : t.flagsLegal = true)
    (h : t = { s with cc := t.cc, eflagsSys := t.eflagsSys }) : t.legal = true := by
  obtain ⟨hmem, htlb, _, hcontrol, hdec⟩ := legal_iff.mp hs
  rw [h] at hf ⊢
  exact legal_iff.mpr ⟨hmem, htlb, hf, hcontrol, hdec⟩

/-- A state that differs from a legal one in the control state alone. -/
theorem legal_of_control (hs : s.legal = true) (hc : t.controlLegal = true)
    (h : t = { s with cr0 := t.cr0, gdtr := t.gdtr, idtr := t.idtr, cpl := t.cpl }) : t.legal = true := by
  obtain ⟨hmem, htlb, hflags, _, hdec⟩ := legal_iff.mp hs
  rw [h] at hc ⊢
  exact legal_iff.mpr ⟨hmem, htlb, hflags, hc, hdec⟩

/-- A state that differs from a legal one in the decode state alone. -/
theorem legal_of_dec (hs : s.legal = true) (d : DecodeState) (hd : d.len ≤ Config.maxInsnLen) :
    (s.setDec d).legal = true := by
  obtain ⟨hmem, htlb, hflags, hcontrol, _⟩ := legal_iff.mp hs
  exact legal_iff.mpr ⟨hmem, htlb, hflags, hcontrol, Nat.ble_eq.mpr hd⟩
end

theorem legal_flags {s : State} (h : s.legal = true) :
    s.eflagsSys &&& ~~~Config.sysFlagMask = 0#32 ∧ s.cc.op2.isIncDec = false :=
  flagsLegal_iff.mp (legal_iff.mp h).2.2.1

theorem legal_control {s : State} (h : s.legal = true) :
    s.cr0.getLsbD 4 = true ∧ s.gdtr.limit.toNat ≤ 0xFFFF ∧ s.idtr.limit.toNat ≤ 0xFFFF ∧ (s.pe = true ∨ s.cpl = 0#2) :=
  controlLegal_iff.mp (legal_iff.mp h).2.2.2.1

/-- System flags that stay among the system flags leave the state legal. -/
theorem legal_setSys {s : State} {v : W32} (hs : s.legal = true) (hv : v &&& ~~~Config.sysFlagMask = 0#32) :
    (s.setSys v).legal = true :=
  legal_of_flags hs (flagsLegal_iff.mpr ⟨hv, (legal_flags hs).2⟩) rfl

/-- Being legal is closed under every update a step makes. -/
theorem stepClosed_legal : StepClosed fun s => s.legal = true where
  cr2 _ _ hs := hs
  byte s a b ha hs := legal_of_mem hs (memLegal_write b ha (legal_iff.mp hs).1) rfl
  insert s la e hs := legal_of_tlb hs (tlbLegal_insert la e (legal_iff.mp hs).2.1) (by
    unfold State.tlbInsert; cases Nat.ble _ _ <;> rfl)
  regs _ _ hs := hs
  pc _ _ hs := hs
  cc s c hc hs := by
    obtain ⟨hsys, hop⟩ := legal_flags hs
    refine legal_of_flags hs (flagsLegal_iff.mpr ⟨hsys, ?_⟩) rfl
    rcases hc with hc | hc
    · exact hc ▸ hop
    · exact hc ▸ carryKind_isIncDec hop
  df _ _ hs := hs
  sysClear s m hs := legal_setSys hs (sysFlags_and (legal_flags hs).1)
  sysSet s m hm hs := legal_setSys hs (sysFlags_or (legal_flags hs).1 hm)
  sysMask s v m hm hs := legal_setSys hs (sysFlags_or (sysFlags_and (legal_flags hs).1)
    (by rw [BitVec.and_assoc, hm, BitVec.and_zero]))
  seg _ _ _ _ _ hs := hs
  cpl s n hp hs := by
    obtain ⟨het, hg, hi, _⟩ := legal_control hs
    exact legal_of_control hs (controlLegal_iff.mpr ⟨het, hg, hi, .inl hp⟩) rfl
  platform _ _ _ hs := hs
  aborted _ _ hs := hs
  stepFaulted _ _ hs := hs
  halted _ _ hs := hs
  gdtr s t ht hs := by
    obtain ⟨het, _, hi, hp⟩ := legal_control hs
    exact legal_of_control hs (controlLegal_iff.mpr ⟨het, ht, hi, hp⟩) rfl
  idtr s t ht hs := by
    obtain ⟨het, hg, _, hp⟩ := legal_control hs
    exact legal_of_control hs (controlLegal_iff.mpr ⟨het, hg, ht, hp⟩) rfl
  sysSeg _ _ _ hs := hs
  cr0 s v hc het hs := by
    obtain ⟨_, hg, hi, _⟩ := legal_control hs
    exact legal_of_control hs (controlLegal_iff.mpr ⟨het, hg, hi, .inr hc⟩) rfl
  cr3 _ _ hs := hs
  cr4 _ _ hs := hs
  flushAll s hs := legal_of_tlb hs (tlbLegal_flushAll (legal_iff.mp hs).2.1) rfl
  flushPage s la hs := legal_of_tlb hs (tlbLegal_flushPage _ (legal_iff.mp hs).2.1) rfl
  clearTs s hc hs := by
    obtain ⟨het, hg, hi, hp⟩ := legal_control hs
    refine legal_of_control hs (controlLegal_iff.mpr ⟨?_, hg, hi, .inr hc⟩) rfl
    exact (BitVec.getLsbD_and).trans (by rw [het]; rfl)
  pending _ _ hs := hs
  cycle _ _ hs := hs
  dec s d hd hs := legal_of_dec hs d hd
  decLen s d hd hs := legal_of_dec hs d (hd ▸ Nat.ble_eq.mp (legal_iff.mp hs).2.2.2.2)

theorem tlbInsert_launch (s : State) (p : Nat) (e : TlbEntry) :
    (s.tlbInsert p e).memSize = s.memSize ∧ (s.tlbInsert p e).ports = s.ports := by
  unfold State.tlbInsert
  cases Nat.ble _ _ <;> exact ⟨rfl, rfl⟩

/-- No update a step makes changes the size of memory or the registered handlers (R120, R198). -/
theorem stepClosed_launch (u : State) : StepClosed fun s => s.memSize = u.memSize ∧ s.ports = u.ports where
  cr2 _ _ hs := hs
  byte _ _ _ _ hs := hs
  insert s la e hs := by
    obtain ⟨hm, hp⟩ := tlbInsert_launch s (vpnOf la) e
    exact ⟨hm.trans hs.1, hp.trans hs.2⟩
  regs _ _ hs := hs
  pc _ _ hs := hs
  cc _ _ _ hs := hs
  df _ _ hs := hs
  sysClear _ _ hs := hs
  sysSet _ _ _ hs := hs
  sysMask _ _ _ _ hs := hs
  seg _ _ _ _ _ hs := hs
  cpl _ _ _ hs := hs
  platform _ _ _ hs := hs
  aborted _ _ hs := hs
  stepFaulted _ _ hs := hs
  halted _ _ hs := hs
  gdtr _ _ _ hs := hs
  idtr _ _ _ hs := hs
  sysSeg _ _ _ hs := hs
  cr0 _ _ _ _ hs := hs
  cr3 _ _ hs := hs
  cr4 _ _ hs := hs
  flushAll _ hs := hs
  flushPage _ _ hs := hs
  clearTs _ _ hs := hs
  pending _ _ hs := hs
  cycle _ _ hs := hs
  dec _ _ _ hs := hs
  decLen _ _ _ hs := hs

/-- Settles O28: being legal and the launch parameters are each closed under the updates a step makes. -/
theorem stepKeepsLegalState : Obligations.StepKeepsLegalState := by
  intro s t ht
  obtain ⟨hm, hp⟩ := (stepClosed_launch s).step ⟨rfl, rfl⟩ ht
  exact ⟨fun hs => stepClosed_legal.step hs ht, hm, hp⟩

end Sys2Proof.Machine
end

section
/-! At a level other than 0 no instruction changes the control state (R61, R69, R691, R692). -/

namespace Sys2Proof.Machine

/-! ### Rules that change nothing -/

/-- The rule leaves the state as it is, whether it completes or stops. -/
def Idle {α : Type} (s : State) (m : M α) : Prop := Keeps (fun t => t = s) m

/-- An instruction whose rule changes nothing keeps every property that taking an exception keeps. -/
theorem CoreClosed.complete_of_idle {P : State → Prop} (h : CoreClosed P) {m : M Unit} {s t : State} (hm : Idle s m)
    (hs : P s) (ht : Machine.complete m s = .next t) : P t := by
  cases hr : m s with
  | ok a u =>
    rw [complete_ok hr] at ht
    cases ht
    exact hm.of_ok rfl hr ▸ hs
  | error x u =>
    have hu : P u := hm.of_error rfl hr ▸ hs
    cases x with
    | raise e =>
      rw [complete_raise hr] at ht
      cases ht
      exact h.takeException e u hu
    | abort r =>
      rw [complete_abort hr] at ht
      cases ht
      exact h.aborted u r hu

/-- Behind the test of the level, at a level other than 0, nothing happens. -/
theorem idle_privileged_bind {α : Type} {s : State} (hc : s.cpl ≠ 0#2) (f : Unit → M α) : Idle s (privileged >>= f) :=
  keeps_privileged_bind fun _ hu h0 => absurd (hu ▸ h0) hc

/-- A system instruction at a level other than 0 changes nothing itself (R691). -/
theorem SystemRule.idle {m : M Unit} {s : State} (hm : SystemRule m) (hc : s.cpl ≠ 0#2) : Idle s m := by
  have stop {α : Type} (f : Unit → M α) : Idle s (Machine.privileged >>= f) := idle_privileged_bind hc f
  cases hm with
  | halt => exact stop _
  | clearTs => exact stop _
  | loadMsw w rm => exact stop _
  | loadLdtr rm => exact keeps_bind keeps_protectedOnly fun _ => stop _
  | loadTr rm => exact keeps_bind keeps_protectedOnly fun _ => stop _
  | loadGdtr w rm => exact keeps_bind (keeps_locateMem rm) fun _ => stop _
  | loadIdtr w rm => exact keeps_bind (keeps_locateMem rm) fun _ => stop _
  | writeControl rm n => exact keeps_bind (keeps_locateReg rm) fun _ => keeps_bind (keeps_raiseIf _ _) fun _ => stop _
  | flushPage rm => exact keeps_bind (keeps_locateMem rm) fun _ => stop _

/-! ### The control state -/

theorem tlbInsert_sameControl {s u : State} (p : Nat) (e : TlbEntry) (h : u.sameControl s) :
    u.sameControl (s.tlbInsert p e) := by
  unfold State.tlbInsert
  cases Nat.ble _ _ <;> exact h

/-- The control state is closed under every update but the system instructions' own. -/
theorem coreClosed_sameControl (u : State) : CoreClosed u.sameControl where
  cr2 _ _ hs := hs
  byte _ _ _ _ hs := hs
  insert s la e hs := tlbInsert_sameControl _ e hs
  regs _ _ hs := hs
  pc _ _ hs := hs
  cc _ _ _ hs := hs
  df _ _ hs := hs
  sysClear _ _ hs := hs
  sysSet _ _ _ hs := hs
  sysMask _ _ _ _ hs := hs
  seg s n r h1 h2 hs := by
    obtain ⟨hcr0, hcr3, hcr4, hg, hi, hl, ht, hh⟩ := hs
    exact ⟨hcr0, hcr3, hcr4, hg, hi, (Segs.set_ldtr _ r h1).trans hl, (Segs.set_tr _ r h2).trans ht, hh⟩
  cpl _ _ _ hs := hs
  platform _ _ _ hs := hs
  aborted _ _ hs := hs
  stepFaulted _ _ hs := hs

/-- A number of MOV Sreg whose reading goes on names neither LDTR nor TR (R67). -/
theorem Sreg.ofNum_program {n : BitVec 3} (h : (n == 1#3 || n == 6#3 || n == 7#3) = false) :
    Sreg.ofNum n ≠ .ldtr ∧ Sreg.ofNum n ≠ .tr := by
  revert n
  decide

/-- An operand whose reading ended at its ModRM byte has no place (R262). -/
theorem locate_of_cut {rm : Rm} (h : rm.isCut = true) (s : State) : locate rm s = .error (.raise .ud) s := by
  cases rm with
  | cut m r => rfl
  | _ => cases h

/-- MOV Sreg as the decoder gives it writes a segment register a program may load, or has no operand (R562). -/
theorem keeps_loadSelector_wellFormed {P : State → Prop} (h : CoreClosed P) {m : Mode} {n : BitVec 3} {rm : Rm}
    (hw : WellFormed m (.movSregRm16 n rm) = true) : Keeps P (loadSelector (Sreg.ofNum n) rm) := by
  change (if n == 1#3 || n == 6#3 || n == 7#3 then rm.isCut else rm.ok m) = true at hw
  cases hn : n == 1#3 || n == 6#3 || n == 7#3 with
  | true =>
    rw [hn, if_pos rfl] at hw
    intro s hs
    have stopped : loadSelector (Sreg.ofNum n) rm s = .error (.raise .ud) s :=
      run_bind_error (run_bind_error (locate_of_cut hw s))
    rw [stopped]
    exact keeps_raise (α := Unit) .ud s hs
  | false =>
    obtain ⟨h1, h2⟩ := Sreg.ofNum_program hn
    exact keeps_bind (keeps_readRm h.toWalkClosed _ _) fun _ => keeps_bind (keeps_loadSeg h h1 h2 _) fun _ =>
      keeps_advance h

/-- Settles O30: the system instructions stop at the test of the level, and the others do not write the control state. -/
theorem userModeKeepsControlState : Obligations.UserModeKeepsControlState := by
  intro i s t _ hcpl hw ht
  have h := coreClosed_sameControl s
  have hs : s.sameControl s := ⟨rfl, rfl, rfl, rfl, rfl, rfl, rfl, rfl⟩
  cases execForm i s with
  | core he hm => exact h.complete (keeps_coreRule h hm) hs (he ▸ ht)
  | system he hm =>
    have hc : s.cpl ≠ 0#2 := by rw [hcpl]; decide
    exact h.complete_of_idle (hm.idle hc) hs (he ▸ ht)
  | loadSelector n rm hi he =>
    subst hi
    exact h.complete (keeps_loadSelector_wellFormed h hw) hs (he ▸ ht)
  | pfx hi he hd =>
    rw [he] at ht
    cases ht
    exact hs

end Sys2Proof.Machine
end

section
/-! An instruction that raises leaves the architectural registers as they were: every rule makes its accesses and its
checks before it writes a register (R660). -/

namespace Sys2Proof.Machine

variable {α β : Type}

/-! ### Rules that only access memory, rules that can no longer raise, rules that raise before they write -/

/-- The rule makes the updates of a translation or of a memory access and no others. -/
def Quiet (m : M α) : Prop := ∀ P, WalkClosed P → Keeps P m

/-- The rule raises nothing, and leaves the flag of a raise as it was. -/
def SettledAt (s : State) : EStateM.Result Stop State α → Prop
  | .ok _ t => t.stepFaulted = s.stepFaulted
  | .error (.raise _) _ => False
  | .error (.abort _) t => t.stepFaulted = s.stepFaulted

/-- A rule that raises nothing, from any state. -/
def Settled (m : M α) : Prop := ∀ s, SettledAt s (m s)

/-- Where the rule raises, it has changed nothing but what a translation writes; where it does not, the flag of a raise
is as it was. -/
def PreciseAt (s : State) : EStateM.Result Stop State α → Prop
  | .ok _ t => t.stepFaulted = s.stepFaulted
  | .error (.raise _) t => s.sameButWalk t
  | .error (.abort _) t => t.stepFaulted = s.stepFaulted

/-- A rule that raises precisely, from any state in which every delivery fails at the table limit. -/
def Precise (m : M α) : Prop := ∀ s, s.idtr.limit = 0#32 → PreciseAt s (m s)

theorem State.sameButWalk.stepFaulted {s t : State} (h : s.sameButWalk t) : t.stepFaulted = s.stepFaulted := by rw [h]

theorem Quiet.precise {m : M α} (hm : Quiet m) : Precise m := fun s _ => by
  cases hr : m s with
  | ok a t => exact (sameButWalk_of_ok hm hr).stepFaulted
  | error x t =>
    cases x with
    | raise e => exact sameButWalk_of_error hm hr
    | abort r => exact (sameButWalk_of_error hm hr).stepFaulted

theorem Settled.precise {m : M α} (hm : Settled m) : Precise m := fun s _ => by
  have h := hm s
  cases hr : m s with
  | ok a t => rw [hr] at h; exact h
  | error x t =>
    rw [hr] at h
    cases x with
    | raise e => exact h.elim
    | abort r => exact h

/-! ### How they chain -/

theorem quiet_bind {m : M α} {f : α → M β} (hm : Quiet m) (hf : ∀ a, Quiet (f a)) : Quiet (m >>= f) :=
  fun P h => keeps_bind (hm P h) fun a => hf a P h

theorem quiet_get {f : State → M β} (hf : ∀ s, Quiet (f s)) : Quiet ((get : M State) >>= f) :=
  fun P h => keeps_get_any fun s => hf s P h

theorem quiet_cond {c : Bool} {x y : M α} (hx : Quiet x) (hy : Quiet y) : Quiet (bif c then x else y) :=
  fun P h => keeps_cond (fun _ => hx P h) fun _ => hy P h

theorem settled_upd {f : State → State} (hf : ∀ s, (f s).stepFaulted = s.stepFaulted) : Settled (upd f) := hf

theorem settled_pure (a : α) : Settled (pure a : M α) := fun _ => rfl

theorem settled_abort (r : AbortReason) : Settled (abort r : M α) := fun _ => rfl

/-- A rule that stopped stopped, whatever it was to answer. -/
theorem SettledAt.of_error {s t : State} {x : Stop} (h : SettledAt s (.error x t : EStateM.Result Stop State α)) :
    SettledAt s (.error x t : EStateM.Result Stop State β) := by
  cases x <;> exact h

theorem PreciseAt.of_error {s t : State} {x : Stop} (h : PreciseAt s (.error x t : EStateM.Result Stop State α)) :
    PreciseAt s (.error x t : EStateM.Result Stop State β) := by
  cases x <;> exact h

theorem settled_bind {m : M α} {f : α → M β} (hm : Settled m) (hf : ∀ a, Settled (f a)) : Settled (m >>= f) :=
  fun s => by
    have h := hm s
    cases hr : m s with
    | ok a t =>
      rw [hr] at h
      rw [run_bind_ok hr]
      have ht : t.stepFaulted = s.stepFaulted := h
      have h2 := hf a t
      cases hr2 : f a t with
      | ok b u => rw [hr2] at h2; exact Eq.trans h2 ht
      | error x u =>
        rw [hr2] at h2
        cases x with
        | raise e => exact h2.elim
        | abort r => exact Eq.trans h2 ht
    | error x t => rw [hr] at h; rw [run_bind_error hr]; exact h.of_error

theorem settled_get {f : State → M β} (hf : ∀ s, Settled (f s)) : Settled ((get : M State) >>= f) := fun s => hf s s

theorem settled_cond {c : Bool} {x y : M α} (hx : Settled x) (hy : Settled y) : Settled (bif c then x else y) := by
  cases c
  · exact hy
  · exact hx

theorem precise_get {f : State → M β} (hf : ∀ s, Precise (f s)) : Precise ((get : M State) >>= f) := fun s => hf s s

theorem precise_cond {c : Bool} {x y : M α} (hx : Precise x) (hy : Precise y) : Precise (bif c then x else y) := by
  cases c
  · exact hy
  · exact hx

/-- Accesses and checks may go before a rule that raises precisely. -/
theorem precise_after {m : M α} {f : α → M β} (hm : Quiet m) (hf : ∀ a, Precise (f a)) : Precise (m >>= f) :=
  fun s hs => by
    cases hr : m s with
    | error x t =>
      have h := hm.precise s hs
      rw [hr] at h
      rw [run_bind_error hr]
      exact h.of_error
    | ok a t =>
      have walk := sameButWalk_of_ok hm hr
      rw [run_bind_ok hr]
      have h2 := hf a t (by rw [walk.idtr, hs])
      cases hr2 : f a t with
      | ok b u => rw [hr2] at h2; exact Eq.trans h2 walk.stepFaulted
      | error x u =>
        rw [hr2] at h2
        cases x with
        | raise e => exact walk.trans h2
        | abort r => exact Eq.trans h2 walk.stepFaulted

/-- What can no longer raise may follow a rule that raises precisely. -/
theorem precise_before {m : M α} {f : α → M β} (hm : Precise m) (hf : ∀ a, Settled (f a)) : Precise (m >>= f) :=
  fun s hs => by
    have h := hm s hs
    cases hr : m s with
    | error x t => rw [hr] at h; rw [run_bind_error hr]; exact h.of_error
    | ok a t =>
      rw [hr] at h
      rw [run_bind_ok hr]
      have ht : t.stepFaulted = s.stepFaulted := h
      have h2 := hf a t
      cases hr2 : f a t with
      | ok b u => rw [hr2] at h2; exact Eq.trans h2 ht
      | error x u =>
        rw [hr2] at h2
        cases x with
        | raise e => exact h2.elim
        | abort r => exact Eq.trans h2 ht

/-! ### The shared operations -/

theorem quiet_pure (a : α) : Quiet (pure a : M α) := fun _ _ => keeps_pure a
theorem quiet_abort (r : AbortReason) : Quiet (abort r : M α) := fun _ _ => keeps_abort r
theorem quiet_raise (e : Exc) : Quiet (raise e : M α) := fun _ _ => keeps_raise e
theorem quiet_raiseIf (c : Bool) (e : Exc) : Quiet (raiseIf c e) := fun _ _ => keeps_raiseIf c e
theorem quiet_readReg (w : Width) (r : Reg) : Quiet (readReg w r) := fun _ _ => keeps_readReg w r
theorem quiet_readRm (w : Width) (rm : Rm) : Quiet (readRm w rm) := fun _ h => keeps_readRm h w rm
theorem quiet_readLoc (w : Width) (l : Loc) : Quiet (readLoc w l) := fun _ h => keeps_readLoc h w l
theorem quiet_readLocW (w : Width) (l : Loc) : Quiet (readLocW w l) := fun _ h => keeps_readLocW h w l
theorem quiet_locate (rm : Rm) : Quiet (locate rm) := fun _ _ => keeps_locate rm
theorem quiet_locateMem (rm : Rm) : Quiet (locateMem rm) := fun _ _ => keeps_locateMem rm
theorem quiet_locateReg (rm : Rm) : Quiet (locateReg rm) := fun _ _ => keeps_locateReg rm
theorem quiet_accRead (la : W32) (n : Nat) : Quiet (accRead la n) := fun _ h => keeps_accRead h la n
theorem quiet_accWrite (la : W32) (n : Nat) (v : W32) : Quiet (accWrite la n v) := fun _ h => keeps_accWrite h la n v
theorem quiet_accProbe (la : W32) (n : Nat) : Quiet (accProbe la n) := fun _ h => keeps_accProbe h la n
theorem quiet_sysRead (la : W32) (n : Nat) : Quiet (sysRead la n) := fun _ h => keeps_sysRead h la n
theorem quiet_sysWrite (la : W32) (n : Nat) (v : W32) : Quiet (sysWrite la n v) := fun _ h => keeps_sysWrite h la n v
theorem quiet_descRead (sel : W16) : Quiet (descRead sel) := fun _ h => keeps_descRead h sel
theorem quiet_descReadOr (sel : W16) (e : Exc) : Quiet (descReadOr sel e) := fun _ h => keeps_descReadOr h sel e
theorem quiet_markAccessed (d : Desc) : Quiet (markAccessed d) := fun _ h => keeps_markAccessed h d
theorem quiet_innerStack (lvl : BitVec 2) : Quiet (innerStack lvl) := fun _ h => keeps_innerStack h lvl
theorem quiet_gateTarget (sel : W16) : Quiet (gateTarget sel) := fun _ h => keeps_gateTarget h sel
theorem quiet_returnTarget (sel : W16) : Quiet (returnTarget sel) := fun _ h => keeps_returnTarget h sel
theorem quiet_returnStack (sel : W16) (rpl : BitVec 2) : Quiet (returnStack sel rpl) :=
  fun _ h => keeps_returnStack h sel rpl
theorem quiet_pushList (sys : Bool) (base mask : W32) (n : Nat) (p : W32) (vs : List W32) :
    Quiet (pushList sys base mask n p vs) := fun _ h => keeps_pushList h sys base mask n vs p
theorem quiet_ioCheck : Quiet ioCheck := fun _ _ => keeps_ioCheck
theorem quiet_privileged : Quiet privileged := fun _ _ => keeps_privileged
theorem quiet_protectedOnly : Quiet protectedOnly := fun _ _ => keeps_protectedOnly
theorem quiet_farSystem (sel : W16) (e2 : W32) : Quiet (farSystem (α := α) sel e2) := fun _ _ => keeps_farSystem sel e2
theorem quiet_farCodeChecks (sel : W16) (off : W32) (d : Desc) : Quiet (farCodeChecks sel off d) :=
  fun _ _ => keeps_farCodeChecks sel off d
theorem quiet_descIfAny (sel : W16) : Quiet (descIfAny sel) := quiet_cond (quiet_pure _) (quiet_descRead sel)

theorem quiet_writeLoc_mem (w : Width) (seg : Sreg) (off v : W32) : Quiet (writeLoc w (.mem seg off) v) :=
  quiet_get fun _ => quiet_accWrite _ _ _

theorem quiet_writeBack_mem (w : Width) (seg : Sreg) (off : W32) (d : Held) (v : W32) :
    Quiet (writeBack w (.mem seg off) d v) := fun _ h => keeps_get_any fun _ => keeps_accWriteProbed h _ _ _ _

theorem quiet_readFarPointer (w : Width) (rm : Rm) : Quiet (readFarPointer w rm) :=
  quiet_bind (quiet_locateMem rm) fun _ => quiet_get fun _ => quiet_bind (quiet_accRead _ _) fun _ =>
    quiet_bind (quiet_accRead _ _) fun _ => quiet_pure _

theorem quiet_pushRegs (w : Width) (rs : List Reg) : ∀ off, Quiet (pushRegs w rs off) := by
  induction rs with
  | nil => exact fun _ => quiet_pure _
  | cons r rs ih => exact fun _ => quiet_get fun _ => quiet_bind (quiet_accWrite _ _ _) fun _ => ih _

theorem quiet_popItems (w : Width) (k : Nat) : ∀ off, Quiet (popItems w k off) := by
  induction k with
  | zero => exact fun _ => quiet_pure _
  | succ k ih =>
    exact fun _ => quiet_get fun _ => quiet_bind (quiet_accRead _ _) fun _ => quiet_bind (ih _) fun _ => quiet_pure _

theorem quiet_enterCopies (w : Width) (k : Nat) : ∀ bp sp, Quiet (enterCopies w k bp sp) := by
  induction k with
  | zero => exact fun _ _ => quiet_pure _
  | succ k ih =>
    exact fun _ _ => quiet_get fun _ => quiet_bind (quiet_accRead _ _) fun _ =>
      quiet_bind (quiet_accWrite _ _ _) fun _ => ih _ _

theorem quiet_copyParams (w : Width) (osp nb nm : W32) (k : Nat) : ∀ p, Quiet (copyParams w osp nb nm k p) := by
  induction k with
  | zero => exact fun _ => quiet_pure _
  | succ k ih =>
    exact fun _ => quiet_get fun _ => quiet_bind (quiet_accRead _ _) fun _ =>
      quiet_bind (quiet_pushList _ _ _ _ _ _) fun _ => ih _

theorem quiet_source {m : M W32} (hm : Source m) : Quiet m := by
  cases hm with
  | reg w r => exact quiet_readReg w r
  | rm w rm => exact quiet_readRm w rm
  | imm v => exact quiet_pure v

theorem quiet_bitPlace {m : M (Loc × Nat)} (hm : BitPlace m) : Quiet m := fun _ _ => keeps_bitPlace hm

theorem settled_advance : Settled advance := settled_upd fun _ => rfl
theorem settled_jumpTo (v : W32) : Settled (jumpTo v) := settled_upd fun _ => rfl
theorem settled_writeReg (w : Width) (r : Reg) (v : W32) : Settled (writeReg w r v) := settled_upd fun _ => rfl
theorem settled_updCc (f : CC → CC) : Settled (updCc f) := settled_upd fun _ => rfl
theorem settled_setSeg (n : Sreg) (sel : W16) (b l r : W32) : Settled (setSeg n sel b l r) := settled_upd fun _ => rfl
theorem settled_setSegFrom (n : Sreg) (sel : W16) (d : Desc) : Settled (setSegFrom n sel d) := settled_upd fun _ => rfl
theorem settled_loadSegReal (n : Sreg) (sel : W16) : Settled (loadSegReal n sel) := settled_upd fun _ => rfl
theorem settled_setZf (b : Bool) : Settled (setZf b) := settled_updCc _

theorem settled_updCc_advance (f : CC → CC) : Settled (do updCc f; advance) :=
  settled_bind (settled_updCc f) fun _ => settled_advance

theorem settled_writeReg_advance (w : Width) (r : Reg) (v : W32) : Settled (do writeReg w r v; advance) :=
  settled_bind (settled_writeReg w r v) fun _ => settled_advance

theorem settled_upd_advance {f : State → State} (hf : ∀ s, (f s).stepFaulted = s.stepFaulted) :
    Settled (do upd f; advance) := settled_bind (settled_upd hf) fun _ => settled_advance

theorem settled_callReadHandler (p : W16) (w : Width) : Settled (callReadHandler p w) :=
  settled_get fun _ => settled_bind (settled_upd fun _ => rfl) fun _ => settled_pure _

theorem settled_callWriteHandler (p : W16) (w : Width) (v : W32) : Settled (callWriteHandler p w v) :=
  settled_get fun _ => settled_upd fun _ => rfl

theorem settled_portReadByte (p : W16) : Settled (portReadByte p) :=
  settled_get fun _ => settled_cond (settled_callReadHandler _ _) (settled_pure _)

theorem settled_portWriteByte (p : W16) (v : W32) : Settled (portWriteByte p v) :=
  settled_get fun _ => settled_cond (settled_callWriteHandler _ _ _) (settled_pure _)

theorem settled_portRead (p : W16) (w : Width) : Settled (portRead p w) := by
  refine settled_get fun s => settled_cond (settled_callReadHandler _ _) ?_
  have two (p : W16) {f : W32 → M W32} (hf : ∀ v, Settled (f v)) : Settled (portReadByte p >>= f) :=
    settled_bind (settled_portReadByte p) hf
  cases w with
  | w8 => exact settled_portReadByte _
  | w16 => exact two _ fun _ => two _ fun _ => settled_pure _
  | w32 => exact two _ fun _ => two _ fun _ => two _ fun _ => two _ fun _ => settled_pure _

theorem settled_portWrite (p : W16) (w : Width) (v : W32) : Settled (portWrite p w v) := by
  refine settled_get fun s => settled_cond (settled_callWriteHandler _ _ _) ?_
  have next (p : W16) (v : W32) {f : Unit → M Unit} (hf : ∀ v, Settled (f v)) : Settled (portWriteByte p v >>= f) :=
    settled_bind (settled_portWriteByte p v) hf
  cases w with
  | w8 => exact settled_portWriteByte _ _
  | w16 => exact next _ _ fun _ => settled_portWriteByte _ _
  | w32 => exact next _ _ fun _ => next _ _ fun _ => next _ _ fun _ => settled_portWriteByte _ _

theorem storeBytes_stepFaulted (as : List W32) (bs : List Byte) (s : State) :
    (s.storeBytes as bs).stepFaulted = s.stepFaulted := by
  induction as generalizing bs s with
  | nil => rfl
  | cons a as ih =>
    cases bs with
    | nil => rfl
    | cons b bs => exact ih bs _

theorem settled_physWrite (pa : W32) (n : Nat) (v : W32) : Settled (physWrite pa n v) :=
  settled_get fun _ => settled_cond (settled_upd fun _ => storeBytes_stepFaulted _ _ _) (settled_abort _)

theorem settled_physWriteEach (as : List W32) (bs : List Byte) : Settled (physWriteEach as bs) := by
  induction as generalizing bs with
  | nil => exact settled_pure ()
  | cons a as ih =>
    cases bs with
    | nil => exact settled_pure ()
    | cons b bs => exact settled_bind (settled_physWrite _ _ _) fun _ => ih bs

/-- The write after a probe cannot raise (R130). -/
theorem settled_accWriteProbed (la : W32) (n : Nat) (as : List W32) (v : W32) : Settled (accWriteProbed la n as v) := by
  refine settled_bind (fun s => ?_) fun _ => settled_physWriteEach _ _
  have quiet : Quiet (translateSpan la n .write s.user) := fun _ h => keeps_translateSpan h _ _ _ _
  rcases translateProbed_cases la n as s with ⟨x, t, h, h'⟩ | ⟨e, t, h, h'⟩ | ⟨r, t, h, h'⟩
  · rw [h']; exact (sameButWalk_of_ok quiet h).stepFaulted
  · rw [h']; rfl
  · rw [h']; exact (sameButWalk_of_error quiet h).stepFaulted

theorem precise_writeLoc (w : Width) (l : Loc) (v : W32) : Precise (writeLoc w l v) := by
  cases l with
  | reg r => exact (settled_writeReg w r v).precise
  | mem seg off => exact (quiet_writeLoc_mem w seg off v).precise

theorem settled_writeBack (w : Width) (l : Loc) (d : Held) (v : W32) : Settled (writeBack w l d v) := by
  cases l with
  | reg r => exact settled_writeReg w r v
  | mem seg off => exact settled_get fun _ => settled_accWriteProbed _ _ _ _

theorem precise_writeRm (w : Width) (rm : Rm) (v : W32) : Precise (writeRm w rm v) :=
  precise_after (quiet_locate rm) fun _ => precise_writeLoc _ _ _

theorem precise_storeWord (w : Width) (rm : Rm) (v : W32) : Precise (storeWord w rm v) := by
  refine precise_after (quiet_locate rm) fun l => ?_
  cases l with
  | reg r => exact (settled_writeReg w r v).precise
  | mem seg off => exact precise_writeLoc _ _ _

theorem precise_push (w : Width) (v : W32) : Precise (push w v) :=
  precise_get fun _ => precise_after (quiet_accWrite _ _ _) fun _ => (settled_upd fun _ => rfl).precise

theorem precise_pop (w : Width) : Precise (pop w) :=
  precise_get fun s => precise_after (quiet_accRead _ _) fun v =>
    (settled_bind (m := upd fun t => t.setReg .w32 .esp
      (maskedInto s.stackMask s.regs.esp (s.regs.esp + BitVec.ofNat 32 w.bytes))) (settled_upd fun _ => rfl)
      fun _ => settled_pure v).precise

theorem precise_loadSeg (n : Sreg) (sel : W16) : Precise (loadSeg n sel) := by
  have stack : Precise (loadSegStack sel) := by
    refine precise_after (quiet_raiseIf _ _) fun _ => precise_get fun _ => ?_
    refine precise_after (quiet_descReadOr _ _) fun d => precise_after (quiet_raiseIf _ _) fun _ => ?_
    refine precise_after (quiet_raiseIf _ _) fun _ => precise_after (quiet_raiseIf _ _) fun _ => ?_
    refine precise_after (quiet_raiseIf _ _) fun _ => ?_
    exact precise_after (quiet_markAccessed d) fun _ => (settled_setSegFrom _ _ _).precise
  have data : Precise (loadSegData n sel) := by
    refine precise_cond (settled_setSeg _ _ _ _ _).precise (precise_get fun _ => ?_)
    refine precise_after (quiet_descReadOr _ _) fun d => precise_after (quiet_raiseIf _ _) fun _ => ?_
    refine precise_after (quiet_raiseIf _ _) fun _ => precise_after (quiet_raiseIf _ _) fun _ => ?_
    refine precise_after (quiet_raiseIf _ _) fun _ => ?_
    exact precise_after (quiet_markAccessed d) fun _ => (settled_setSegFrom _ _ _).precise
  exact precise_get fun _ => precise_cond (settled_loadSegReal _ _).precise (precise_cond stack data)

/-! ### Deliveries at an empty interrupt table -/

/-- A vector beyond the real-mode vector table raises before anything is read (R671). -/
theorem deliverReal_of_limit {s : State} {v : Byte} (ret : W32)
    (h : Nat.blt s.idtr.limit.toNat ((v.setWidth 32 <<< 2 : W32).toNat + 3) = true) :
    deliverReal v ret s = .error (.raise (.gp ((v.setWidth 32 <<< 3) + 2#32))) s := by
  unfold deliverReal
  rw [run_bind_get, h]
  rfl

/-- A vector beyond the interrupt descriptor table raises before anything is read (R673). -/
theorem readIdtGate_of_limit {s : State} {v : Byte} (sw : Bool)
    (h : Nat.blt s.idtr.limit.toNat ((v.setWidth 32 <<< 3 : W32).toNat + 7) = true) :
    readIdtGate v sw s = .error (.raise (.gp ((v.setWidth 32 <<< 3) + 2#32))) s := by
  unfold readIdtGate
  rw [run_bind_get]
  dsimp only
  rw [h]
  rfl

/-- What the gate lookup raises the delivery raises. -/
theorem deliverProt_of_gate_error {s t : State} {v : Byte} {sw : Bool} {x : Stop} (code : Option W32) (hw : Bool)
    (ret : W32) (h : readIdtGate v sw s = .error x t) : deliverProt v sw code hw ret s = .error x t := by
  unfold deliverProt
  rw [run_bind_get, run_bind_error h]

theorem deliver_of_real {s : State} (hpe : s.pe = false) (v : Byte) (sw : Bool) (code : Option W32) (hw : Bool)
    (ret : W32) : deliver v sw code hw ret s = deliverReal v ret s := by
  unfold deliver
  rw [run_bind_get, hpe]
  rfl

theorem deliver_of_prot {s : State} (hpe : s.pe = true) (v : Byte) (sw : Bool) (code : Option W32) (hw : Bool)
    (ret : W32) : deliver v sw code hw ret s = deliverProt v sw code hw ret s := by
  unfold deliver
  rw [run_bind_get, hpe]
  rfl

/-- With an IDT limit of 0 every delivery raises at once and changes nothing (R671, R673). -/
theorem deliver_of_limit_zero {s : State} (hs : s.idtr.limit = 0#32) (v : Byte) (sw : Bool) (code : Option W32)
    (hw : Bool) (ret : W32) : ∃ e, deliver v sw code hw ret s = .error (.raise e) s := by
  have beyond (n : W32) (k : Nat) : Nat.blt s.idtr.limit.toNat (n.toNat + (k + 1)) = true := by
    rw [hs]; exact Nat.blt_eq.mpr (Nat.succ_pos _)
  refine ⟨.gp ((v.setWidth 32 <<< 3) + 2#32), ?_⟩
  cases hpe : s.pe with
  | false => rw [deliver_of_real hpe, deliverReal_of_limit ret (beyond _ 2)]
  | true => rw [deliver_of_prot hpe, deliverProt_of_gate_error code hw ret (readIdtGate_of_limit sw (beyond _ 6))]

/-- With an IDT limit of 0 no exception can be delivered: the machine aborts with nothing else changed (R686). -/
theorem deliverChain_of_limit_zero (n : Nat) : ∀ (e : Exc) (ret : W32) {s : State}, s.idtr.limit = 0#32 →
    deliverChain n e ret s = s.setAborted .tripleFault := by
  induction n with
  | zero => exact fun _ _ _ _ => rfl
  | succ n ih =>
    intro e ret s hs
    obtain ⟨x, hx⟩ := deliver_of_limit_zero hs e.vector false e.code false ret
    rw [deliverChain, hx]
    exact ih x ret hs

theorem precise_softInterrupt (v : Byte) : Precise (softInterrupt v) := fun s hs => by
  obtain ⟨e, he⟩ := deliver_of_limit_zero hs v true none false s.nextpc
  unfold softInterrupt
  rw [run_bind_get, he]
  exact State.sameButWalk.refl s

end Sys2Proof.Machine
end

section
/-! Every rule raises precisely, and so does every instruction (R45, R660, R686). -/

namespace Sys2Proof.Machine

variable {α β : Type}

/-! ### Transfers -/

theorem settled_flags (iret : Bool) (fl m : W32) : Settled (upd fun s => bif iret then flagsWrite s fl m else s) :=
  settled_upd fun _ => by cases iret <;> rfl

theorem clearIfInner_stepFaulted (s : State) (n : Sreg) : (s.clearIfInner n).stepFaulted = s.stepFaulted := by
  unfold State.clearIfInner
  dsimp only
  cases (!(s.segs.get n).rights.getLsbD 11 || !(s.segs.get n).rights.getLsbD 10)
      && (dplOf (s.segs.get n).rights).ult s.cpl <;> rfl

theorem clearDataSegs_stepFaulted (s : State) : s.clearDataSegs.stepFaulted = s.stepFaulted := by
  unfold State.clearDataSegs
  rw [clearIfInner_stepFaulted, clearIfInner_stepFaulted, clearIfInner_stepFaulted, clearIfInner_stepFaulted]

/-- A far return reads and checks everything before it writes a register (R582 to R587). -/
theorem precise_returnProt (iret : Bool) (imm : W32) : Precise (returnProt iret imm) := by
  refine precise_get fun s => precise_after (quiet_accRead _ _) fun off => ?_
  refine precise_after (quiet_accRead _ _) fun csel => ?_
  refine precise_after (quiet_cond (quiet_accRead _ _) (quiet_pure _)) fun fl => ?_
  refine precise_cond (quiet_abort _).precise (precise_after (quiet_returnTarget _) fun d => precise_cond ?_ ?_)
  · refine precise_after (quiet_markAccessed _) fun _ => Settled.precise ?_
    refine settled_bind (settled_upd fun _ => rfl) fun _ => settled_bind (settled_setSegFrom _ _ _) fun _ => ?_
    exact settled_bind (settled_upd fun _ => rfl) fun _ => settled_flags _ _ _
  · refine precise_after (quiet_accRead _ _) fun nesp => precise_after (quiet_accRead _ _) fun nss => ?_
    refine precise_after (quiet_returnStack _ _) fun sd => precise_after (quiet_markAccessed _) fun _ => ?_
    refine precise_after (quiet_markAccessed _) fun _ => Settled.precise ?_
    refine settled_bind (settled_setSegFrom _ _ _) fun _ => settled_bind (settled_setSegFrom _ _ _) fun _ => ?_
    refine settled_bind (settled_upd fun _ => rfl) fun _ => settled_bind (settled_upd fun _ => rfl) fun _ => ?_
    refine settled_bind (settled_upd fun _ => rfl) fun _ => settled_bind (settled_flags _ _ _) fun _ => ?_
    exact settled_upd clearDataSegs_stepFaulted

theorem precise_returnReal : Precise returnReal := by
  refine precise_get fun s => precise_after (quiet_accRead _ _) fun _ => precise_after (quiet_accRead _ _) fun _ => ?_
  refine precise_after (quiet_accRead _ _) fun _ => precise_cond (quiet_abort _).precise (Settled.precise ?_)
  refine settled_bind (settled_upd fun _ => rfl) fun _ => settled_bind (settled_loadSegReal _ _) fun _ => ?_
  exact settled_bind (settled_upd fun _ => rfl) fun _ => settled_upd fun _ => rfl

theorem precise_returnFromException : Precise returnFromException :=
  precise_get fun _ => precise_cond precise_returnReal
    (precise_cond (quiet_abort _).precise (precise_returnProt _ _))

theorem precise_farReturn (w : Width) (imm : W32) : Precise (farReturn w imm) := by
  refine precise_get fun s => precise_cond ?_ (precise_returnProt _ _)
  refine precise_after (quiet_accRead _ _) fun _ => precise_after (quiet_accRead _ _) fun _ => Settled.precise ?_
  exact settled_bind (settled_upd fun _ => rfl) fun _ => settled_bind (settled_loadSegReal _ _) fun _ =>
    settled_jumpTo _

theorem settled_loadCs (sel : W16) (d : Desc) (off : W32) : Settled (do setSegFrom .cs sel d; jumpTo off) :=
  settled_bind (settled_setSegFrom _ _ _) fun _ => settled_jumpTo _

theorem settled_loadCsReal (sel : W16) (off : W32) : Settled (do loadSegReal .cs sel; jumpTo off) :=
  settled_bind (settled_loadSegReal _ _) fun _ => settled_jumpTo _

theorem precise_farJump (sel : W16) (off : W32) : Precise (farJump sel off) := by
  refine precise_get fun s => precise_cond (settled_loadCsReal _ _).precise (precise_get fun _ => ?_)
  refine precise_after (quiet_raiseIf _ _) fun _ => precise_after (quiet_descReadOr _ _) fun d => ?_
  refine precise_cond (quiet_cond (quiet_abort _) (quiet_farSystem _ _)).precise ?_
  refine precise_after (quiet_farCodeChecks _ _ _) fun _ => precise_after (quiet_markAccessed _) fun _ => ?_
  exact (settled_loadCs _ _ _).precise

theorem precise_pushReturn (w : Width) : Precise (pushReturn w) :=
  precise_get fun _ => precise_after (quiet_accWrite _ _ _) fun _ => precise_after (quiet_accWrite _ _ _) fun _ =>
    Settled.precise (settled_upd fun _ => rfl)

theorem precise_callGateInner (gw : Width) (sel : W16) (off : W32) (n : Nat) (t : Desc) :
    Precise (callGateInner gw sel off n t) := by
  refine precise_get fun s => precise_after (quiet_innerStack _) fun i => precise_after (quiet_raiseIf _ _) fun _ => ?_
  refine precise_after (quiet_markAccessed _) fun _ => precise_after (quiet_markAccessed _) fun _ => ?_
  refine precise_after (quiet_pushList _ _ _ _ _ _) fun _ => precise_after (quiet_copyParams _ _ _ _ _ _) fun _ => ?_
  refine precise_after (quiet_pushList _ _ _ _ _ _) fun _ => Settled.precise ?_
  refine settled_bind (settled_setSegFrom _ _ _) fun _ => settled_bind (settled_upd fun _ => rfl) fun _ => ?_
  exact settled_bind (settled_upd fun _ => rfl) fun _ => settled_loadCs _ _ _

theorem precise_callGate (sel : W16) (g : Desc) : Precise (callGate sel g) := by
  refine precise_get fun s => precise_after (quiet_raiseIf _ _) fun _ => precise_after (quiet_raiseIf _ _) fun _ => ?_
  refine precise_after (quiet_gateTarget _) fun t => precise_cond (precise_callGateInner _ _ _ _ _) ?_
  refine precise_after (quiet_raiseIf _ _) fun _ => precise_after (quiet_markAccessed _) fun _ => ?_
  exact precise_before (precise_pushReturn _) fun _ => settled_loadCs _ _ _

theorem precise_farCall (w : Width) (sel : W16) (off : W32) : Precise (farCall w sel off) := by
  refine precise_get fun s => precise_cond
    (precise_before (precise_pushReturn _) fun _ => settled_loadCsReal _ _) (precise_get fun _ => ?_)
  refine precise_after (quiet_raiseIf _ _) fun _ => precise_after (quiet_descReadOr _ _) fun d => ?_
  refine precise_cond (precise_cond (precise_callGate _ _) (quiet_farSystem _ _).precise) ?_
  refine precise_after (quiet_farCodeChecks _ _ _) fun _ => precise_after (quiet_markAccessed _) fun _ => ?_
  exact precise_before (precise_pushReturn _) fun _ => settled_loadCs _ _ _

/-! ### Strings -/

theorem settled_strAdvance (w : Width) (r : Reg) : Settled (upd fun s => s.strAdvance w r) := settled_upd fun _ => rfl

theorem settled_strAdvanceBoth (w : Width) :
    Settled (do upd fun s => s.strAdvance w .esi; upd fun s => s.strAdvance w .edi) :=
  settled_bind (settled_strAdvance w .esi) fun _ => settled_strAdvance w .edi

theorem precise_stringElem {m : M Unit} (hm : StringElem m) : Precise m := by
  cases hm with
  | movs w =>
    exact precise_get fun _ => precise_after (quiet_accRead _ _) fun _ => precise_after (quiet_accWrite _ _ _) fun _ =>
      (settled_strAdvanceBoth w).precise
  | cmps w =>
    refine precise_get fun _ => precise_after (quiet_accRead _ _) fun _ => precise_after (quiet_accRead _ _) fun _ => ?_
    exact Settled.precise (settled_bind (settled_updCc _) fun _ => settled_strAdvanceBoth w)
  | stos w => exact precise_get fun _ => precise_after (quiet_accWrite _ _ _) fun _ => (settled_strAdvance w _).precise
  | lods w =>
    refine precise_get fun _ => precise_after (quiet_accRead _ _) fun _ => Settled.precise ?_
    exact settled_bind (settled_writeReg _ _ _) fun _ => settled_strAdvance w _
  | scas w =>
    refine precise_get fun _ => precise_after (quiet_accRead _ _) fun _ => Settled.precise ?_
    exact settled_bind (settled_updCc _) fun _ => settled_strAdvance w _
  | ins w =>
    refine precise_after quiet_ioCheck fun _ => precise_get fun _ => precise_after (quiet_accProbe _ _) fun _ => ?_
    refine (settled_bind (settled_portRead _ _) fun _ => ?_).precise
    exact settled_bind (settled_accWriteProbed _ _ _ _) fun _ => settled_strAdvance w _
  | outs w =>
    refine precise_after quiet_ioCheck fun _ => precise_get fun _ => precise_after (quiet_accRead _ _) fun _ => ?_
    exact (settled_bind (settled_portWrite _ _ _) fun _ => settled_strAdvance w _).precise

theorem precise_repeated (b : Bool) {e : M Unit} (he : Precise e) : Precise (repeated b e) := by
  refine precise_get fun s => ?_
  cases s.dec.rep with
  | none => exact precise_before he fun _ => settled_advance
  | some rp =>
    refine precise_cond settled_advance.precise (precise_before he fun _ => ?_)
    exact settled_bind (settled_writeReg _ _ _) fun _ => settled_get fun _ =>
      settled_cond settled_advance (settled_pure ())

/-! ### Arithmetic and data movement -/

/-- The end of an update of an operand: its value written back, the flags recorded. -/
theorem settled_update (w : Width) (l : Loc) (d : Held) (v : W32) (f : CC → CC) :
    Settled (do writeBack w l d v; updCc f; advance) :=
  settled_bind (settled_writeBack _ _ _ _) fun _ => settled_updCc_advance _

theorem settled_updateKeepingFlags (w : Width) (l : Loc) (d : Held) (v : W32) :
    Settled (do writeBack w l d v; advance) := settled_bind (settled_writeBack _ _ _ _) fun _ => settled_advance

theorem settled_writeReg_updCc (w : Width) (r : Reg) (v : W32) (f : CC → CC) :
    Settled (do writeReg w r v; updCc f; advance) :=
  settled_bind (settled_writeReg _ _ _) fun _ => settled_updCc_advance _

theorem settled_writeRegs_updCc (w : Width) (r q : Reg) (v x : W32) (f : CC → CC) :
    Settled (do writeReg w r v; writeReg w q x; updCc f; advance) :=
  settled_bind (settled_writeReg _ _ _) fun _ => settled_writeReg_updCc _ _ _ _

theorem precise_aluToRm (op : AluOp) (w : Width) (rm : Rm) {src : M W32} (hs : Quiet src) :
    Precise (aluToRm op w rm src) := by
  refine precise_after (quiet_locate rm) fun l => precise_cond ?_ ?_
  · exact precise_after (quiet_readLocW _ _) fun _ => precise_after hs fun _ => precise_get fun _ =>
      Settled.precise (settled_update _ _ _ _ _)
  · exact precise_after (quiet_readLoc _ _) fun _ => precise_after hs fun _ => Settled.precise (settled_updCc_advance _)

theorem precise_incDecLoc (f : Family) (w : Width) (l : Loc) : Precise (incDecLoc f w l) :=
  precise_after (quiet_readLocW _ _) fun _ => Settled.precise (settled_update _ _ _ _ _)

theorem precise_exchangeAdd (w : Width) (rm : Rm) (r : Reg) : Precise (exchangeAdd w rm r) := by
  refine precise_after (quiet_locate rm) fun l => precise_after (quiet_readLocW _ _) fun _ =>
    precise_after (quiet_readReg _ _) fun _ => Settled.precise ?_
  cases l with
  | reg q => exact settled_writeRegs_updCc _ _ _ _ _ _
  | mem seg off => exact settled_bind (settled_writeBack _ _ _ _) fun _ => settled_writeReg_updCc _ _ _ _

theorem precise_enterFrame (w : Width) (size : W32) (lvl : Byte) : Precise (enterFrame w size lvl) := by
  refine precise_get fun _ => precise_after (quiet_accWrite _ _ _) fun _ => ?_
  refine precise_after (quiet_cond (quiet_pure _) ?_) fun _ => Settled.precise ?_
  · exact quiet_bind (quiet_enterCopies _ _ _ _) fun _ => quiet_bind (quiet_accWrite _ _ _) fun _ => quiet_pure _
  · exact settled_bind (settled_upd fun _ => rfl) fun _ => settled_upd_advance fun _ => rfl

theorem precise_popRm (w : Width) (rm : Rm) : Precise (popRm w rm) := by
  refine precise_after (quiet_locate rm) fun _ => precise_get fun s => precise_after (quiet_accRead _ _) fun v => ?_
  dsimp only
  split
  · exact Settled.precise (settled_bind (settled_upd fun _ => rfl) fun _ => settled_writeReg_advance _ _ _)
  · exact precise_after (quiet_writeLoc_mem _ _ _ _) fun _ => Settled.precise (settled_upd_advance fun _ => rfl)
  · exact (quiet_raise _).precise

theorem precise_loadDescInfo (w : Width) (r : Reg) (rm : Rm) (types : BitVec 4 → Bool) (info : Desc → W32) :
    Precise (loadDescInfo w r rm types info) := by
  refine precise_after (quiet_readRm _ _) fun _ => precise_get fun _ => precise_after (quiet_descIfAny _) fun d => ?_
  have done (b : Bool) : Settled (do setZf b; advance) := settled_bind (settled_setZf b) fun _ => settled_advance
  cases d with
  | none => exact (done false).precise
  | some d => exact (settled_cond (settled_bind (settled_writeReg _ _ _) fun _ => done true) (done false)).precise

/-! ### All rules -/

theorem precise_coreRule {m : M Unit} (hm : CoreRule m) : Precise m := by
  have last := settled_advance.precise
  cases hm with
  | aluToRm op w rm hs => exact precise_aluToRm op w rm (quiet_source hs)
  | aluToReg op w r hs =>
    refine precise_after (quiet_readReg _ _) fun _ => precise_after (quiet_source hs) fun _ => precise_get fun _ => ?_
    exact Settled.precise (settled_bind (settled_cond (settled_writeReg _ _ _) (settled_pure _)) fun _ =>
      settled_updCc_advance _)
  | testWith w hx hy =>
    exact precise_after (quiet_source hx) fun _ => precise_after (quiet_source hy) fun _ =>
      Settled.precise (settled_updCc_advance _)
  | incDecLoc f w l => exact precise_incDecLoc f w l
  | incDecRm f w rm => exact precise_after (quiet_locate rm) fun _ => precise_incDecLoc f w _
  | negate w rm =>
    exact precise_after (quiet_locate rm) fun _ => precise_after (quiet_readLocW _ _) fun _ =>
      Settled.precise (settled_update _ _ _ _ _)
  | complement w rm =>
    exact precise_after (quiet_locate rm) fun _ => precise_after (quiet_readLocW _ _) fun _ =>
      Settled.precise (settled_updateKeepingFlags _ _ _ _)
  | mulUnsigned w rm =>
    exact precise_after (quiet_readRm _ _) fun _ => precise_after (quiet_readReg _ _) fun _ =>
      Settled.precise (settled_bind (settled_upd fun _ => rfl) fun _ => settled_updCc_advance _)
  | mulSigned w rm =>
    exact precise_after (quiet_readRm _ _) fun _ => precise_after (quiet_readReg _ _) fun _ =>
      Settled.precise (settled_bind (settled_upd fun _ => rfl) fun _ => settled_updCc_advance _)
  | mulInto w r hx hy =>
    exact precise_after (quiet_source hx) fun _ => precise_after (quiet_source hy) fun _ =>
      (settled_writeReg_updCc _ _ _ _).precise
  | divUnsigned w rm =>
    exact precise_after (quiet_readRm _ _) fun _ => precise_get fun _ => precise_after (quiet_raiseIf _ _) fun _ =>
      precise_after (quiet_raiseIf _ _) fun _ => Settled.precise (settled_upd_advance fun _ => rfl)
  | divSigned w rm =>
    exact precise_after (quiet_readRm _ _) fun _ => precise_get fun _ => precise_after (quiet_raiseIf _ _) fun _ =>
      precise_after (quiet_raiseIf _ _) fun _ => Settled.precise (settled_upd_advance fun _ => rfl)
  | decimalAdjust b => exact precise_get fun _ => (settled_writeReg_updCc _ _ _ _).precise
  | asciiAdjust b =>
    exact precise_get fun _ => Settled.precise (settled_bind (settled_writeReg _ _ _) fun _ =>
      settled_bind (settled_upd fun _ => rfl) fun _ => settled_updCc_advance _)
  | asciiMul b =>
    exact precise_after (quiet_raiseIf _ _) fun _ => precise_after (quiet_readReg _ _) fun _ =>
      (settled_writeRegs_updCc _ _ _ _ _ _).precise
  | asciiDiv b =>
    exact precise_after (quiet_readReg _ _) fun _ => precise_after (quiet_readReg _ _) fun _ =>
      (settled_writeRegs_updCc _ _ _ _ _ _).precise
  | compareExchange w rm r =>
    refine precise_after (quiet_locate rm) fun _ => precise_after (quiet_readLocW _ _) fun _ => ?_
    refine precise_after (quiet_readReg _ _) fun _ => precise_after (quiet_readReg _ _) fun _ => ?_
    exact Settled.precise (settled_bind (settled_cond (settled_writeBack _ _ _ _) (settled_writeReg _ _ _)) fun _ =>
      settled_updCc_advance _)
  | exchangeAdd w rm r => exact precise_exchangeAdd w rm r
  | exchange w rm r =>
    refine precise_after (quiet_locate rm) fun _ => precise_after (quiet_readLocW _ _) fun _ => ?_
    exact precise_after (quiet_readReg _ _) fun _ =>
      (settled_bind (settled_writeBack _ _ _ _) fun _ => settled_writeReg_advance _ _ _).precise
  | exchangeAcc w r =>
    exact precise_after (quiet_readReg _ _) fun _ => precise_after (quiet_readReg _ _) fun _ =>
      (settled_bind (settled_writeReg _ _ _) fun _ => settled_writeReg_advance _ _ _).precise
  | shiftRm op w rm hc =>
    refine precise_after (quiet_locate rm) fun _ => precise_after (quiet_readLocW _ _) fun _ => ?_
    exact precise_after (quiet_source hc) fun _ => precise_get fun _ =>
      Settled.precise (settled_cond (settled_updateKeepingFlags _ _ _ _) (settled_update _ _ _ _ _))
  | doubleShift left w rm r hc =>
    refine precise_after (quiet_source hc) fun _ => precise_after (quiet_locate rm) fun _ => ?_
    exact precise_after (quiet_readLocW _ _) fun _ => precise_after (quiet_readReg _ _) fun _ =>
      Settled.precise (settled_cond (settled_updateKeepingFlags _ _ _ _) (settled_update _ _ _ _ _))
  | bitTest w hp =>
    exact precise_after (quiet_bitPlace hp) fun _ => precise_after (quiet_readLoc _ _) fun _ =>
      Settled.precise (settled_updCc_advance _)
  | bitModify op w hp =>
    exact precise_after (quiet_bitPlace hp) fun _ => precise_after (quiet_readLocW _ _) fun _ =>
      Settled.precise (settled_update _ _ _ _ _)
  | bitScan pick w r rm =>
    exact precise_after (quiet_readRm _ _) fun _ =>
      Settled.precise (settled_cond (settled_updCc_advance _) (settled_writeReg_updCc _ _ _ _))
  | moveTo w rm hv =>
    exact precise_after (quiet_source hv) fun _ => precise_before (precise_writeRm _ _ _) fun _ => settled_advance
  | moveFrom wd r ws rm f =>
    exact precise_after (quiet_readRm _ _) fun _ => (settled_writeReg_advance _ _ _).precise
  | loadMoffs w ia =>
    exact precise_get fun _ => precise_after (quiet_accRead _ _) fun _ => (settled_writeReg_advance _ _ _).precise
  | storeMoffs w ia => exact precise_get fun _ => precise_after (quiet_accWrite _ _ _) fun _ => last
  | loadEffAddr w r rm =>
    exact precise_after (quiet_locateMem rm) fun _ => (settled_writeReg_advance _ _ _).precise
  | translateByte =>
    exact precise_get fun _ => precise_after (quiet_accRead _ _) fun _ => (settled_writeReg_advance _ _ _).precise
  | condMove w c r rm =>
    refine precise_after (quiet_readRm _ _) fun _ => Settled.precise (settled_upd_advance fun s => ?_)
    cases s.cc.cond c <;> rfl
  | condSet c rm => exact precise_get fun _ => precise_before (precise_writeRm _ _ _) fun _ => settled_advance
  | writeReg w r v => exact (settled_writeReg_advance w r v).precise
  | regToReg ws q wd r f => exact precise_after (quiet_readReg _ _) fun _ => (settled_writeReg_advance _ _ _).precise
  | setRegs f => exact Settled.precise (settled_upd_advance fun _ => rfl)
  | pushValue w hv =>
    exact precise_after (quiet_source hv) fun _ => precise_before (precise_push _ _) fun _ => settled_advance
  | push w v => exact precise_before (precise_push _ _) fun _ => settled_advance
  | pushAll w =>
    exact precise_get fun _ => precise_after (quiet_pushRegs _ _ _) fun _ => Settled.precise (settled_upd_advance fun _ => rfl)
  | pushSelector w n => exact precise_get fun _ => precise_before (precise_push _ _) fun _ => settled_advance
  | popReg w r => exact precise_before (precise_pop _) fun _ => settled_writeReg_advance _ _ _
  | popRm w rm => exact precise_popRm w rm
  | popAll w =>
    refine precise_get fun _ => precise_after (quiet_popItems _ _ _) fun _ => Settled.precise ?_
    exact settled_bind (settled_upd fun _ => rfl) fun _ => settled_bind (settled_upd fun _ => rfl) fun _ =>
      settled_upd_advance fun _ => rfl
  | popFlags w s => exact precise_before (precise_pop _) fun _ => settled_upd_advance fun _ => rfl
  | popSelector w h1 h2 =>
    exact precise_get fun _ => precise_after (quiet_accRead _ _) fun _ =>
      precise_before (precise_loadSeg _ _) fun _ => settled_upd_advance fun _ => rfl
  | loadFarPointer w r rm h1 h2 =>
    exact precise_after (quiet_readFarPointer _ _) fun _ =>
      precise_before (precise_loadSeg _ _) fun _ => settled_writeReg_advance _ _ _
  | storeSelector w rm n => exact precise_get fun _ => precise_before (precise_storeWord _ _ _) fun _ => settled_advance
  | branchIf c d => exact precise_get fun _ => (settled_jumpTo _).precise
  | jumpRm w rm => exact precise_after (quiet_readRm _ _) fun _ => (settled_jumpTo _).precise
  | callNear w ht =>
    exact precise_after (quiet_source ht) fun _ => precise_get fun _ =>
      precise_before (precise_push _ _) fun _ => settled_jumpTo _
  | retNear w imm =>
    exact precise_get fun _ => precise_after (quiet_accRead _ _) fun _ =>
      Settled.precise (settled_bind (settled_upd fun _ => rfl) fun _ => settled_jumpTo _)
  | countLoop test d =>
    exact precise_get fun _ => (settled_bind (settled_writeReg _ _ _) fun _ => settled_jumpTo _).precise
  | enterFrame w size lvl => exact precise_enterFrame w size lvl
  | leaveFrame w =>
    exact precise_get fun _ => precise_after (quiet_accRead _ _) fun _ =>
      Settled.precise (settled_bind (settled_upd fun _ => rfl) fun _ => settled_writeReg_advance _ _ _)
  | softInterrupt v => exact precise_softInterrupt v
  | interruptIf c v => exact precise_cond (precise_softInterrupt v) last
  | boundCheck w r rm =>
    exact precise_after (quiet_locateMem rm) fun _ => precise_get fun _ => precise_after (quiet_accRead _ _) fun _ =>
      precise_after (quiet_accRead _ _) fun _ => precise_after (quiet_raiseIf _ _) fun _ => last
  | repeated b he => exact precise_repeated b (precise_stringElem he)
  | portIn w port =>
    exact precise_after quiet_ioCheck fun _ =>
      (settled_bind (settled_portRead _ _) fun _ => settled_writeReg_advance _ _ _).precise
  | portOut w port =>
    exact precise_after quiet_ioCheck fun _ => precise_get fun _ =>
      (settled_bind (settled_portWrite _ _ _) fun _ => settled_advance).precise
  | farJump sel off => exact precise_farJump sel off
  | farJumpM w rm => exact precise_after (quiet_readFarPointer _ _) fun _ => precise_farJump _ _
  | farCall w sel off => exact precise_farCall w sel off
  | farCallM w rm => exact precise_after (quiet_readFarPointer _ _) fun _ => precise_farCall _ _ _
  | farReturn w imm => exact precise_farReturn w imm
  | returnFromException => exact precise_returnFromException
  | changeFlags f => exact Settled.precise (settled_updCc_advance _)
  | flagsFrom w r f => exact precise_after (quiet_readReg _ _) fun _ => Settled.precise (settled_updCc_advance _)
  | setDf b => exact Settled.precise (settled_upd_advance fun _ => rfl)
  | clearIf => exact precise_after quiet_ioCheck fun _ => Settled.precise (settled_upd_advance fun _ => rfl)
  | setIf => exact precise_after quiet_ioCheck fun _ => Settled.precise (settled_upd_advance fun _ => rfl)
  | advance => exact last
  | raise e => exact (quiet_raise e).precise
  | check c e => exact precise_after (quiet_raiseIf _ _) fun _ => last
  | timeStamp c e n =>
    exact precise_after (quiet_raiseIf _ _) fun _ =>
      (settled_bind (settled_writeReg _ _ _) fun _ => settled_writeReg_advance _ _ _).precise
  | privileged => exact precise_after quiet_privileged fun _ => last
  | writeDebug rm => exact precise_after (quiet_locateReg rm) fun _ => precise_after quiet_privileged fun _ => last
  | readControl rm n =>
    exact precise_after (quiet_locateReg rm) fun _ => precise_after (quiet_raiseIf _ _) fun _ =>
      precise_after quiet_privileged fun _ => Settled.precise (settled_upd_advance fun _ => rfl)
  | storeTable rm t =>
    exact precise_after (quiet_locateMem rm) fun _ => precise_get fun _ => precise_after (quiet_accWrite _ _ _) fun _ =>
      precise_after (quiet_accWrite _ _ _) fun _ => last
  | storeWord w rm v => exact precise_before (precise_storeWord _ _ _) fun _ => settled_advance
  | protStoreSelector w rm n =>
    exact precise_after quiet_protectedOnly fun _ => precise_get fun _ =>
      precise_before (precise_storeWord _ _ _) fun _ => settled_advance
  | verify test rm =>
    refine precise_after quiet_protectedOnly fun _ => precise_after (quiet_readRm _ _) fun _ => precise_get fun _ => ?_
    exact precise_after (quiet_descIfAny _) fun _ =>
      (settled_bind (settled_setZf _) fun _ => settled_advance).precise
  | adjustRpl rm r =>
    have done (b : Bool) : Settled (do setZf b; Machine.advance) :=
      settled_bind (settled_setZf b) fun _ => settled_advance
    refine precise_after quiet_protectedOnly fun _ => precise_after (quiet_locate rm) fun _ => ?_
    exact precise_after (quiet_readLocW _ _) fun _ => precise_after (quiet_readReg _ _) fun _ =>
      (settled_cond (settled_bind (settled_writeBack _ _ _ _) fun _ => done true) (done false)).precise
  | loadDescInfo w r rm types info =>
    exact precise_after quiet_protectedOnly fun _ => precise_loadDescInfo w r rm types info

theorem precise_loadTable (w : Width) (rm : Rm) {put : State → TableReg → State}
    (hput : ∀ s t, (put s t).stepFaulted = s.stepFaulted) : Precise (loadTable w rm put) :=
  precise_after (quiet_locateMem rm) fun _ => precise_after quiet_privileged fun _ => precise_get fun _ =>
    precise_after (quiet_accRead _ _) fun _ => precise_after (quiet_accRead _ _) fun _ =>
      Settled.precise (settled_upd_advance fun _ => hput _ _)

theorem writeCr0_stepFaulted (s : State) (v : W32) : (s.writeCr0 v).stepFaulted = s.stepFaulted := by
  unfold State.writeCr0
  dsimp only
  cases ((v ||| 0x00000010#32) ^^^ s.cr0) &&& 0x80010001#32 == 0#32 <;> rfl

theorem writeCr_stepFaulted (s : State) (n : BitVec 3) (v : W32) : (s.writeCr n v).stepFaulted = s.stepFaulted := by
  unfold State.writeCr
  cases n == 0#3 with
  | true => exact writeCr0_stepFaulted s v
  | false => cases n == 2#3 <;> cases n == 3#3 <;> rfl

theorem precise_systemRule {m : M Unit} (hm : SystemRule m) : Precise m := by
  have behind {f : Unit → M Unit} (hf : ∀ u, Precise (f u)) : Precise (Machine.privileged >>= f) :=
    precise_after quiet_privileged hf
  have loaded (n : Sreg) (sel : W16) (b l r : W32) : Precise (do setSeg n sel b l r; advance) :=
    (settled_bind (settled_setSeg _ _ _ _ _) fun _ => settled_advance).precise
  cases hm with
  | halt => exact behind fun _ => Settled.precise (settled_upd_advance fun _ => rfl)
  | clearTs => exact behind fun _ => Settled.precise (settled_upd_advance fun _ => rfl)
  | loadMsw w rm =>
    exact behind fun _ => precise_after (quiet_readRm _ _) fun _ =>
      Settled.precise (settled_upd_advance fun _ => writeCr0_stepFaulted _ _)
  | loadLdtr rm =>
    refine precise_after quiet_protectedOnly fun _ => behind fun _ => precise_after (quiet_readRm _ _) fun _ => ?_
    refine precise_cond (loaded _ _ _ _ _) (precise_after (quiet_raiseIf _ _) fun _ => ?_)
    exact precise_after (quiet_descReadOr _ _) fun _ => precise_after (quiet_raiseIf _ _) fun _ =>
      precise_after (quiet_raiseIf _ _) fun _ => loaded _ _ _ _ _
  | loadTr rm =>
    refine precise_after quiet_protectedOnly fun _ => behind fun _ => precise_after (quiet_readRm _ _) fun _ => ?_
    refine precise_after (quiet_raiseIf _ _) fun _ => precise_after (quiet_raiseIf _ _) fun _ => ?_
    exact precise_after (quiet_descReadOr _ _) fun _ => precise_after (quiet_raiseIf _ _) fun _ =>
      precise_after (quiet_raiseIf _ _) fun _ => precise_after (quiet_sysWrite _ _ _) fun _ => loaded _ _ _ _ _
  | loadGdtr w rm => exact precise_loadTable w rm fun _ _ => rfl
  | loadIdtr w rm => exact precise_loadTable w rm fun _ _ => rfl
  | writeControl rm n =>
    exact precise_after (quiet_locateReg rm) fun _ => precise_after (quiet_raiseIf _ _) fun _ => behind fun _ =>
      Settled.precise (settled_upd_advance fun _ => writeCr_stepFaulted _ _ _)
  | flushPage rm =>
    exact precise_after (quiet_locateMem rm) fun _ => behind fun _ => Settled.precise (settled_upd_advance fun _ => rfl)

theorem precise_loadSelector (n : Sreg) (rm : Rm) : Precise (loadSelector n rm) :=
  precise_after (quiet_readRm _ _) fun _ => precise_before (precise_loadSeg _ _) fun _ => settled_advance

/-! ### The instructions -/

/-- An instruction whose rule raises precisely takes its exception, if any, from a state that is the one before it but
for what a translation writes; with an IDT limit of 0 the machine then aborts in that state. -/
theorem complete_of_precise {m : M Unit} (hm : Precise m) {s t : State} (hs : s.idtr.limit = 0#32)
    (hf : s.stepFaulted = false) (ht : complete m s = .next t) (htf : t.stepFaulted = true) :
    ∃ u, s.sameButWalk u ∧ t = (u.setStepFaulted true).setAborted .tripleFault := by
  have h := hm s hs
  cases hr : m s with
  | ok a u =>
    rw [hr] at h
    rw [complete_ok hr] at ht
    cases ht
    have hu : t.stepFaulted = s.stepFaulted := h
    rw [hu, hf] at htf
    cases htf
  | error x u =>
    rw [hr] at h
    cases x with
    | raise e =>
      have walk : s.sameButWalk u := h
      rw [complete_raise hr] at ht
      cases ht
      refine ⟨u, walk, ?_⟩
      exact deliverChain_of_limit_zero 3 e u.pc (s := u.setStepFaulted true) (walk.idtr ▸ hs)
    | abort r =>
      rw [complete_abort hr] at ht
      cases ht
      have hu : u.stepFaulted = s.stepFaulted := h
      have htf : u.stepFaulted = true := htf
      rw [hu, hf] at htf
      cases htf

/-- Settles O29: every rule raises before it writes a register, and no delivery changes anything at an IDT limit of 0. -/
theorem exceptionsArePrecise : Obligations.ExceptionsArePrecise := by
  intro i s t hs hf ht htf
  have raised : ∃ u, s.sameButWalk u ∧ t = (u.setStepFaulted true).setAborted .tripleFault := by
    cases execForm i s with
    | core he hm => exact complete_of_precise (precise_coreRule hm) hs hf (he ▸ ht) htf
    | system he hm => exact complete_of_precise (precise_systemRule hm) hs hf (he ▸ ht) htf
    | loadSelector n rm hi he => exact complete_of_precise (precise_loadSelector _ rm) hs hf (he ▸ ht) htf
    | pfx hi he hd =>
      rw [he] at ht
      cases ht
      have hs' : s.stepFaulted = true := htf
      rw [hf] at hs'
      cases hs'
  obtain ⟨u, walk, rfl⟩ := raised
  rw [walk]
  exact ⟨rfl, rfl, rfl, rfl, rfl, rfl, rfl, rfl, rfl, rfl, rfl, rfl, rfl, rfl, rfl, rfl⟩

end Sys2Proof.Machine
end

section
/-! The decoder undoes the encoder (R220 to R262): each part of an encoding is read back by the part of the decoder that
the table puts there. -/

namespace Sys2Proof

/-! ### Reading the parts of an encoding -/

/-- Within n bytes of the limit the decoding reads the bytes and answers, whatever follows them. -/
def Reads {α : Type} (f : Fetch α) (n : Nat) (bs : List Byte) (a : α) : Prop :=
  ∀ (len : Nat) (rest : List Byte), len + n ≤ Config.maxInsnLen → f.run len (bs ++ rest) = .ok (a, rest)

variable {α : Type} {m : Mode}

theorem reads_done (a : α) : Reads (.done a) 0 [] a := fun _ _ _ => rfl

theorem reads_byte {k : Byte → Fetch α} {n : Nat} {b : Byte} {bs : List Byte} {a : α} (h : Reads (k b) n bs a) :
    Reads (.byte k) (n + 1) (b :: bs) a := fun len rest hlen => by
  have hlen : len + (n + 1) ≤ 15 := hlen
  rw [List.cons_append, run_byte k b _ (by omega)]
  exact h _ _ (by show _ ≤ 15; omega)

theorem reads_word {k : W16 → Fetch α} {n : Nat} {v : W16} {bs : List Byte} {a : α} (h : Reads (k v) n bs a) :
    Reads (.word k) (n + 2) (le16 v ++ bs) a := fun len rest hlen => by
  have hlen : len + (n + 2) ≤ 15 := hlen
  rw [List.append_assoc, run_word k v _ (by omega)]
  exact h _ _ (by show _ ≤ 15; omega)

theorem reads_immV {k : ImmV → Fetch α} {n : Nat} {v : ImmV} {bs : List Byte} {a : α} (hv : v.okOsz m = true)
    (h : Reads (k v) n bs a) : Reads (immV m k) (n + 4) (v.bytes ++ bs) a := fun len rest hlen => by
  have hlen : len + (n + 4) ≤ 15 := hlen
  have := immBytes_length_le v
  rw [List.append_assoc, run_immV m k v _ hv (by omega)]
  exact h _ _ (by show _ ≤ 15; omega)

theorem reads_immA {k : ImmV → Fetch α} {n : Nat} {v : ImmV} {bs : List Byte} {a : α} (hv : v.okAsz m = true)
    (h : Reads (k v) n bs a) : Reads (immA m k) (n + 4) (v.bytes ++ bs) a := fun len rest hlen => by
  have hlen : len + (n + 4) ≤ 15 := hlen
  have := immBytes_length_le v
  rw [List.append_assoc, run_immA m k v _ hv (by omega)]
  exact h _ _ (by show _ ≤ 15; omega)

theorem reads_rm {F : Byte → Fetch α} {k : Rm → Fetch α} {n : Nat} {reg : BitVec 3} {rm : Rm} {bs : List Byte} {a : α}
    (hrm : rm.ok m = true) (hF : ∀ b, regF b = reg → F b = rmOf m b k) (h : Reads (k rm) n bs a) :
    Reads (.byte F) (n + 6) (encodeRm reg rm ++ bs) a := fun len rest hlen => by
  have hlen : len + (n + 6) ≤ 15 := hlen
  have := encodeRm_length_le reg rm
  rw [List.append_assoc, run_rmByte m F k reg _ hrm (by omega) hF]
  exact h _ _ (by show _ ≤ 15; omega)

theorem reads_wordLast {k : W16 → α} {v : W16} : Reads (.word fun v => .done (k v)) 2 (le16 v) (k v) :=
  reads_word (bs := []) (reads_done _)

theorem reads_then {c : Bool} {x y : Fetch α} {n : Nat} {bs : List Byte} {a : α} (hc : c = true)
    (h : Reads x n bs a) : Reads (if c then x else y) n bs a := by rwa [hc, if_pos rfl]

theorem reads_byteLast {k : Byte → α} {b : Byte} : Reads (.byte fun b => .done (k b)) 1 [b] (k b) :=
  reads_byte (reads_done _)

/-- The same where nothing follows the operand. -/
theorem reads_rmLast {F : Byte → Fetch α} {k : Rm → α} {reg : BitVec 3} {rm : Rm} {a : α}
    (hrm : rm.ok m = true) (hF : ∀ b, regF b = reg → F b = rmOf m b fun rm => .done (k rm)) (h : k rm = a) :
    Reads (.byte F) 6 (encodeRm reg rm) a := by
  subst h
  have := reads_rm (bs := []) hrm hF (reads_done (k rm))
  rwa [List.append_nil] at this

theorem reads_immVLast {k : ImmV → α} {v : ImmV} (hv : v.okOsz m = true) :
    Reads (immV m fun v => .done (k v)) 4 v.bytes (k v) := by
  have := reads_immV (bs := []) (k := fun v => .done (k v)) hv (reads_done (k v))
  rwa [List.append_nil] at this

theorem reads_immALast {k : ImmV → α} {v : ImmV} (hv : v.okAsz m = true) :
    Reads (immA m fun v => .done (k v)) 4 v.bytes (k v) := by
  have := reads_immA (bs := []) (k := fun v => .done (k v)) hv (reads_done (k v))
  rwa [List.append_nil] at this

/-- A far pointer, the offset then the selector, is read back (R237). -/
theorem reads_ptr {K : ImmV → W16 → α} {off : ImmV} {sel : W16} (hv : off.okOsz m = true) :
    Reads (immV m fun off => .word fun sel => .done (K off sel)) (2 + 4) (off.bytes ++ le16 sel) (K off sel) :=
  reads_immV hv reads_wordLast

/-- An operand whose reading ends at its ModRM byte is read back as such (R262). -/
theorem reads_cut {F : Byte → Fetch α} {k : Rm → α} {reg : BitVec 3} {rm : Rm} (hrm : rm.isCut = true)
    (hF : ∀ b, regF b = reg → F b = .done (k (.cut (modF b) (rmF b)))) : Reads (.byte F) 1 (encodeRm reg rm) (k rm) := by
  cases rm with
  | cut mod r =>
    refine reads_byte (bs := []) ?_
    rw [hF _ (regF_modrmByte mod reg r), modF_modrmByte, rmF_modrmByte]
    exact reads_done _
  | _ => cases hrm

/-- An operand that must be a register is read back, and so is one whose reading ended for that reason (R241). -/
theorem reads_mod3 (K : Rm → BitVec 3 → α) {reg : BitVec 3} {rm : Rm} (hrm : rm.okMod3 = true) :
    Reads (.byte fun b => if modF b == 3#2 then .done (K (.reg (Reg.ofNum (rmF b))) (regF b))
      else .done (K (.cut (modF b) (rmF b)) (regF b))) 1 (encodeRm reg rm) (K rm reg) := by
  cases rm with
  | reg r =>
    refine reads_byte (bs := []) ?_
    rw [modF_modrmByte, rmF_modrmByte, regF_modrmByte, Reg.ofNum_num]
    exact reads_done _
  | cut mod r =>
    have hmod : (mod == 3#2) = false := by
      change (mod != 3#2) = true at hrm
      simpa using hrm
    refine reads_byte (bs := []) ?_
    rw [modF_modrmByte, rmF_modrmByte, regF_modrmByte, hmod]
    exact reads_done _
  | _ => cases hrm

/-! ### The rows of a group -/

section
variable {β : Type} (a0 a1 a2 a3 a4 a5 a6 a7 : β)
theorem pick8_0 : pick8 0#3 a0 a1 a2 a3 a4 a5 a6 a7 = a0 := rfl
theorem pick8_1 : pick8 1#3 a0 a1 a2 a3 a4 a5 a6 a7 = a1 := rfl
theorem pick8_2 : pick8 2#3 a0 a1 a2 a3 a4 a5 a6 a7 = a2 := rfl
theorem pick8_3 : pick8 3#3 a0 a1 a2 a3 a4 a5 a6 a7 = a3 := rfl
theorem pick8_4 : pick8 4#3 a0 a1 a2 a3 a4 a5 a6 a7 = a4 := rfl
theorem pick8_5 : pick8 5#3 a0 a1 a2 a3 a4 a5 a6 a7 = a5 := rfl
theorem pick8_6 : pick8 6#3 a0 a1 a2 a3 a4 a5 a6 a7 = a6 := rfl
theorem pick8_7 : pick8 7#3 a0 a1 a2 a3 a4 a5 a6 a7 = a7 := rfl
end

/-- The three bits of an escape opcode have eight values. -/
theorem escape_cases (e : BitVec 3) :
    e = 0#3 ∨ e = 1#3 ∨ e = 2#3 ∨ e = 3#3 ∨ e = 4#3 ∨ e = 5#3 ∨ e = 6#3 ∨ e = 7#3 := by
  revert e
  decide

/-- A row that in real-address mode ends at its ModRM byte and in protected mode has an r/m operand (R600). -/
theorem reads_protected {F : Byte → Fetch α} {k : Rm → α} {reg : BitVec 3} {rm : Rm}
    (hrm : (if m.pe then rm.ok m else rm.isCut) = true)
    (hF : ∀ b, regF b = reg →
      F b = if m.pe then rmOf m b fun rm => .done (k rm) else .done (k (.cut (modF b) (rmF b)))) :
    Reads (.byte F) 6 (encodeRm reg rm) (k rm) := by
  cases hp : m.pe with
  | true =>
    rw [hp, if_pos rfl] at hrm
    exact reads_rmLast hrm (fun b hb => by rw [hF b hb, hp, if_pos rfl]) rfl
  | false =>
    rw [hp, if_neg Bool.false_ne_true] at hrm
    have cut : Reads (.byte F) 1 (encodeRm reg rm) (k rm) :=
      reads_cut hrm fun b hb => by rw [hF b hb, hp, if_neg Bool.false_ne_true]
    exact fun len rest hlen => cut len rest (by omega)

/-- LAR, LSL and ARPL end at their opcode in real-address mode (R600). -/
theorem reads_protectedReg {k : Reg → Rm → α} {r : Reg} {rm : Rm}
    (hrm : (if m.pe then rm.ok m else rm == .absent && r == .eax) = true) :
    Reads (if m.pe then .byte fun b => rmOf m b fun rm => .done (k (Reg.ofNum (regF b)) rm) else .done (k .eax .absent))
      6 (encodeRm r.num rm) (k r rm) := by
  cases hp : m.pe with
  | true =>
    rw [hp, if_pos rfl] at hrm
    exact reads_then rfl (reads_rmLast hrm (fun _ hb => by rw [hb]) (by rw [Reg.ofNum_num]))
  | false =>
    rw [hp, if_neg Bool.false_ne_true] at hrm
    obtain ⟨h1, h2⟩ := Bool.and_eq_true_iff.mp hrm
    obtain ⟨rfl, rfl⟩ : rm = .absent ∧ r = .eax := ⟨eq_of_beq h1, eq_of_beq h2⟩
    exact fun len rest _ => rfl

/-- A row that ends at its ModRM byte where the number in it names no register it may (R561, R562). -/
theorem reads_cutOr {K : Rm → BitVec 3 → α} {c : BitVec 3 → Bool} {n : BitVec 3} {rm : Rm}
    (hrm : (if c n then rm.isCut else rm.ok m) = true) :
    Reads (.byte fun b => if c (regF b) then .done (K (.cut (modF b) (rmF b)) (regF b))
      else rmOf m b fun rm => .done (K rm (regF b))) 6 (encodeRm n rm) (K rm n) := by
  cases hc : c n with
  | true =>
    rw [hc, if_pos rfl] at hrm
    have cut := reads_cut (F := fun b => if c (regF b) then .done (K (.cut (modF b) (rmF b)) (regF b))
      else rmOf m b fun rm => .done (K rm (regF b))) (k := fun rm => K rm n) (reg := n) hrm
      fun b hb => by rw [hb, hc, if_pos rfl]
    exact fun len rest hlen => cut len rest (by omega)
  | false =>
    rw [hc, if_neg Bool.false_ne_true] at hrm
    exact reads_rmLast hrm (fun b hb => by rw [hb, hc, if_neg Bool.false_ne_true]) rfl

/-! ### The rows of the tables -/

theorem decoded {m : Mode} {i : Instr} {rest : List Byte}
    (h : ∃ n, Reads (decode m) n (encode i) i ∧ n ≤ Config.maxInsnLen) :
    decodeBytes m (encode i ++ rest) = .ok (i, rest) := by
  obtain ⟨n, hreads, hn⟩ := h
  exact hreads 0 rest (by rwa [Nat.zero_add])

/-- Settles O1: row by row, what the encoder wrote is what the decoder reads. -/
theorem decodeInvertsEncode : Obligations.DecodeInvertsEncode := by
  intro m i rest hw
  cases i with
  | pushRv r | popRv r | bswapR32 r => cases r <;> exact rfl
  | movR8Imm8 r => cases r <;> exact decoded ⟨_, reads_byte reads_byteLast, by decide⟩
  | movRvImmv r => cases r <;> exact decoded ⟨_, reads_byte (reads_immVLast hw), by decide⟩
  | jccRel8 c => cases c <;> exact decoded ⟨_, reads_byte reads_byteLast, by decide⟩
  | jccRelv c => cases c <;> exact decoded ⟨_, reads_byte (reads_byte (reads_immVLast hw)), by decide⟩
  | cmovRvRmv c =>
    cases c <;> exact decoded ⟨_,
      reads_byte (reads_byte (reads_rmLast hw (fun _ hb => by rw [hb, Reg.ofNum_num]; rfl) rfl)), by decide⟩
  | setccRm8 c =>
    cases c <;> exact decoded ⟨_, reads_byte (reads_byte (reads_rmLast hw (fun _ hb => by rw [hb]; rfl) rfl)), by decide⟩
  | addRm8Imm8 x82 =>
    cases x82 <;> exact decoded ⟨_, reads_byte (reads_rm hw (fun _ hb => by rw [hb, pick8_0]) reads_byteLast), by decide⟩
  | orRm8Imm8 x82 =>
    cases x82 <;> exact decoded ⟨_, reads_byte (reads_rm hw (fun _ hb => by rw [hb, pick8_1]) reads_byteLast), by decide⟩
  | adcRm8Imm8 x82 =>
    cases x82 <;> exact decoded ⟨_, reads_byte (reads_rm hw (fun _ hb => by rw [hb, pick8_2]) reads_byteLast), by decide⟩
  | sbbRm8Imm8 x82 =>
    cases x82 <;> exact decoded ⟨_, reads_byte (reads_rm hw (fun _ hb => by rw [hb, pick8_3]) reads_byteLast), by decide⟩
  | andRm8Imm8 x82 =>
    cases x82 <;> exact decoded ⟨_, reads_byte (reads_rm hw (fun _ hb => by rw [hb, pick8_4]) reads_byteLast), by decide⟩
  | subRm8Imm8 x82 =>
    cases x82 <;> exact decoded ⟨_, reads_byte (reads_rm hw (fun _ hb => by rw [hb, pick8_5]) reads_byteLast), by decide⟩
  | xorRm8Imm8 x82 =>
    cases x82 <;> exact decoded ⟨_, reads_byte (reads_rm hw (fun _ hb => by rw [hb, pick8_6]) reads_byteLast), by decide⟩
  | cmpRm8Imm8 x82 =>
    cases x82 <;> exact decoded ⟨_, reads_byte (reads_rm hw (fun _ hb => by rw [hb, pick8_7]) reads_byteLast), by decide⟩
  | esc e =>
    rcases escape_cases e with rfl | rfl | rfl | rfl | rfl | rfl | rfl | rfl <;> exact decoded ⟨_,
      reads_byte (reads_rmLast hw (fun _ hb => by rw [hb]) rfl), by decide⟩
  | sldtRm16 =>
    exact decoded ⟨_, reads_byte (reads_byte (reads_protected hw fun _ hb => by rw [hb, pick8_0])), by decide⟩
  | strRm16 =>
    exact decoded ⟨_, reads_byte (reads_byte (reads_protected hw fun _ hb => by rw [hb, pick8_1])), by decide⟩
  | lldtRm16 =>
    exact decoded ⟨_, reads_byte (reads_byte (reads_protected hw fun _ hb => by rw [hb, pick8_2])), by decide⟩
  | ltrRm16 =>
    exact decoded ⟨_, reads_byte (reads_byte (reads_protected hw fun _ hb => by rw [hb, pick8_3])), by decide⟩
  | verrRm16 =>
    exact decoded ⟨_, reads_byte (reads_byte (reads_protected hw fun _ hb => by rw [hb, pick8_4])), by decide⟩
  | verwRm16 =>
    exact decoded ⟨_, reads_byte (reads_byte (reads_protected hw fun _ hb => by rw [hb, pick8_5])), by decide⟩
  | larRvRm16 | lslRvRm16 => exact decoded ⟨_, reads_byte (reads_byte (reads_protectedReg hw)), by decide⟩
  | arplRm16R16 rm r =>
    exact decoded ⟨_, reads_byte (reads_protectedReg (k := fun r rm => Instr.arplRm16R16 rm r) hw), by decide⟩
  | movR32Cr =>
    exact decoded ⟨_, reads_byte (reads_byte (reads_mod3 Instr.movR32Cr hw)), by decide⟩
  | movCrR32 =>
    exact decoded ⟨_, reads_byte (reads_byte (reads_mod3 (fun rm n => Instr.movCrR32 n rm) hw)), by decide⟩
  | movDrR32 =>
    exact decoded ⟨_, reads_byte (reads_byte (reads_mod3 (fun rm n => Instr.movDrR32 n rm) hw)), by decide⟩
  | movRm16Sreg rm n =>
    exact decoded ⟨_, reads_byte (reads_cutOr (K := Instr.movRm16Sreg) (c := fun n => n == 6#3 || n == 7#3) hw), by decide⟩
  | movSregRm16 n rm =>
    exact decoded ⟨_, reads_byte (reads_cutOr (K := fun rm n => Instr.movSregRm16 n rm)
      (c := fun n => n == 1#3 || n == 6#3 || n == 7#3) hw), by decide⟩
  | addRm8R8 | addRmvRv | addR8Rm8 | addRvRmv | orRm8R8 | orRmvRv | orR8Rm8 | orRvRmv | adcRm8R8 | adcRmvRv
  | adcR8Rm8 | adcRvRmv | sbbRm8R8 | sbbRmvRv | sbbR8Rm8 | sbbRvRmv | andRm8R8 | andRmvRv | andR8Rm8 | andRvRmv
  | subRm8R8 | subRmvRv | subR8Rm8 | subRvRmv | xorRm8R8 | xorRmvRv | xorR8Rm8 | xorRvRmv | cmpRm8R8 | cmpRmvRv
  | cmpR8Rm8 | cmpRvRmv | boundRvM | testRm8R8 | testRmvRv | xchgRm8R8 | xchgRmvRv | movRm8R8 | movRmvRv | movR8Rm8
  | movRvRmv | leaRvM | lesRvM | ldsRvM =>
    exact decoded ⟨_, reads_byte (reads_rmLast hw (fun _ hb => by rw [hb, Reg.ofNum_num]) rfl), by decide⟩
  | addAlImm8 | orAlImm8 | adcAlImm8 | sbbAlImm8 | andAlImm8 | subAlImm8 | xorAlImm8 | cmpAlImm8 | pushImm8
  | testAlImm8 | intImm8 | aam | aad | loopneRel8 | loopeRel8 | loopRel8 | jcxzRel8 | inAlImm8 | inEaxImm8
  | outImm8Al | outImm8Eax | jmpRel8 =>
    exact decoded ⟨_, reads_byte reads_byteLast, by decide⟩
  | addEaxImmv | orEaxImmv | adcEaxImmv | sbbEaxImmv | andEaxImmv | subEaxImmv | xorEaxImmv | cmpEaxImmv | pushImmv
  | testEaxImmv | callRelv | jmpRelv =>
    exact decoded ⟨_, reads_byte (reads_immVLast hw), by decide⟩
  | imulRvRmvImmv =>
    obtain ⟨hrm, hv⟩ := Bool.and_eq_true_iff.mp hw
    exact decoded ⟨_, reads_byte (reads_rm hrm (fun _ hb => by rw [hb, Reg.ofNum_num]) (reads_immVLast hv)), by decide⟩
  | imulRvRmvImm8 =>
    exact decoded ⟨_, reads_byte (reads_rm hw (fun _ hb => by rw [hb, Reg.ofNum_num]) reads_byteLast), by decide⟩
  | addRmvImmv | movRmvImmv | testRmvImmv =>
    obtain ⟨hrm, hv⟩ := Bool.and_eq_true_iff.mp hw
    exact decoded ⟨_, reads_byte (reads_rm hrm (fun _ hb => by rw [hb, pick8_0]) (reads_immVLast hv)), by decide⟩
  | orRmvImmv =>
    obtain ⟨hrm, hv⟩ := Bool.and_eq_true_iff.mp hw
    exact decoded ⟨_, reads_byte (reads_rm hrm (fun _ hb => by rw [hb, pick8_1]) (reads_immVLast hv)), by decide⟩
  | adcRmvImmv =>
    obtain ⟨hrm, hv⟩ := Bool.and_eq_true_iff.mp hw
    exact decoded ⟨_, reads_byte (reads_rm hrm (fun _ hb => by rw [hb, pick8_2]) (reads_immVLast hv)), by decide⟩
  | sbbRmvImmv =>
    obtain ⟨hrm, hv⟩ := Bool.and_eq_true_iff.mp hw
    exact decoded ⟨_, reads_byte (reads_rm hrm (fun _ hb => by rw [hb, pick8_3]) (reads_immVLast hv)), by decide⟩
  | andRmvImmv =>
    obtain ⟨hrm, hv⟩ := Bool.and_eq_true_iff.mp hw
    exact decoded ⟨_, reads_byte (reads_rm hrm (fun _ hb => by rw [hb, pick8_4]) (reads_immVLast hv)), by decide⟩
  | subRmvImmv =>
    obtain ⟨hrm, hv⟩ := Bool.and_eq_true_iff.mp hw
    exact decoded ⟨_, reads_byte (reads_rm hrm (fun _ hb => by rw [hb, pick8_5]) (reads_immVLast hv)), by decide⟩
  | xorRmvImmv =>
    obtain ⟨hrm, hv⟩ := Bool.and_eq_true_iff.mp hw
    exact decoded ⟨_, reads_byte (reads_rm hrm (fun _ hb => by rw [hb, pick8_6]) (reads_immVLast hv)), by decide⟩
  | cmpRmvImmv =>
    obtain ⟨hrm, hv⟩ := Bool.and_eq_true_iff.mp hw
    exact decoded ⟨_, reads_byte (reads_rm hrm (fun _ hb => by rw [hb, pick8_7]) (reads_immVLast hv)), by decide⟩
  | addRmvImm8 | rolRm8Imm8 | rolRmvImm8 | movRm8Imm8 | testRm8Imm8 =>
    exact decoded ⟨_, reads_byte (reads_rm hw (fun _ hb => by rw [hb, pick8_0]) reads_byteLast), by decide⟩
  | orRmvImm8 | rorRm8Imm8 | rorRmvImm8 =>
    exact decoded ⟨_, reads_byte (reads_rm hw (fun _ hb => by rw [hb, pick8_1]) reads_byteLast), by decide⟩
  | adcRmvImm8 | rclRm8Imm8 | rclRmvImm8 =>
    exact decoded ⟨_, reads_byte (reads_rm hw (fun _ hb => by rw [hb, pick8_2]) reads_byteLast), by decide⟩
  | sbbRmvImm8 | rcrRm8Imm8 | rcrRmvImm8 =>
    exact decoded ⟨_, reads_byte (reads_rm hw (fun _ hb => by rw [hb, pick8_3]) reads_byteLast), by decide⟩
  | andRmvImm8 | shlRm8Imm8 | shlRmvImm8 =>
    exact decoded ⟨_, reads_byte (reads_rm hw (fun _ hb => by rw [hb, pick8_4]) reads_byteLast), by decide⟩
  | subRmvImm8 | shrRm8Imm8 | shrRmvImm8 =>
    exact decoded ⟨_, reads_byte (reads_rm hw (fun _ hb => by rw [hb, pick8_5]) reads_byteLast), by decide⟩
  | xorRmvImm8 | salRm8Imm8 | salRmvImm8 =>
    exact decoded ⟨_, reads_byte (reads_rm hw (fun _ hb => by rw [hb, pick8_6]) reads_byteLast), by decide⟩
  | cmpRmvImm8 | sarRm8Imm8 | sarRmvImm8 =>
    exact decoded ⟨_, reads_byte (reads_rm hw (fun _ hb => by rw [hb, pick8_7]) reads_byteLast), by decide⟩
  | popRmv | rolRm8One | rolRmvOne | rolRm8Cl | rolRmvCl | incRm8 | incRmv =>
    exact decoded ⟨_, reads_byte (reads_rmLast hw (fun _ hb => by rw [hb, pick8_0]) rfl), by decide⟩
  | callPtr | jmpPtr => exact decoded ⟨_, reads_byte (reads_ptr hw), by decide⟩
  | movAlMoffs | movEaxMoffs | movMoffsAl | movMoffsEax =>
    exact decoded ⟨_, reads_byte (reads_immALast hw), by decide⟩
  | rorRm8One | rorRmvOne | rorRm8Cl | rorRmvCl | decRm8 | decRmv =>
    exact decoded ⟨_, reads_byte (reads_rmLast hw (fun _ hb => by rw [hb, pick8_1]) rfl), by decide⟩
  | rclRm8One | rclRmvOne | rclRm8Cl | rclRmvCl | notRm8 | notRmv | callRmv =>
    exact decoded ⟨_, reads_byte (reads_rmLast hw (fun _ hb => by rw [hb, pick8_2]) rfl), by decide⟩
  | rcrRm8One | rcrRmvOne | rcrRm8Cl | rcrRmvCl | negRm8 | negRmv | callM =>
    exact decoded ⟨_, reads_byte (reads_rmLast hw (fun _ hb => by rw [hb, pick8_3]) rfl), by decide⟩
  | shlRm8One | shlRmvOne | shlRm8Cl | shlRmvCl | mulRm8 | mulRmv | jmpRmv =>
    exact decoded ⟨_, reads_byte (reads_rmLast hw (fun _ hb => by rw [hb, pick8_4]) rfl), by decide⟩
  | shrRm8One | shrRmvOne | shrRm8Cl | shrRmvCl | imulRm8 | imulRmv | jmpM =>
    exact decoded ⟨_, reads_byte (reads_rmLast hw (fun _ hb => by rw [hb, pick8_5]) rfl), by decide⟩
  | salRm8One | salRmvOne | salRm8Cl | salRmvCl | divRm8 | divRmv | pushRmv =>
    exact decoded ⟨_, reads_byte (reads_rmLast hw (fun _ hb => by rw [hb, pick8_6]) rfl), by decide⟩
  | sarRm8One | sarRmvOne | sarRm8Cl | sarRmvCl | idivRm8 | idivRmv =>
    exact decoded ⟨_, reads_byte (reads_rmLast hw (fun _ hb => by rw [hb, pick8_7]) rfl), by decide⟩
  | retImm16 | retfImm16 => exact decoded ⟨_, reads_byte reads_wordLast, by decide⟩
  | enter => exact decoded ⟨_, reads_byte (reads_word reads_byteLast), by decide⟩
  | sgdtM =>
    exact decoded ⟨_, reads_byte (reads_byte (reads_rmLast hw (fun _ hb => by rw [hb, pick8_0]) rfl)), by decide⟩
  | sidtM =>
    exact decoded ⟨_, reads_byte (reads_byte (reads_rmLast hw (fun _ hb => by rw [hb, pick8_1]) rfl)), by decide⟩
  | lgdtM =>
    exact decoded ⟨_, reads_byte (reads_byte (reads_rmLast hw (fun _ hb => by rw [hb, pick8_2]) rfl)), by decide⟩
  | lidtM =>
    exact decoded ⟨_, reads_byte (reads_byte (reads_rmLast hw (fun _ hb => by rw [hb, pick8_3]) rfl)), by decide⟩
  | smswRm16 =>
    exact decoded ⟨_, reads_byte (reads_byte (reads_rmLast hw (fun _ hb => by rw [hb, pick8_4]) rfl)), by decide⟩
  | lmswRm16 =>
    exact decoded ⟨_, reads_byte (reads_byte (reads_rmLast hw (fun _ hb => by rw [hb, pick8_6]) rfl)), by decide⟩
  | invlpgM =>
    exact decoded ⟨_, reads_byte (reads_byte (reads_rmLast hw (fun _ hb => by rw [hb, pick8_7]) rfl)), by decide⟩
  | btRmvRv | shldCl | btsRmvRv | shrdCl | imulRvRmv | cmpxchgRm8R8 | cmpxchgRmvRv | lssRvM | btrRmvRv | lfsRvM
  | lgsRvM | movzxRvRm8 | movzxRvRm16 | btcRmvRv | bsfRvRmv | bsrRvRmv | movsxRvRm8 | movsxRvRm16 | xaddRm8R8
  | xaddRmvRv =>
    exact decoded ⟨_, reads_byte (reads_byte (reads_rmLast hw (fun _ hb => by rw [hb, Reg.ofNum_num]) rfl)), by decide⟩
  | shldImm8 | shrdImm8 =>
    exact decoded ⟨_, reads_byte (reads_byte (reads_rm hw (fun _ hb => by rw [hb, Reg.ofNum_num]) reads_byteLast)),
      by decide⟩
  | btRmvImm8 =>
    exact decoded ⟨_, reads_byte (reads_byte (reads_rm hw (fun _ hb => by rw [hb, pick8_4]) reads_byteLast)), by decide⟩
  | btsRmvImm8 =>
    exact decoded ⟨_, reads_byte (reads_byte (reads_rm hw (fun _ hb => by rw [hb, pick8_5]) reads_byteLast)), by decide⟩
  | btrRmvImm8 =>
    exact decoded ⟨_, reads_byte (reads_byte (reads_rm hw (fun _ hb => by rw [hb, pick8_6]) reads_byteLast)), by decide⟩
  | btcRmvImm8 =>
    exact decoded ⟨_, reads_byte (reads_byte (reads_rm hw (fun _ hb => by rw [hb, pick8_7]) reads_byteLast)), by decide⟩
  | pfxEs | pfxCs | pfxSs | pfxDs | pfxFs | pfxGs | pfxOpsize | pfxAddrsize | pfxRepne | pfxRep | pfxLock | pushEs
  | pushCs | pushSs | pushDs | popEs | popSs | popDs | daa | das | aaa | aas | incEax | incEcx | incEdx | incEbx
  | incEsp | incEbp | incEsi | incEdi | decEax | decEcx | decEdx | decEbx | decEsp | decEbp | decEsi | decEdi
  | pusha | popa | insb | insv | outsb | outsv | nop | xchgEaxEcx | xchgEaxEdx | xchgEaxEbx | xchgEaxEsp
  | xchgEaxEbp | xchgEaxEsi | xchgEaxEdi | cbw | cwd | fwait | pushf | popf | sahf | lahf | movsb | movsv | cmpsb
  | cmpsv | stosb | stosv | lodsb | lodsv | scasb | scasv | ret | leave | retf | int3 | into | iret | xlat | inAlDx
  | inEaxDx | outDxAl | outDxEax | hlt | cmc | clc | stc | cli | sti | cld | std | clts | invd | wbinvd | rdtsc
  | pushFs | popFs | cpuid | pushGs | popGs | udD6 | udF1 | udF6Ext1 | udF7Ext1 | udFEExt2 | udFEExt3 | udFEExt4
  | udFEExt5 | udFEExt6 | udFEExt7 | udFFExt7 | ud8FExt1 | ud8FExt2 | ud8FExt3 | ud8FExt4 | ud8FExt5 | ud8FExt6
  | ud8FExt7 | udC6Ext1 | udC6Ext2 | udC6Ext3 | udC6Ext4 | udC6Ext5 | udC6Ext6 | udC6Ext7 | udC7Ext1 | udC7Ext2
  | udC7Ext3 | udC7Ext4 | udC7Ext5 | udC7Ext6 | udC7Ext7 | ud0F00Ext6 | ud0F00Ext7 | ud0F01Ext5 | ud0FBAExt0
  | ud0FBAExt1 | ud0FBAExt2 | ud0FBAExt3 | ud0F04 | ud0F05 | ud0F07 | ud0F0A | ud0F0B | ud0F0C | ud0F0D | ud0F0E
  | ud0F0F | ud0F10 | ud0F11 | ud0F12 | ud0F13 | ud0F14 | ud0F15 | ud0F16 | ud0F17 | ud0F18 | ud0F19 | ud0F1A
  | ud0F1B | ud0F1C | ud0F1D | ud0F1E | ud0F1F | ud0F21 | ud0F24 | ud0F25 | ud0F26 | ud0F27 | ud0F28 | ud0F29
  | ud0F2A | ud0F2B | ud0F2C | ud0F2D | ud0F2E | ud0F2F | ud0F30 | ud0F32 | ud0F33 | ud0F34 | ud0F35 | ud0F36
  | ud0F37 | ud0F38 | ud0F39 | ud0F3A | ud0F3B | ud0F3C | ud0F3D | ud0F3E | ud0F3F | ud0F50 | ud0F51 | ud0F52
  | ud0F53 | ud0F54 | ud0F55 | ud0F56 | ud0F57 | ud0F58 | ud0F59 | ud0F5A | ud0F5B | ud0F5C | ud0F5D | ud0F5E
  | ud0F5F | ud0F60 | ud0F61 | ud0F62 | ud0F63 | ud0F64 | ud0F65 | ud0F66 | ud0F67 | ud0F68 | ud0F69 | ud0F6A
  | ud0F6B | ud0F6C | ud0F6D | ud0F6E | ud0F6F | ud0F70 | ud0F71 | ud0F72 | ud0F73 | ud0F74 | ud0F75 | ud0F76
  | ud0F77 | ud0F78 | ud0F79 | ud0F7A | ud0F7B | ud0F7C | ud0F7D | ud0F7E | ud0F7F | ud0FA6 | ud0FA7 | ud0FAA
  | ud0FAE | ud0FB8 | ud0FB9 | ud0FC2 | ud0FC3 | ud0FC4 | ud0FC5 | ud0FC6 | ud0FC7 | ud0FD0 | ud0FD1 | ud0FD2
  | ud0FD3 | ud0FD4 | ud0FD5 | ud0FD6 | ud0FD7 | ud0FD8 | ud0FD9 | ud0FDA | ud0FDB | ud0FDC | ud0FDD | ud0FDE
  | ud0FDF | ud0FE0 | ud0FE1 | ud0FE2 | ud0FE3 | ud0FE4 | ud0FE5 | ud0FE6 | ud0FE7 | ud0FE8 | ud0FE9 | ud0FEA
  | ud0FEB | ud0FEC | ud0FED | ud0FEE | ud0FEF | ud0FF0 | ud0FF1 | ud0FF2 | ud0FF3 | ud0FF4 | ud0FF5 | ud0FF6
  | ud0FF7 | ud0FF8 | ud0FF9 | ud0FFA | ud0FFB | ud0FFC | ud0FFD | ud0FFE | ud0FFF =>
    exact rfl

end Sys2Proof
end

section
/-! The step and what surrounds it: taking an exception (R660, R686), the boundary (R700 to R702), the run of `execute`
(R705), and the machine after reset (R91 to R93). -/

namespace Sys2Proof.Machine

/-! ### Taking an exception -/

section
variable {n : Nat} {e e' : Exc} {ret : W32} {r : AbortReason} {s t : State} {u : Unit}

/-- A delivery that completes ends the chain. -/
theorem deliverChain_of_ok (h : deliver e.vector false e.code false ret s = .ok u t) :
    deliverChain (n + 1) e ret s = t := by rw [deliverChain, h]

/-- An abort during a delivery ends the chain with its reason. -/
theorem deliverChain_of_abort (h : deliver e.vector false e.code false ret s = .error (.abort r) t) :
    deliverChain (n + 1) e ret s = t.setAborted r := by rw [deliverChain, h]

/-- An exception that a delivery raises is delivered next, with the same return address. -/
theorem deliverChain_of_raise (h : deliver e.vector false e.code false ret s = .error (.raise e') t) :
    deliverChain (n + 1) e ret s = deliverChain n e' ret t := by rw [deliverChain, h]

/-- With no try left the machine aborts. -/
theorem deliverChain_zero : deliverChain 0 e ret s = s.setAborted .tripleFault := rfl

end

/-- Settles O21, one delivery of the chain after another. -/
theorem raiseIsDeliveredOrTripleFaults : Obligations.RaiseIsDeliveredOrTripleFaults := by
  intro m s s0 s1 s2 s3 e0 e1 e2 e3 r hm
  have hc : complete m s = .next (deliverChain 3 e0 s0.pc (s0.setStepFaulted true)) := complete_raise hm
  refine ⟨fun h => ?_, fun h => ?_, fun h1 => ?_⟩
  · rw [hc, deliverChain_of_ok h]
  · rw [hc, deliverChain_of_abort h]
  rw [deliverChain_of_raise h1] at hc
  refine ⟨fun h => ?_, fun h => ?_, fun h2 => ?_⟩
  · rw [hc, deliverChain_of_ok h]
  · rw [hc, deliverChain_of_abort h]
  rw [deliverChain_of_raise h2] at hc
  refine ⟨fun h => ?_, fun h => ?_, fun h3 => ?_⟩
  · rw [hc, deliverChain_of_ok h]
  · rw [hc, deliverChain_of_abort h]
  · rw [hc, deliverChain_of_raise h3, deliverChain_zero]

/-! ### The boundary and the step -/

/-- With nothing latched and no interrupt accepted the boundary only clears the step's result flag. -/
theorem boundary_of_quiet {s : State} (hp : s.pendingVector = none) (hl : (s.irqLine && s.ifFlag) = false) :
    s.boundary = s.setStepFaulted false := by
  unfold State.boundary
  dsimp only
  rw [show (s.setStepFaulted false).pendingVector = none from hp,
    show ((s.setStepFaulted false).irqLine && (s.setStepFaulted false).ifFlag) = false from hl]
  rfl

/-- A latched vector is delivered. -/
theorem boundary_of_latched {s : State} {v : Byte} (hp : s.pendingVector = some v) :
    s.boundary = (s.setStepFaulted false).deliverInterrupt v := by
  unfold State.boundary
  dsimp only
  rw [show (s.setStepFaulted false).pendingVector = some v from hp]

/-- The line asserted with IF set: the vector acknowledged is latched and delivered. -/
theorem boundary_of_line {s : State} (hp : s.pendingVector = none) (hl : (s.irqLine && s.ifFlag) = true) :
    s.boundary = ((s.setStepFaulted false).intAck.1.setPending
      (some (Config.ackVector s.history))).deliverInterrupt (Config.ackVector s.history) := by
  unfold State.boundary
  dsimp only
  rw [show (s.setStepFaulted false).pendingVector = none from hp,
    show ((s.setStepFaulted false).irqLine && (s.setStepFaulted false).ifFlag) = true from hl]
  rfl

theorem quiet_iff {s : State} : s.quiet = true ↔ s.pendingVector = none ∧ (s.irqLine && s.ifFlag) = false := by
  simp only [State.quiet, Bool.and_eq_true, Option.isNone_iff_eq_none, Bool.not_eq_true']

theorem step_of_boundary_stopped {s : State} (ha : s.aborted = none)
    (hb : s.boundary.aborted ≠ none ∨ s.boundary.halted = true) : step s = .next s.boundary := by
  have hstop : (s.boundary.aborted.isSome || s.boundary.halted) = true := by
    rw [Bool.or_eq_true, Option.isSome_iff_ne_none]; exact hb
  rw [step, ha]
  dsimp only
  rw [hstop, cond_true]

theorem step_of_boundary_runs {s : State} (ha : s.aborted = none) (hb : s.boundary.aborted = none)
    (hh : s.boundary.halted = false) : step s = runItems 16 s.boundary.beginInstr := by
  rw [step, ha]
  dsimp only
  rw [hb, hh]
  rfl

/-- A step before which nothing is accepted runs the instruction at pc. -/
theorem step_of_quiet {s : State} (ha : s.aborted = none) (hq : s.quiet = true) (hh : s.halted = false) :
    step s = runItems 16 (s.setStepFaulted false).beginInstr := by
  obtain ⟨hp, hl⟩ := quiet_iff.mp hq
  have hb := boundary_of_quiet hp hl
  rw [step_of_boundary_runs ha (by rw [hb]; exact ha) (by rw [hb]; exact hh), hb]

section
variable {n : Nat} {i : Instr} {st : Stop} {s t u : State}

theorem runItems_of_instr (h : fetchItem s = .ok i t) (hi : i.isPfx = false) : runItems (n + 1) s = exec i t := by
  rw [runItems, h]; dsimp only; rw [hi, cond_false]

theorem runItems_of_pfx (h : fetchItem s = .ok i t) (hi : i.isPfx = true) (he : exec i t = .next u) :
    runItems (n + 1) s = runItems n u := by
  rw [runItems, h]; dsimp only; rw [hi, he, cond_true]

theorem runItems_of_stop (h : fetchItem s = .error st t) : runItems (n + 1) s = fetchStopped st t := by
  rw [runItems, h]

end

/-- Settles O4: a step that accepts nothing is `runItems`, whose three cases are lemmas of their own. -/
theorem stepRunsTheDecodedInstruction : Obligations.StepRunsTheDecodedInstruction := by
  intro s t u i n e r
  refine ⟨fun ha hq hh => ?_, runItems_of_instr, runItems_of_pfx, runItems_of_stop, runItems_of_stop⟩
  rw [step_of_quiet ha hq hh]
  exact ⟨runItems_of_instr, runItems_of_pfx, runItems_of_stop, runItems_of_stop⟩

/-! ### The interrupt at the boundary -/

/-- The first delivery of an interrupt raised: what follows is the chain of the exception. -/
theorem deliverInterrupt_of_raise {s u : State} {v : Byte} {e : Exc}
    (h : deliver v false none true s.pc (s.setHalted false) = .error (.raise e) u) :
    s.deliverInterrupt v = deliverChain 2 e s.pc u := by rw [State.deliverInterrupt, h]

theorem deliverInterrupt_of_ok {s u : State} {v : Byte}
    (h : deliver v false none true s.pc (s.setHalted false) = .ok () u) :
    s.deliverInterrupt v = u.setPending none := by rw [State.deliverInterrupt, h]

theorem deliverInterrupt_of_abort {s u : State} {v : Byte} {r : AbortReason}
    (h : deliver v false none true s.pc (s.setHalted false) = .error (.abort r) u) :
    s.deliverInterrupt v = u.setAborted r := by rw [State.deliverInterrupt, h]

/-- A delivery writes neither the latch nor the halted flag. -/
theorem coreClosed_latch (v : Option Byte) (b : Bool) :
    CoreClosed fun s => s.pendingVector = v ∧ s.halted = b where
  cr2 _ _ hs := hs
  byte _ _ _ _ hs := hs
  insert s la e hs := by unfold State.tlbInsert; cases Nat.ble _ _ <;> exact hs
  regs _ _ hs := hs
  pc _ _ hs := hs
  cc _ _ _ hs := hs
  df _ _ hs := hs
  sysClear _ _ hs := hs
  sysSet _ _ _ hs := hs
  sysMask _ _ _ _ hs := hs
  seg _ _ _ _ _ hs := hs
  cpl _ _ _ hs := hs
  platform _ _ _ hs := hs
  aborted _ _ hs := hs
  stepFaulted _ _ hs := hs

/-- What the boundary does with a vector to deliver, from the state the delivery starts in: the clauses of R686 and
R701. -/
def DeliversAtBoundary (b : State) (v : Byte) (ret : W32) (a : State) : Prop :=
  ∀ u, (deliver v false none true ret a = .ok () u → b = u.setPending none)
    ∧ (∀ r, deliver v false none true ret a = .error (.abort r) u → b = u.setAborted r)
    ∧ ∀ e1, deliver v false none true ret a = .error (.raise e1) u →
        b.pendingVector = some v ∧ b.halted = false
          ∧ ∀ x, (deliver e1.vector false e1.code false ret u = .ok () x → b = x)
            ∧ (∀ r, deliver e1.vector false e1.code false ret u = .error (.abort r) x → b = x.setAborted r)
            ∧ ∀ e2, deliver e1.vector false e1.code false ret u = .error (.raise e2) x →
              ∀ y, (deliver e2.vector false e2.code false ret x = .ok () y → b = y)
                ∧ (∀ r, deliver e2.vector false e2.code false ret x = .error (.abort r) y → b = y.setAborted r)
                ∧ ∀ e3, deliver e2.vector false e2.code false ret x = .error (.raise e3) y →
                    b = y.setAborted .tripleFault

/-- The vector delivered is the one latched, and it stays latched where its delivery raises. -/
theorem deliverInterrupt_delivers {s : State} {v : Byte} (hp : s.pendingVector = some v) :
    DeliversAtBoundary (s.deliverInterrupt v) v s.pc (s.setHalted false) := by
  intro u
  refine ⟨deliverInterrupt_of_ok, fun r => deliverInterrupt_of_abort, fun e1 h1 => ?_⟩
  have hclosed := coreClosed_latch (some v) false
  have ha : (s.setHalted false).pendingVector = some v ∧ (s.setHalted false).halted = false := ⟨hp, rfl⟩
  have hu := (keeps_deliver hclosed v false none true s.pc).of_error ha h1
  rw [deliverInterrupt_of_raise h1]
  obtain ⟨hlatch, hhalt⟩ := hclosed.deliverChain 2 e1 s.pc u hu
  refine ⟨hlatch, hhalt, fun x => ⟨deliverChain_of_ok, fun r => deliverChain_of_abort, fun e2 h2 y => ?_⟩⟩
  rw [deliverChain_of_raise h2]
  exact ⟨deliverChain_of_ok, fun r => deliverChain_of_abort,
    fun e3 h3 => (deliverChain_of_raise h3).trans deliverChain_zero⟩

/-- Settles O23: the boundary's three branches, and `deliverInterrupt_delivers` for the two that deliver. -/
theorem interruptBoundary : Obligations.InterruptBoundary := by
  intro s
  refine ⟨boundary_of_quiet, fun v a u hdeliver => ?_, fun ha => ⟨step_of_boundary_stopped ha, step_of_boundary_runs ha⟩⟩
  have key : DeliversAtBoundary s.boundary v s.pc a := by
    rcases hdeliver with ⟨hp, rfl⟩ | ⟨hp, hl, rfl, rfl⟩
    · rw [boundary_of_latched hp]
      exact deliverInterrupt_delivers (s := s.setStepFaulted false) hp
    · rw [boundary_of_line hp hl]
      exact deliverInterrupt_delivers (s := (s.setStepFaulted false).intAck.1.setPending _) rfl
  exact key u

/-! ### The count of attempts -/

/-- Only the start of an instruction counts. -/
theorem itemClosed_cycle (n : BitVec 64) : ItemClosed fun s => s.cycleCount = n where
  cr2 _ _ hs := hs
  byte _ _ _ _ hs := hs
  insert s la e hs := by unfold State.tlbInsert; cases Nat.ble _ _ <;> exact hs
  regs _ _ hs := hs
  pc _ _ hs := hs
  cc _ _ _ hs := hs
  df _ _ hs := hs
  sysClear _ _ hs := hs
  sysSet _ _ _ hs := hs
  sysMask _ _ _ _ hs := hs
  seg _ _ _ _ _ hs := hs
  cpl _ _ _ hs := hs
  platform _ _ _ hs := hs
  aborted _ _ hs := hs
  stepFaulted _ _ hs := hs
  halted _ _ hs := hs
  gdtr _ _ _ hs := hs
  idtr _ _ _ hs := hs
  sysSeg _ _ _ hs := hs
  cr0 _ _ _ _ hs := hs
  cr3 _ _ hs := hs
  cr4 _ _ hs := hs
  flushAll _ hs := hs
  flushPage _ _ hs := hs
  clearTs _ _ hs := hs
  dec _ _ _ hs := hs
  decLen _ _ _ hs := hs

/-- The items of one instruction leave the count as its start made it. -/
theorem runItems_cycleCount {n : Nat} {s t : State} (h : runItems n s = .next t) : t.cycleCount = s.cycleCount :=
  (itemClosed_cycle s.cycleCount).runItems n rfl h

/-- The boundary does not count. -/
theorem boundary_cycleCount (s : State) : s.boundary.cycleCount = s.cycleCount := by
  have hdeliver : ∀ (u : State) (v : Byte), (u.deliverInterrupt v).cycleCount = u.cycleCount := by
    intro u v
    have hclosed := itemClosed_cycle u.cycleCount
    have hd := keeps_deliver hclosed.toCoreClosed v false none true u.pc
    have hu : (u.setHalted false).cycleCount = u.cycleCount := rfl
    cases hr : deliver v false none true u.pc (u.setHalted false) with
    | ok _ x =>
      have hx : x.cycleCount = u.cycleCount := hd.of_ok hu hr
      rw [deliverInterrupt_of_ok hr]
      exact hx
    | error st x =>
      cases st with
      | raise e => rw [deliverInterrupt_of_raise hr]; exact hclosed.deliverChain 2 e u.pc x (hd.of_error hu hr)
      | abort r =>
        have hx : x.cycleCount = u.cycleCount := hd.of_error hu hr
        rw [deliverInterrupt_of_abort hr]
        exact hx
  cases hp : s.pendingVector with
  | some v => rw [boundary_of_latched hp, hdeliver]; rfl
  | none =>
    cases hl : s.irqLine && s.ifFlag with
    | true => rw [boundary_of_line hp hl, hdeliver]; rfl
    | false => rw [boundary_of_quiet hp hl]; rfl

/-- Settles O24: nothing accepted leaves a halted machine at its boundary, and another runs one counted instruction. -/
theorem haltedStepsDoNotCount : Obligations.HaltedStepsDoNotCount := by
  intro s ha hq
  obtain ⟨hp, hl⟩ := quiet_iff.mp hq
  have hb := boundary_of_quiet hp hl
  refine ⟨fun hh => ?_, fun hh t ht => ?_⟩
  · rw [step_of_boundary_stopped ha (.inr (by rw [hb]; exact hh)), hb]
  · rw [step_of_quiet ha hq hh] at ht
    exact runItems_cycleCount ht

/-! ### The run of `execute` -/

/-- A state after which `execute` goes on. -/
def State.goesOn (s : State) : Prop := s.aborted = none ∧ s.halted = false ∧ s.stepFaulted = false

theorem statusAfter_eq_none_iff {s : State} : s.statusAfter = none ↔ s.goesOn := by
  unfold State.statusAfter State.goesOn
  cases s.aborted <;> cases s.halted <;> cases s.stepFaulted <;> simp

/-- What a reported status says of the state: the tests in their order. -/
theorem statusAfter_eq_some {s : State} {st : Status} (h : s.statusAfter = some st) :
    (∃ r, st = .aborted r ∧ s.aborted = some r) ∨ (st = .halted ∧ s.aborted = none ∧ s.halted = true)
      ∨ (st = .faultPending ∧ s.aborted = none ∧ s.halted = false ∧ s.stepFaulted = true) := by
  unfold State.statusAfter at h
  cases ha : s.aborted <;> cases hh : s.halted <;> cases hf : s.stepFaulted <;> simp_all

/-- A step after which the machine is neither aborted nor halted counted one instruction. -/
theorem step_cycleCount {s t : State} (h : step s = .next t) (ha : t.aborted = none) (hh : t.halted = false) :
    t.cycleCount = s.cycleCount + 1#64 := by
  cases hs : s.aborted with
  | some r => rw [step_of_aborted hs] at h; cases h
  | none =>
    by_cases hb : s.boundary.aborted ≠ none ∨ s.boundary.halted = true
    · rw [step_of_boundary_stopped hs hb] at h
      cases h
      simp [ha, hh] at hb
    · simp only [ne_eq, not_or, not_not, Bool.not_eq_true] at hb
      rw [step_of_boundary_runs hs hb.1 hb.2] at h
      rw [runItems_cycleCount h, ← boundary_cycleCount s]
      rfl

/-- Every instruction has a meaning and answers a next state. -/
theorem exec_next (i : Instr) (s : State) : ∃ t, exec i s = .next t := by
  cases execForm i s with
  | core he _ => rw [he]; exact complete_next _ _
  | system he _ => rw [he]; exact complete_next _ _
  | loadSelector n rm _ he => rw [he]; exact complete_next _ _
  | pfx _ he _ => exact ⟨_, he⟩

theorem runItems_next (n : Nat) : ∀ s, ∃ t, runItems n s = .next t := by
  induction n with
  | zero => exact fun s => ⟨_, rfl⟩
  | succ n ih =>
    intro s
    cases hf : fetchItem s with
    | error st u =>
      rw [runItems_of_stop hf]
      cases st with
      | raise e => exact ⟨_, rfl⟩
      | abort r => exact ⟨_, rfl⟩
    | ok i u =>
      obtain ⟨x, hx⟩ := exec_next i u
      cases hi : i.isPfx with
      | true => rw [runItems_of_pfx hf hi hx]; exact ih x
      | false => exact ⟨x, (runItems_of_instr hf hi).trans hx⟩

/-- A machine that has not aborted makes a step. -/
theorem step_next {s : State} (h : s.aborted = none) : ∃ t, step s = .next t := by
  by_cases hb : s.boundary.aborted ≠ none ∨ s.boundary.halted = true
  · exact ⟨_, step_of_boundary_stopped h hb⟩
  · simp only [ne_eq, not_or, not_not, Bool.not_eq_true] at hb
    rw [step_of_boundary_runs h hb.1 hb.2]
    exact runItems_next _ _

theorem runSteps_of_step {s t : State} (n : Nat) (h : step s = .next t) : runSteps (n + 1) s = runSteps n t := by
  rw [runSteps, h]

/-- The run of a number of steps passes only through states after which `execute` goes on. -/
def State.goesOnUpTo (s : State) (n : Nat) : Prop := ∀ m u, 1 ≤ m → m ≤ n → runSteps m s = some u → u.goesOn

theorem goesOnUpTo_zero (s : State) : s.goesOnUpTo 0 := by
  intro m u h1 h2
  omega

theorem goesOnUpTo_succ {s t : State} {n : Nat} (hst : step s = .next t) (ht : t.goesOn) (h : t.goesOnUpTo n) :
    s.goesOnUpTo (n + 1) := by
  intro m u h1 h2 hr
  obtain ⟨k, rfl⟩ : ∃ k, m = k + 1 := ⟨m - 1, by omega⟩
  rw [runSteps_of_step k hst] at hr
  by_cases hk : k = 0
  · subst hk; cases hr; exact ht
  · exact h k u (by omega) (by omega) hr

/-- The two ways the loop of `execute` ends: after as many steps as the budget, none of which ends it, or after the first
step that does. -/
inductive LoopEnds (n : Nat) (s t : State) (st : Status) : Prop where
  | usedUp (hst : st = .continuable) (hrun : runSteps n s = some t) (hon : s.goesOnUpTo n)
      (hcount : t.cycleCount = s.cycleCount + BitVec.ofNat 64 n) : LoopEnds n s t st
  | stopped (k : Nat) (hk : k + 1 ≤ n) (hrun : runSteps (k + 1) s = some t) (hon : s.goesOnUpTo k)
      (hst : t.statusAfter = some st) : LoopEnds n s t st

theorem executeLoop_ends (n : Nat) {s t : State} {st : Status} (ha : s.aborted = none)
    (h : executeLoop n s = (t, st)) : LoopEnds n s t st := by
  induction n generalizing s with
  | zero =>
    cases h
    exact .usedUp rfl rfl (goesOnUpTo_zero _) (by simp)
  | succ n ih =>
    obtain ⟨s', hstep⟩ := step_next ha
    rw [executeLoop, hstep] at h
    dsimp only at h
    cases hstat : s'.statusAfter with
    | some x =>
      rw [hstat] at h
      cases h
      exact .stopped 0 (by omega) (runSteps_of_step 0 hstep) (goesOnUpTo_zero s) hstat
    | none =>
      rw [hstat] at h
      have hon : s'.goesOn := statusAfter_eq_none_iff.mp hstat
      cases ih hon.1 h with
      | usedUp hst hrun hons hcount =>
        refine .usedUp hst ((runSteps_of_step n hstep).trans hrun) (goesOnUpTo_succ hstep hon hons) ?_
        rw [hcount, step_cycleCount hstep hon.1 hon.2.1, Nat.add_comm n 1, BitVec.ofNat_add, BitVec.add_assoc]
      | stopped k hk hrun hons hst =>
        exact .stopped (k + 1) (by omega) ((runSteps_of_step (k + 1) hstep).trans hrun)
          (goesOnUpTo_succ hstep hon hons) hst

/-- A stop for a reason is the loop's own, and a continuable machine is one with its budget used up. -/
theorem statusAfter_ne_continuable {s : State} (h : s.statusAfter = some .continuable) : False := by
  rcases statusAfter_eq_some h with ⟨r, hc, _⟩ | ⟨hc, _⟩ | ⟨hc, _⟩ <;> cases hc

/-- Settles O25, from the two ways the loop ends. -/
theorem executeReportsWhyItStopped : Obligations.ExecuteReportsWhyItStopped := by
  intro budget s
  refine ⟨fun r hr => by rw [execute, hr], fun ha => ?_⟩
  have ends : ∀ t st, execute budget s = (t, st) → LoopEnds budget s t st := by
    intro t st h
    rw [execute, ha] at h
    exact executeLoop_ends budget ha h
  have tested : ∀ t st, execute budget s = (t, st) → st ≠ .continuable → t.statusAfter = some st := by
    intro t st h hne
    cases ends t st h with
    | usedUp hst => exact absurd hst hne
    | stopped _ _ _ _ hst => exact hst
  have usedUp : ∀ t, execute budget s = (t, .continuable) → runSteps budget s = some t ∧ s.goesOnUpTo budget
      ∧ t.cycleCount = s.cycleCount + BitVec.ofNat 64 budget := by
    intro t h
    cases ends t _ h with
    | usedUp _ hrun hon hcount => exact ⟨hrun, hon, hcount⟩
    | stopped _ _ _ _ hst => exact (statusAfter_ne_continuable hst).elim
  refine ⟨fun t r h => ?_, fun t h => ?_, fun t h => ?_, fun t st h hne => ?_, fun t h => ?_, fun t h hpos => ?_⟩
  · rcases statusAfter_eq_some (tested t _ h nofun) with ⟨q, hq, hab⟩ | ⟨hc, _⟩ | ⟨hc, _⟩
    · cases hq; exact hab
    · cases hc
    · cases hc
  · rcases statusAfter_eq_some (tested t _ h nofun) with ⟨q, hq, _⟩ | ⟨_, hab, hhalt⟩ | ⟨hc, _⟩
    · cases hq
    · exact ⟨hab, hhalt⟩
    · cases hc
  · rcases statusAfter_eq_some (tested t _ h nofun) with ⟨q, hq, _⟩ | ⟨hc, _⟩ | ⟨_, hrest⟩
    · cases hq
    · cases hc
    · exact hrest
  · cases ends t st h with
    | usedUp hst => exact absurd hst hne
    | stopped k hk hrun hon _ =>
      exact ⟨k + 1, by omega, hk, hrun, fun m u h1 h2 hr => hon m u h1 (by omega) hr⟩
  · exact ⟨(usedUp t h).1, (usedUp t h).2.1⟩
  · obtain ⟨hrun, hon, hcount⟩ := usedUp t h
    obtain ⟨hab, hhalt, hfault⟩ := hon budget t hpos (le_refl _) hrun
    exact ⟨hab, hhalt, hfault, hcount⟩

/-! ### Reset -/

/-- Settles O26: each value is read off the definition of reset. -/
theorem resetValues : Obligations.ResetValues := by
  intro l s data
  have hseg : ∀ n, n ≠ .ldtr → n ≠ .tr → s.segs.get n = data := by
    intro n hl ht
    cases n with
    | ldtr => exact absurd rfl hl
    | tr => exact absurd rfl ht
    | es | cs | ss | ds | fs | gs => rfl
  have hmask : maskOfRights 0x00009300#32 = 0x0000FFFF#32 := by decide
  have hflags : flagsRead State.reset = 0x00000002#32 := by decide
  have hflat : State.reset.flat = false := by decide
  have hsize : (bif (0x00009300#32 : W32).getLsbD 22 ^^ false then Width.w32 else .w16) = .w16 := by decide
  refine ⟨fun r => by cases r <;> rfl, rfl, rfl, rfl, hflags, rfl, rfl, rfl, rfl, rfl, rfl, hseg, rfl, rfl, rfl, rfl, hflat,
    fun kind user vpn => rfl, rfl, rfl, rfl, rfl, rfl, fun a => rfl, hsize, hsize, hmask, BitVec.add_zero 0#32⟩

/-- Settles O27: memory is the launch's, and every other part of the legal state is a constant of reset. -/
theorem resetIsLegal : Obligations.ResetIsLegal := by
  intro l hl
  exact legal_iff.mpr ⟨hl, rfl, (by decide : State.reset.flagsLegal = true), (by decide : State.reset.controlLegal = true), rfl⟩

/-! ### A selector in real-address mode -/

/-- Settles O16: in real-address mode the load is one update of the segment register. -/
theorem realModeSelectorLoad : Obligations.RealModeSelectorLoad := by
  intro s n sel hpe
  simp only [loadSeg, run_bind_get, hpe, Bool.not_false, cond_true]
  rfl

/-! ### The worked encodings -/

/-- Settles O2: each word is decoded by evaluation. -/
theorem wordsOfTheSpecDecode : Obligations.WordsOfTheSpecDecode := by
  refine ⟨rfl, rfl, rfl, rfl, rfl, rfl, rfl, rfl, rfl, rfl, rfl, rfl, rfl, rfl, rfl, rfl, rfl, rfl, rfl, rfl, rfl, rfl,
    rfl, rfl, rfl, rfl, rfl, rfl⟩

end Sys2Proof.Machine
end

section
/-! The EFLAGS image (R47 to R49), and physical memory (R121 to R124): lists of bytes, the addresses of an access, and
what a store of a list of bytes does. -/

namespace Sys2Proof.Machine

/-! ### The EFLAGS image -/

/-- Bit k of a word, at its place. -/
theorem atBit_getLsbD (v : W32) (k : Nat) : atBit (v.getLsbD k) k = v &&& (1#32 <<< k) := by
  rw [atBit, ← BitVec.twoPow_eq, BitVec.and_twoPow]
  cases v.getLsbD k <;> rfl

theorem getLsbD_of_mask {m : W32} {k : Nat} (v : W32) (h : m.getLsbD k = true) : (v &&& m).getLsbD k = v.getLsbD k := by
  rw [BitVec.getLsbD_and, h, Bool.and_true]

/-- An image set explicitly is read back at the places of the six flags (R57). -/
theorem image_setImage (c : CC) (v : W32) : (c.setImage v).image = v &&& 0x8D5#32 := by
  have himage : (c.setImage v).image
      = atBit ((v &&& 0x8D5#32).getLsbD 0) 0 ||| atBit ((v &&& 0x8D5#32).getLsbD 2) 2
        ||| atBit ((v &&& 0x8D5#32).getLsbD 4) 4 ||| atBit ((v &&& 0x8D5#32).getLsbD 6) 6
        ||| atBit ((v &&& 0x8D5#32).getLsbD 7) 7 ||| atBit ((v &&& 0x8D5#32).getLsbD 11) 11 := rfl
  simp only [himage, atBit_getLsbD, ← BitVec.and_or_distrib_left, BitVec.and_assoc]
  rfl

/-- A word with no bit outside a mask is left by it. -/
theorem and_eq_self_of_and_not {x m : W32} (h : x &&& ~~~m = 0#32) : x &&& m = x := by
  calc x &&& m = (x &&& m) ||| (x &&& ~~~m) := by rw [h, BitVec.or_zero]
    _ = x := by rw [← BitVec.and_or_distrib_left, BitVec.or_not_self, BitVec.and_allOnes]

/-- Settles O8: the arithmetic flags and DF of the image, beside the system flags that FlagsWrite stored. -/
theorem flagsWriteThenRead : Obligations.FlagsWriteThenRead := by
  intro s v mask hmask hsys
  have hm := and_eq_self_of_and_not hmask
  have hs := and_eq_self_of_and_not hsys
  have hkept : ((s.eflagsSys &&& ~~~mask) ||| (v &&& mask)) &&& Config.sysFlagMask
      = (s.eflagsSys &&& ~~~mask) ||| (v &&& mask) := by
    rw [BitVec.and_or_distrib_right, BitVec.and_assoc v, hm, BitVec.and_assoc s.eflagsSys, BitVec.and_comm _ Config.sysFlagMask,
      ← BitVec.and_assoc, hs]
  have hread : flagsRead (flagsWrite s v mask)
      = (((s.eflagsSys &&& ~~~mask) ||| (v &&& mask)) &&& Config.sysFlagMask) ||| 0x00000002#32
        ||| (s.cc.setImage v).image ||| atBit (v.getLsbD 10) 10 := rfl
  have harith : (v &&& 0x8D5#32) ||| (v &&& (1#32 <<< 10)) = v &&& 0x00000CD5#32 := by
    rw [← BitVec.and_or_distrib_left]; rfl
  rw [hread, hkept, image_setImage, atBit_getLsbD, BitVec.or_assoc _ (v &&& 0x8D5#32), harith]
  ac_rfl

/-! ### Lists of bytes and of addresses -/

@[simp] theorem length_bytesOf (n : Nat) (v : W32) : (bytesOf n v).length = n := by
  induction n generalizing v with
  | zero => rfl
  | succ n ih => rw [bytesOf, List.length_cons, ih]

theorem getElem?_bytesOf {n k : Nat} (v : W32) (h : k < n) : (bytesOf n v)[k]? = some ((v >>> (8 * k)).setWidth 8) := by
  induction n generalizing v k with
  | zero => omega
  | succ n ih =>
    cases k with
    | zero => simp [bytesOf]
    | succ k =>
      rw [bytesOf, List.getElem?_cons_succ, ih _ (by omega), ← BitVec.shiftRight_add]
      rw [show 8 + 8 * k = 8 * (k + 1) by omega]

/-- Bits above the bytes of a list are 0. -/
theorem getLsbD_ofBytes_ge (bs : List Byte) {j : Nat} (h : 8 * bs.length ≤ j) : (ofBytes bs).getLsbD j = false := by
  induction bs generalizing j with
  | nil => simp [ofBytes]
  | cons b bs ih =>
    rw [List.length_cons] at h
    rw [ofBytes, BitVec.getLsbD_or, BitVec.getLsbD_shiftLeft, ih (by omega : 8 * bs.length ≤ j - 8),
      BitVec.getLsbD_setWidth, BitVec.getLsbD_of_ge b j (by omega)]
    simp

/-- The bits of a list of bytes are those of its bytes. -/
theorem getLsbD_ofBytes {bs : List Byte} {k j : Nat} {b : Byte} (hk : k < 4) (hj : j < 8) (hb : bs[k]? = some b) :
    (ofBytes bs).getLsbD (8 * k + j) = b.getLsbD j := by
  induction bs generalizing k with
  | nil => simp at hb
  | cons c bs ih =>
    rw [ofBytes, BitVec.getLsbD_or, BitVec.getLsbD_shiftLeft, BitVec.getLsbD_setWidth]
    cases k with
    | zero =>
      obtain rfl : c = b := by simpa using hb
      simp [hj, show j < 32 by omega]
    | succ k =>
      rw [show 8 * (k + 1) + j - 8 = 8 * k + j by omega, ih (by omega) (by simpa using hb),
        BitVec.getLsbD_of_ge c _ (by omega)]
      simp [show 8 * (k + 1) + j < 32 by omega, show ¬8 * (k + 1) + j < 8 by omega]

/-- Each byte of a list is found in its value. -/
theorem byte_ofBytes {bs : List Byte} {k : Nat} {b : Byte} (hk : k < 4) (hb : bs[k]? = some b) :
    (ofBytes bs >>> (8 * k)).setWidth 8 = b := by
  refine BitVec.eq_of_getLsbD_eq fun j hj => ?_
  rw [BitVec.getLsbD_setWidth, BitVec.getLsbD_ushiftRight, getLsbD_ofBytes hk hj hb]
  simp [hj]

@[simp] theorem width_bytes_le (w : Width) : w.bytes ≤ 4 := by cases w <;> decide

theorem width_bits_eq (w : Width) : w.bits = 8 * w.bytes := by cases w <;> rfl

theorem getLsbD_truncW (w : Width) (v : W32) (k : Nat) : (truncW w v).getLsbD k = (decide (k < w.bits) && v.getLsbD k) := by
  have hw : w.bits ≤ 32 := by cases w <;> decide
  rw [truncW, BitVec.getLsbD_setWidth, BitVec.getLsbD_setWidth]
  by_cases hk : k < w.bits
  · simp [hk, show k < 32 by omega]
  · simp [hk]

/-- A value of as many bytes as a width has no bit above it. -/
theorem truncW_ofBytes {w : Width} {bs : List Byte} (h : bs.length = w.bytes) : truncW w (ofBytes bs) = ofBytes bs := by
  refine BitVec.eq_of_getLsbD_eq fun k _ => ?_
  rw [getLsbD_truncW]
  by_cases hk : k < w.bits
  · simp [hk]
  · rw [getLsbD_ofBytes_ge bs (by rw [h, ← width_bits_eq]; omega), Bool.and_false]

/-- The value of the bytes of a value is the value at that width (R122). -/
theorem ofBytes_bytesOf (w : Width) (v : W32) : ofBytes (bytesOf w.bytes v) = truncW w v := by
  refine BitVec.eq_of_getLsbD_eq fun i hi => ?_
  rw [getLsbD_truncW]
  by_cases hw : i < w.bits
  · have hk : i / 8 < w.bytes := by have := width_bits_eq w; omega
    have hj : i % 8 < 8 := Nat.mod_lt _ (by decide)
    have hi8 : 8 * (i / 8) + i % 8 = i := Nat.div_add_mod i 8
    have hbit := getLsbD_ofBytes (hk.trans_le (width_bytes_le w)) hj (getElem?_bytesOf v hk)
    rw [hi8, BitVec.getLsbD_setWidth, BitVec.getLsbD_ushiftRight, hi8] at hbit
    simpa [hw, hj] using hbit
  · rw [getLsbD_ofBytes_ge _ (by rw [length_bytesOf, ← width_bits_eq]; omega)]
    simp [hw]

@[simp] theorem length_addrsFrom (n : Nat) (a : W32) : (addrsFrom n a).length = n := by
  induction n generalizing a with
  | zero => rfl
  | succ n ih => rw [addrsFrom, List.length_cons, ih]

theorem getElem?_addrsFrom {n k : Nat} (a : W32) (h : k < n) : (addrsFrom n a)[k]? = some (a + BitVec.ofNat 32 k) := by
  induction n generalizing a k with
  | zero => omega
  | succ n ih =>
    cases k with
    | zero => simp [addrsFrom]
    | succ k =>
      rw [addrsFrom, List.getElem?_cons_succ, ih _ (by omega), BitVec.add_assoc, Nat.add_comm k 1, BitVec.ofNat_add]

theorem mem_addrsFrom {n : Nat} {a b : W32} : b ∈ addrsFrom n a ↔ ∃ k, k < n ∧ b = a + BitVec.ofNat 32 k := by
  constructor
  · intro h
    obtain ⟨k, hk, hb⟩ := List.getElem_of_mem h
    rw [length_addrsFrom] at hk
    refine ⟨k, hk, ?_⟩
    have := getElem?_addrsFrom a hk
    rw [List.getElem?_eq_getElem (by rwa [length_addrsFrom]), Option.some.injEq] at this
    exact hb.symm.trans this
  · rintro ⟨k, hk, rfl⟩
    exact List.mem_of_getElem? (getElem?_addrsFrom a hk)

/-- An offset k of fewer than 2^32 bytes from an address. -/
theorem toNat_add_ofNat (a : W32) {k : Nat} (hk : k < 2 ^ 32) :
    (a + BitVec.ofNat 32 k).toNat = (a.toNat + k) % 2 ^ 32 := by
  rw [BitVec.toNat_add, BitVec.toNat_ofNat, Nat.mod_eq_of_lt hk]

/-- The addresses of an access are apart, and remain so under any map that tells offsets apart. -/
theorem nodup_map_addrsFrom {β : Type} {n : Nat} {a : W32} {f : W32 → β}
    (h : ∀ j k, j < n → k < n → f (a + BitVec.ofNat 32 j) = f (a + BitVec.ofNat 32 k) → j = k) :
    ((addrsFrom n a).map f).Nodup := by
  rw [List.nodup_iff_getElem?_ne_getElem?]
  intro j k hjk hk he
  rw [List.length_map, length_addrsFrom] at hk
  rw [List.getElem?_map, List.getElem?_map, getElem?_addrsFrom a hk, getElem?_addrsFrom a (hjk.trans hk)] at he
  exact absurd (h j k (hjk.trans hk) hk (Option.some.inj he)) (Nat.ne_of_lt hjk)

theorem nodup_addrsFrom {n : Nat} (h : n ≤ 2 ^ 32) (a : W32) : (addrsFrom n a).Nodup := by
  have hmap := nodup_map_addrsFrom (n := n) (a := a) (f := id) fun j k hj hk he => by
    have := congrArg BitVec.toNat he
    simp only [id] at this
    rw [toNat_add_ofNat a (by omega), toNat_add_ofNat a (by omega)] at this
    omega
  rwa [List.map_id] at hmap

/-! ### A store of a list of bytes -/

theorem storeBytes_eq_setMem (as : List W32) (bs : List Byte) (s : State) :
    s.storeBytes as bs = s.setMem (s.storeBytes as bs).mem := by
  induction as generalizing bs s with
  | nil => rfl
  | cons a as ih =>
    cases bs with
    | nil => rfl
    | cons b bs => rw [State.storeBytes, ih]; rfl

theorem byteAt_setMem_memWrite_self (s : State) (a : W32) (b : Byte) :
    (s.setMem (memWrite s.mem a.toNat b)).byteAt a = b := memRead_write_self _ _ _

theorem byteAt_setMem_memWrite_other (s : State) {a q : W32} (b : Byte) (h : q ≠ a) :
    (s.setMem (memWrite s.mem a.toNat b)).byteAt q = s.byteAt q :=
  memRead_write_other _ _ fun he => h (BitVec.eq_of_toNat_eq he)

/-- A store changes no byte outside its addresses. -/
theorem sameOutside_storeBytes (as : List W32) (bs : List Byte) (s : State) :
    s.sameOutside as (s.storeBytes as bs) := by
  induction as generalizing bs s with
  | nil => exact fun _ _ => rfl
  | cons a as ih =>
    cases bs with
    | nil => exact fun _ _ => rfl
    | cons b bs =>
      intro q hq
      rw [List.mem_cons, not_or] at hq
      rw [State.storeBytes, ih bs _ q hq.2, byteAt_setMem_memWrite_other s b hq.1]

/-- The bytes stored at addresses that are apart read back. -/
theorem map_byteAt_storeBytes {as : List W32} {bs : List Byte} (s : State) (hnd : as.Nodup)
    (hlen : as.length = bs.length) : as.map (s.storeBytes as bs).byteAt = bs := by
  induction as generalizing bs s with
  | nil => rw [List.map_nil, List.length_eq_zero_iff.mp hlen.symm]
  | cons a as ih =>
    cases bs with
    | nil => simp at hlen
    | cons b bs =>
      rw [List.nodup_cons] at hnd
      rw [List.map_cons, State.storeBytes, ih _ hnd.2 (by simpa using hlen),
        sameOutside_storeBytes as bs _ a hnd.1, byteAt_setMem_memWrite_self]

theorem wf_storeBytes (as : List W32) (bs : List Byte) (s : State) (h : Memory.wf s.mem = true) :
    Memory.wf (s.storeBytes as bs).mem = true := by
  induction as generalizing bs s with
  | nil => exact h
  | cons a as ih =>
    cases bs with
    | nil => exact h
    | cons b bs => exact ih bs _ (memWrite_wf _ _ h)

/-! ### Physical accesses -/

theorem physReadAt_of_all {as : List W32} {s : State} (h : as.all s.inMem = true) :
    physReadAt as s = .ok (ofBytes (as.map s.byteAt)) s := by
  rw [physReadAt, run_bind_get, run_cond, h, cond_true, run_pure]

theorem physReadAt_of_not_all {as : List W32} {s : State} (h : as.all s.inMem = false) :
    physReadAt as s = .error (.abort .busError) s := by
  rw [physReadAt, run_bind_get, run_cond, h, cond_false, run_abort]

theorem physReadAt_ok_iff {as : List W32} {s t : State} {v : W32} :
    physReadAt as s = .ok v t ↔ as.all s.inMem = true ∧ v = ofBytes (as.map s.byteAt) ∧ t = s := by
  cases h : as.all s.inMem with
  | true => rw [physReadAt_of_all h]; simp [eq_comm]
  | false => rw [physReadAt_of_not_all h]; simp

theorem physWrite_of_all {pa v : W32} {n : Nat} {s : State} (h : (addrsFrom n pa).all s.inMem = true) :
    physWrite pa n v s = .ok () (s.storeBytes (addrsFrom n pa) (bytesOf n v)) := by
  rw [physWrite, run_bind_get, run_cond, h, cond_true, run_upd]

theorem physWrite_of_not_all {pa v : W32} {n : Nat} {s : State} (h : (addrsFrom n pa).all s.inMem = false) :
    physWrite pa n v s = .error (.abort .busError) s := by
  rw [physWrite, run_bind_get, run_cond, h, cond_false, run_abort]

theorem all_inMem_iff {n : Nat} {pa : W32} {s : State} : (addrsFrom n pa).all s.inMem = true
    ↔ ∀ k, k < n → (pa + BitVec.ofNat 32 k).toNat < s.memSize := by
  rw [List.all_eq_true]
  constructor
  · exact fun h k hk => Nat.blt_eq.mp (h _ (mem_addrsFrom.mpr ⟨k, hk, rfl⟩))
  · intro h a ha
    obtain ⟨k, hk, rfl⟩ := mem_addrsFrom.mp ha
    exact Nat.blt_eq.mpr (h k hk)

/-- Settles O9: an access is one read or one store of the list of its bytes. -/
theorem physicalAccessesAreAllOrNothing : Obligations.PhysicalAccessesAreAllOrNothing := by
  intro s w pa v addr
  refine ⟨fun hin => ?_, fun k hk hout => ?_⟩
  · have hall : (addrsFrom w.bytes pa).all s.inMem = true := all_inMem_iff.mpr hin
    have hsize : w.bytes ≤ 2 ^ 32 := (width_bytes_le w).trans (by decide)
    have hbytes := map_byteAt_storeBytes (bs := bytesOf w.bytes v) s (nodup_addrsFrom hsize pa) (by simp)
    have hmem := storeBytes_eq_setMem (addrsFrom w.bytes pa) (bytesOf w.bytes v) s
    generalize ht : s.storeBytes (addrsFrom w.bytes pa) (bytesOf w.bytes v) = t at hbytes hmem
    refine ⟨⟨_, physReadAt_of_all hall, truncW_ofBytes (by simp), fun k hk => ?_⟩, t, ?_, hmem, fun k hk => ?_, ?_, ?_, ?_⟩
    · refine byte_ofBytes (hk.trans_le (width_bytes_le w)) ?_
      rw [List.getElem?_map, getElem?_addrsFrom pa hk]
      rfl
    · rw [physWrite_of_all hall, ht]
    · have hk' := congrArg (·[k]?) hbytes
      rw [List.getElem?_map, getElem?_addrsFrom pa hk, getElem?_bytesOf v hk] at hk'
      exact Option.some.inj hk'
    · exact ht ▸ sameOutside_storeBytes _ _ s
    · have hall' : (addrsFrom w.bytes pa).all t.inMem = true := by rw [hmem]; exact hall
      rw [physRead, physReadAt_of_all hall', hbytes, ofBytes_bytesOf]
    · exact fun hwf => ht ▸ wf_storeBytes _ _ s hwf
  · have hall : (addrsFrom w.bytes pa).all s.inMem = false := by
      rw [Bool.eq_false_iff, ne_eq, all_inMem_iff]
      exact fun h => absurd (h k hk) (Nat.not_lt.mpr hout)
    exact ⟨physWrite_of_not_all hall, physReadAt_of_not_all hall⟩

/-- Single-byte writes at addresses inside physical memory, in order, are the store of the list (R128). -/
theorem physWriteEach_of_all {as : List W32} {bs : List Byte} {s : State} (h : as.all s.inMem = true) :
    physWriteEach as bs s = .ok () (s.storeBytes as bs) := by
  induction as generalizing bs s with
  | nil => rfl
  | cons a as ih =>
    cases bs with
    | nil => rfl
    | cons b bs =>
      rw [List.all_cons, Bool.and_eq_true] at h
      have hone : (addrsFrom 1 a).all s.inMem = true := by simpa [addrsFrom] using h.1
      have hbyte : (bytesOf 1 (b.setWidth 32)) = [b] := by simp [bytesOf]
      rw [physWriteEach, run_bind_ok (physWrite_of_all hone), hbyte]
      exact ih h.2

/-- Where the writes complete, every address was inside physical memory. -/
theorem all_of_physWriteEach_ok {as : List W32} {bs : List Byte} {s t : State} (hlen : as.length = bs.length)
    (h : physWriteEach as bs s = .ok () t) : as.all s.inMem = true := by
  induction as generalizing bs s with
  | nil => rfl
  | cons a as ih =>
    cases bs with
    | nil => simp at hlen
    | cons b bs =>
      obtain ⟨_, u, h1, h2⟩ := bind_ok_iff.mp h
      cases ha : (addrsFrom 1 a).all s.inMem with
      | false => rw [physWrite_of_not_all ha] at h1; cases h1
      | true =>
        rw [physWrite_of_all ha] at h1
        cases h1
        have hrest := ih (by simpa using hlen) h2
        rw [storeBytes_eq_setMem] at hrest
        rw [List.all_cons, Bool.and_eq_true]
        exact ⟨by simpa [addrsFrom] using ha, hrest⟩

/-- Byte writes abort, they never raise. -/
theorem physWriteEach_ne_raise (as : List W32) (bs : List Byte) (s t : State) (e : Exc) :
    physWriteEach as bs s ≠ .error (.raise e) t := by
  induction as generalizing bs s with
  | nil => exact nofun
  | cons a as ih =>
    cases bs with
    | nil => exact nofun
    | cons b bs =>
      rw [physWriteEach]
      cases ha : (addrsFrom 1 a).all s.inMem with
      | false => rw [run_bind_error (physWrite_of_not_all ha)]; exact nofun
      | true => rw [run_bind_ok (physWrite_of_all ha)]; exact ih _ _

end Sys2Proof.Machine
end

section
/-! The TLB and translation (R127, R160 to R174): the TLB's three updates, the two halves of a page walk, and what a
translation leaves. -/

namespace Sys2Proof.Machine

/-! ### The TLB -/

theorem tlbAt_of_find {s : State} {vpn : Nat} {e : TlbEntry} (h : assocFind s.tlb vpn = some e) (kind : Access)
    (user : Bool) : s.tlbAt kind user vpn = tlbView e kind user := by rw [State.tlbAt, h]

theorem tlbAt_of_none {s : State} {vpn : Nat} (h : assocFind s.tlb vpn = none) (kind : Access) (user : Bool) :
    s.tlbAt kind user vpn = none := by rw [State.tlbAt, h]

/-- Where the TLB answers, it lists an entry. -/
theorem find_of_tlbAt {s : State} {kind : Access} {user : Bool} {vpn : Nat} {p : BitVec 20}
    (h : s.tlbAt kind user vpn = some p) : ∃ e, assocFind s.tlb vpn = some e ∧ tlbView e kind user = some p := by
  unfold State.tlbAt at h
  cases he : assocFind s.tlb vpn with
  | none => rw [he] at h; cases h
  | some e => rw [he] at h; exact ⟨e, rfl, h⟩

/-- Tables that answer alike at a page give the same view of it. -/
theorem tlbAt_congr {s t : State} {vpn : Nat} (h : assocFind s.tlb vpn = assocFind t.tlb vpn) (kind : Access)
    (user : Bool) : s.tlbAt kind user vpn = t.tlbAt kind user vpn := by
  unfold State.tlbAt
  rw [h]

theorem tlbInsert_of_full {s : State} (h : s.tlbList.length = 2048) (vpn : Nat) (e : TlbEntry) :
    s.tlbInsert vpn e = s.setTlb (assocSet (unmapAll s.tlb s.tlbList) vpn e) [vpn] := by
  rw [State.tlbInsert, show Nat.ble Config.tlbListMax s.tlbList.length = true from Nat.ble_eq.mpr (Nat.le_of_eq h.symm),
    cond_true]

theorem tlbInsert_of_room {s : State} (h : s.tlbList.length < 2048) (vpn : Nat) (e : TlbEntry) :
    s.tlbInsert vpn e = s.setTlb (assocSet s.tlb vpn e) (s.tlbList ++ [vpn]) := by
  have hb : Nat.ble Config.tlbListMax s.tlbList.length = false := by
    rw [Bool.eq_false_iff, ne_eq, Nat.ble_eq]
    exact Nat.not_le.mpr h
  rw [State.tlbInsert, hb, cond_false]

/-- The page inserted is listed with its entry, whatever the list held. -/
theorem find_tlbInsert_self (s : State) (vpn : Nat) (e : TlbEntry) :
    assocFind (s.tlbInsert vpn e).tlb vpn = some e := by
  unfold State.tlbInsert
  cases Nat.ble Config.tlbListMax s.tlbList.length with
  | true => exact assocFind_set_self _ _ _
  | false => exact assocFind_set_self _ _ _

/-- An entry after an insert is the new one or one of before. -/
theorem mem_tlbInsert {s : State} {vpn : Nat} {e : TlbEntry} {x : Nat × TlbEntry} (h : x ∈ (s.tlbInsert vpn e).tlb) :
    x = (vpn, e) ∨ x ∈ s.tlb := by
  unfold State.tlbInsert at h
  cases hb : Nat.ble Config.tlbListMax s.tlbList.length with
  | true => rw [hb] at h; exact (mem_assocSet h).imp id fun h => (mem_unmapAll h).1
  | false => rw [hb] at h; exact mem_assocSet h

theorem tlbInsert_eq_setTlb (s : State) (vpn : Nat) (e : TlbEntry) :
    s.tlbInsert vpn e = s.setTlb (s.tlbInsert vpn e).tlb (s.tlbInsert vpn e).tlbList := by
  unfold State.tlbInsert
  cases Nat.ble Config.tlbListMax s.tlbList.length <;> rfl

/-- Settles O13, from what the table answers after each update. -/
theorem tlbInsertOverflowAndFlush : Obligations.TlbInsertOverflowAndFlush := by
  intro s la e kind user hs vpn
  obtain ⟨_, hlisted, _, _⟩ := tlbLegal_iff.mp hs
  have hempty : unmapAll s.tlb s.tlbList = [] := unmapAll_eq_nil hlisted
  refine ⟨tlbAt_of_find (find_tlbInsert_self s vpn e) kind user, fun q hq hroom => ?_, fun hroom => ?_, fun q hq hfull => ?_,
    fun hfull => ?_, fun q => ?_, rfl, ?_, fun q hq => ?_, rfl⟩
  · rw [tlbInsert_of_room hroom]
    exact tlbAt_congr (assocFind_set_other s.tlb e hq) kind user
  · rw [tlbInsert_of_room hroom]
    rfl
  · rw [tlbInsert_of_full hfull, hempty]
    exact tlbAt_of_none (assocFind_set_other [] e hq) kind user
  · rw [tlbInsert_of_full hfull]
    rfl
  · rw [State.tlbFlushAll, hempty]
    rfl
  · exact tlbAt_of_none (assocFind_erase_self s.tlb vpn) kind user
  · exact tlbAt_congr (assocFind_erase_other s.tlb hq) kind user

/-! ### Pages and offsets -/

theorem vpnOf_eq (la : W32) : vpnOf la = la.toNat / 4096 := by
  have hlt : la.toNat / 4096 < 2 ^ 20 := by omega
  rw [vpnOf, BitVec.extractLsb'_toNat, Nat.shiftRight_eq_div_pow, Nat.mod_eq_of_lt hlt]

/-- Addresses of one page have the same page number. -/
theorem extract_page_eq_of_vpnOf {a b : W32} (h : vpnOf a = vpnOf b) : a.extractLsb' 12 20 = b.extractLsb' 12 20 :=
  BitVec.eq_of_toNat_eq h

/-- A page number and an offset in the page make the address again. -/
theorem page_append_offset (a : W32) : a.extractLsb' 12 20 ++ a.extractLsb' 0 12 = a := by
  refine BitVec.eq_of_getLsbD_eq fun i hi => ?_
  rw [BitVec.getLsbD_append, BitVec.getLsbD_extractLsb', BitVec.getLsbD_extractLsb']
  by_cases h : i < 12
  · simp [h]
  · simp [h, show i - 12 < 20 by omega, show 12 + (i - 12) = i by omega]

/-- An access of at most a page touches the page of its first byte and that of its last. -/
theorem vpnOf_of_mem {n : Nat} {la a : W32} (hn : n ≤ 4096) (h : a ∈ addrsFrom n la) :
    vpnOf a = vpnOf la ∨ vpnOf a = vpnOf (la + BitVec.ofNat 32 (n - 1)) := by
  obtain ⟨k, hk, rfl⟩ := mem_addrsFrom.mp h
  rw [vpnOf_eq, vpnOf_eq, vpnOf_eq, toNat_add_ofNat la (by omega), toNat_add_ofNat la (by omega)]
  omega

/-- An access of at most a page whose last byte is on the page of its first is on that page. -/
theorem vpnOf_of_mem_same {n : Nat} {la a : W32} (hn : n ≤ 4096)
    (hlast : vpnOf (la + BitVec.ofNat 32 (n - 1)) = vpnOf la) (h : a ∈ addrsFrom n la) : vpnOf a = vpnOf la := by
  rcases vpnOf_of_mem hn h with h | h
  · exact h
  · exact h.trans hlast

theorem extract_page_and (a : W32) : (a &&& 0xFFFFF000#32).extractLsb' 12 20 = a.extractLsb' 12 20 := by
  refine BitVec.eq_of_getLsbD_eq fun i hi => ?_
  rw [BitVec.getLsbD_extractLsb', BitVec.getLsbD_extractLsb', BitVec.getLsbD_and]
  have hbit : ∀ i < 20, (0xFFFFF000#32).getLsbD (12 + i) = true := by decide
  rw [hbit i hi, Bool.and_true]

/-! ### The two halves of a page walk -/

/-- The address of the page-directory entry (R163). -/
def pdeAddrOf (s : State) (la : W32) : W32 := (s.cr3.extractLsb' 12 20 ++ la.extractLsb' 22 10 : BitVec 30) ++ 0#2

/-- The address of the page-table entry that a directory entry names (R163). -/
def pteAddrOf (pde la : W32) : W32 := (pde.extractLsb' 12 20 ++ la.extractLsb' 12 10 : BitVec 30) ++ 0#2

/-- A table's base, an index of ten bits and the scale of an entry, as a masked sum of shifts. -/
theorem entryAddr_eq (base la : W32) (k : Nat) :
    ((base.extractLsb' 12 20 ++ la.extractLsb' k 10 : BitVec 30) ++ 0#2 : W32)
      = (base &&& 0xFFFFF000#32) ||| (((la >>> k) &&& 0x3FF#32) <<< 2) := by
  have hlow : ∀ i < 12, (0xFFFFF000#32).getLsbD i = false := by decide
  have hhigh : ∀ i < 32, 12 ≤ i → (0xFFFFF000#32).getLsbD i = true := by decide
  have hten : ∀ i < 32, (0x3FF#32).getLsbD i = decide (i < 10) := by decide
  refine BitVec.eq_of_getLsbD_eq fun i hi => ?_
  rw [BitVec.getLsbD_append, BitVec.getLsbD_append, BitVec.getLsbD_or, BitVec.getLsbD_and, BitVec.getLsbD_shiftLeft,
    BitVec.getLsbD_and, BitVec.getLsbD_ushiftRight, BitVec.getLsbD_extractLsb', BitVec.getLsbD_extractLsb',
    hten (i - 2) (by omega)]
  by_cases h2 : i < 2
  · simp [h2, hlow i (by omega)]
  · by_cases h12 : i < 12
    · rw [hlow i h12, Bool.and_false, Bool.false_or]
      simp [h2, hi, show i - 2 < 10 by omega]
    · simp [h2, hi, hhigh i hi (by omega), show ¬i - 2 < 10 by omega, show i - 2 - 10 < 20 by omega,
        show 12 + (i - 2 - 10) = i by omega]

theorem pdeAddrOf_eq (s : State) (la : W32) : pdeAddrOf s la = (s.cr3 &&& 0xFFFFF000#32) ||| ((la >>> 22) <<< 2) := by
  rw [pdeAddrOf, entryAddr_eq s.cr3 la 22]
  have hidx : (la >>> 22) &&& 0x3FF#32 = la >>> 22 := by
    apply BitVec.eq_of_toNat_eq
    have hlt : la.toNat >>> 22 < 2 ^ 10 := by rw [Nat.shiftRight_eq_div_pow]; omega
    rw [BitVec.toNat_and, BitVec.toNat_ushiftRight]
    exact (Nat.and_two_pow_sub_one_eq_mod _ 10).trans (Nat.mod_eq_of_lt hlt)
  rw [hidx]

theorem pteAddrOf_eq (pde la : W32) :
    pteAddrOf pde la = (pde &&& 0xFFFFF000#32) ||| (((la >>> 12) &&& 0x3FF#32) <<< 2) := entryAddr_eq pde la 12

theorem pdeAddrOf_mod (s : State) (la : W32) : (pdeAddrOf s la).toNat % 4 = 0 := by
  rw [pdeAddrOf, BitVec.toNat_append, ← Nat.shiftLeft_add_eq_or_of_lt (by decide)]
  simp [Nat.shiftLeft_eq]

theorem pteAddrOf_mod (pde la : W32) : (pteAddrOf pde la).toNat % 4 = 0 := by
  rw [pteAddrOf, BitVec.toNat_append, ← Nat.shiftLeft_add_eq_or_of_lt (by decide)]
  simp [Nat.shiftLeft_eq]

/-- The error code of a page fault (R166). -/
def pfExc (present : Bool) (kind : Access) (user : Bool) : Exc :=
  .pf (atBit present 0 ||| atBit kind.isWrite 1 ||| atBit user 2)

theorem run_pageFault {α : Type} (la : W32) (present : Bool) (kind : Access) (user : Bool) (s : State) :
    (pageFault la present kind user : M α) s = .error (.raise (pfExc present kind user)) (s.setCr2 la) := rfl

/-- The entry after the walk has set its accessed bit, and for a write its dirty bit (R162). -/
def markedPte (pte : W32) (kind : Access) : W32 := pte ||| 0x20#32 ||| atBit kind.isWrite 6

/-- What the walk enters in the TLB (R165). -/
def walkEntry (pde pte : W32) (kind : Access) : TlbEntry :=
  { ppn := (markedPte pte kind).extractLsb' 12 20,
    writable := (markedPte pte kind).getLsbD 6 && (pte &&& pde).getLsbD 1, useracc := (pte &&& pde).getLsbD 2 }

/-- The composite permissions deny the access (R164). -/
def walkDenies (pde pte : W32) (kind : Access) (user : Bool) : Bool :=
  (user && !(pte &&& pde).getLsbD 2) || (kind.isWrite && !(pte &&& pde).getLsbD 1)

/-- The state after the accessed bit of the directory entry is set. -/
def State.markPde (s : State) (pdeAddr pde : W32) : State :=
  bif pde.getLsbD 5 then s else s.storeBytes (addrsFrom 4 pdeAddr) (bytesOf 4 (pde ||| 0x20#32))

/-- The state after the bits of the table entry are set. -/
def State.markPte (s : State) (pteAddr pte : W32) (kind : Access) : State :=
  bif markedPte pte kind == pte then s else s.storeBytes (addrsFrom 4 pteAddr) (bytesOf 4 (markedPte pte kind))

/-- The half of the walk after the directory entry. -/
def walkPte (la : W32) (kind : Access) (user : Bool) (pde : W32) : M (BitVec 20) := do
  let pte ← physRead (pteAddrOf pde la) 4
  bif !pte.getLsbD 0 then pageFault la false kind user
  else bif user && !(pte &&& pde).getLsbD 2 then pageFault la true kind user
  else bif kind.isWrite && !(pte &&& pde).getLsbD 1 then pageFault la true kind user
  else do
    bif !(markedPte pte kind == pte) then physWrite (pteAddrOf pde la) 4 (markedPte pte kind) else pure ()
    upd fun s => s.tlbInsert (vpnOf la) (walkEntry pde pte kind)
    pure (walkEntry pde pte kind).ppn

/-- The walk is its two halves. -/
theorem walkTables_eq (la : W32) (kind : Access) (user : Bool) (s : State) : walkTables la kind user s = (do
    let pde ← physRead (pdeAddrOf s la) 4
    bif !pde.getLsbD 0 then pageFault la false kind user
    else do
      bif !pde.getLsbD 5 then physWrite (pdeAddrOf s la) 4 (pde ||| 0x20#32) else pure ()
      walkPte la kind user (pde ||| 0x20#32)) s := rfl

section
variable {s s1 : State} {la pde pte : W32} {kind : Access} {user : Bool}

theorem physRead_ok_iff {pa v : W32} {n : Nat} {t : State} : physRead pa n s = .ok v t ↔
    (addrsFrom n pa).all s.inMem = true ∧ v = ofBytes ((addrsFrom n pa).map s.byteAt) ∧ t = s := physReadAt_ok_iff

theorem walkTables_of_absent (hr : physRead (pdeAddrOf s la) 4 s = .ok pde s) (h0 : pde.getLsbD 0 = false) :
    walkTables la kind user s = .error (.raise (pfExc false kind user)) (s.setCr2 la) := by
  rw [walkTables_eq, run_bind_ok hr, h0]
  exact run_pageFault ..

/-- A present directory entry is marked and its table read. -/
theorem walkTables_of_present (hr : physRead (pdeAddrOf s la) 4 s = .ok pde s) (h0 : pde.getLsbD 0 = true) :
    walkTables la kind user s = walkPte la kind user (pde ||| 0x20#32) (s.markPde (pdeAddrOf s la) pde) := by
  rw [walkTables_eq, run_bind_ok hr, h0, State.markPde]
  cases pde.getLsbD 5 with
  | true => rfl
  | false => exact run_bind_ok (physWrite_of_all (physRead_ok_iff.mp hr).1)

theorem walkPte_of_absent (hr : physRead (pteAddrOf pde la) 4 s1 = .ok pte s1) (h0 : pte.getLsbD 0 = false) :
    walkPte la kind user pde s1 = .error (.raise (pfExc false kind user)) (s1.setCr2 la) := by
  rw [walkPte, run_bind_ok hr, h0]
  exact run_pageFault ..

theorem walkPte_of_denied (hr : physRead (pteAddrOf pde la) 4 s1 = .ok pte s1) (h0 : pte.getLsbD 0 = true)
    (hd : walkDenies pde pte kind user = true) :
    walkPte la kind user pde s1 = .error (.raise (pfExc true kind user)) (s1.setCr2 la) := by
  rw [walkPte, run_bind_ok hr, h0]
  unfold walkDenies at hd
  cases hu : user && !(pte &&& pde).getLsbD 2 with
  | true => exact run_pageFault ..
  | false =>
    rw [hu, Bool.false_or] at hd
    rw [hd]
    exact run_pageFault ..

theorem walkPte_of_granted (hr : physRead (pteAddrOf pde la) 4 s1 = .ok pte s1) (h0 : pte.getLsbD 0 = true)
    (hd : walkDenies pde pte kind user = false) :
    walkPte la kind user pde s1 = .ok (walkEntry pde pte kind).ppn
      ((s1.markPte (pteAddrOf pde la) pte kind).tlbInsert (vpnOf la) (walkEntry pde pte kind)) := by
  rw [walkDenies, Bool.or_eq_false_iff] at hd
  rw [walkPte, run_bind_ok hr, h0, hd.1, hd.2, State.markPte]
  cases markedPte pte kind == pte with
  | true => rfl
  | false => exact run_bind_ok (physWrite_of_all (physRead_ok_iff.mp hr).1)

theorem walk_of_pg (h : s.pg = true) : walk la kind user s = walkTables la kind user s := by
  rw [walk, run_bind_get, run_cond, h, cond_true]

theorem walk_of_not_pg (h : s.pg = false) : walk la kind user s = .ok (la.extractLsb' 12 20)
    (s.tlbInsert (vpnOf la) { ppn := la.extractLsb' 12 20, writable := true, useracc := true }) := by
  rw [walk, run_bind_get, run_cond, h, cond_false, run_bind_upd, run_pure]

end

/-! ### The walk, from its two entries -/

/-- A bit that the accessed bit is not. -/
theorem getLsbD_or_accessed (v : W32) {k : Nat} (hk : k ≠ 5) : (v ||| 0x20#32).getLsbD k = v.getLsbD k := by
  have hbit : (0x20#32).getLsbD k = false := by
    rw [show (0x20#32) = BitVec.twoPow 32 5 from by decide, BitVec.getLsbD_twoPow]
    simp [Ne.symm hk]
  rw [BitVec.getLsbD_or, hbit, Bool.or_false]

theorem pteAddrOf_accessed (pde la : W32) : pteAddrOf (pde ||| 0x20#32) la = pteAddrOf pde la := by
  have hpage : (pde ||| 0x20#32).extractLsb' 12 20 = pde.extractLsb' 12 20 := by
    refine BitVec.eq_of_getLsbD_eq fun i hi => ?_
    rw [BitVec.getLsbD_extractLsb', BitVec.getLsbD_extractLsb', getLsbD_or_accessed pde (by omega)]
  rw [pteAddrOf, hpage, ← pteAddrOf]

theorem getLsbD_and_accessed (pte pde : W32) {k : Nat} (hk : k ≠ 5) :
    (pte &&& (pde ||| 0x20#32)).getLsbD k = (pte &&& pde).getLsbD k := by
  rw [BitVec.getLsbD_and, BitVec.getLsbD_and, getLsbD_or_accessed pde hk]

theorem walkDenies_accessed (pde pte : W32) (kind : Access) (user : Bool) :
    walkDenies (pde ||| 0x20#32) pte kind user = walkDenies pde pte kind user := by
  rw [walkDenies, getLsbD_and_accessed pte pde (by decide), getLsbD_and_accessed pte pde (by decide), ← walkDenies]

theorem walkEntry_accessed (pde pte : W32) (kind : Access) : walkEntry (pde ||| 0x20#32) pte kind = walkEntry pde pte kind := by
  rw [walkEntry, getLsbD_and_accessed pte pde (by decide), getLsbD_and_accessed pte pde (by decide), ← walkEntry]

/-- Settles O12: the directory entry, then the table entry. -/
theorem walkFollowsTheTables : Obligations.WalkFollowsTheTables := by
  intro s la kind user pde hpg pdeAddr fault hr
  rw [walk_of_pg hpg]
  replace hr : physRead (pdeAddrOf s la) 4 s = .ok pde s := by rw [pdeAddrOf_eq]; exact hr
  refine ⟨walkTables_of_absent hr, fun s1 pte hs1 h0 => ?_⟩
  intro pteAddr hpte denied
  have hs1' : s.markPde (pdeAddrOf s la) pde = s1 := by rw [hs1, pdeAddrOf_eq]; rfl
  replace hpte : physRead (pteAddrOf (pde ||| 0x20#32) la) 4 s1 = .ok pte s1 := by
    rw [pteAddrOf_accessed, pteAddrOf_eq]; exact hpte
  rw [walkTables_of_present hr h0, hs1']
  refine ⟨walkPte_of_absent hpte, fun hp hd => ?_, fun hp hd new s2 hnew hs2 => ?_⟩
  · exact walkPte_of_denied hpte hp ((walkDenies_accessed ..).trans hd)
  · have hs2' : s1.markPte (pteAddrOf (pde ||| 0x20#32) la) pte kind = s2 := by
      rw [hs2, hnew, pteAddrOf_accessed, pteAddrOf_eq]; rfl
    rw [walkPte_of_granted hpte hp ((walkDenies_accessed ..).trans hd), hs2', walkEntry_accessed, hnew]
    rfl

/-! ### Hits and misses -/

theorem translatePage_of_hit {s : State} {la : W32} {kind : Access} {user : Bool} {p : BitVec 20}
    (h : s.tlbAt kind user (vpnOf la) = some p) : translatePage la kind user s = .ok p s := by
  rw [translatePage, run_bind_get, h]
  rfl

theorem translatePage_of_miss {s : State} {la : W32} {kind : Access} {user : Bool}
    (h : s.tlbAt kind user (vpnOf la) = none) : translatePage la kind user s = walk la kind user s := by
  rw [translatePage, run_bind_get, h]

/-- Every way a walk through the tables can end: with the state it leaves, before an entry that is not in physical
memory, at a fault, or with its page entered. -/
inductive WalkEnds (la : W32) (kind : Access) (user : Bool) (s : State) : EStateM.Result Stop State (BitVec 20) → Prop where
  | pdeMissing : WalkEnds la kind user s (.error (.abort .busError) s)
  | pdeAbsent (x : Exc) : WalkEnds la kind user s (.error (.raise x) (s.setCr2 la))
  | pteMissing (pde : W32) (hr : physRead (pdeAddrOf s la) 4 s = .ok pde s) :
      WalkEnds la kind user s (.error (.abort .busError) (s.markPde (pdeAddrOf s la) pde))
  | fault (pde : W32) (x : Exc) (hr : physRead (pdeAddrOf s la) 4 s = .ok pde s) :
      WalkEnds la kind user s (.error (.raise x) ((s.markPde (pdeAddrOf s la) pde).setCr2 la))
  | entered (pde pte : W32) (s1 : State) (hr : physRead (pdeAddrOf s la) 4 s = .ok pde s)
      (hs1 : s1 = s.markPde (pdeAddrOf s la) pde) (hr1 : physRead (pteAddrOf (pde ||| 0x20#32) la) 4 s1 = .ok pte s1)
      (hd : walkDenies pde pte kind user = false) :
      WalkEnds la kind user s (.ok (walkEntry pde pte kind).ppn
        ((s1.markPte (pteAddrOf (pde ||| 0x20#32) la) pte kind).tlbInsert (vpnOf la) (walkEntry pde pte kind)))

theorem physRead_cases (pa : W32) (n : Nat) (s : State) :
    (∃ v, physRead pa n s = .ok v s) ∨ physRead pa n s = .error (.abort .busError) s := by
  cases h : (addrsFrom n pa).all s.inMem with
  | true => exact .inl ⟨_, physReadAt_of_all h⟩
  | false => exact .inr (physReadAt_of_not_all h)

theorem walkTables_ends (la : W32) (kind : Access) (user : Bool) (s : State) :
    WalkEnds la kind user s (walkTables la kind user s) := by
  rcases physRead_cases (pdeAddrOf s la) 4 s with ⟨pde, hr⟩ | hr
  · cases h0 : pde.getLsbD 0 with
    | false => rw [walkTables_of_absent hr h0]; exact .pdeAbsent _
    | true =>
      rw [walkTables_of_present hr h0]
      generalize hs1 : s.markPde (pdeAddrOf s la) pde = s1
      rcases physRead_cases (pteAddrOf (pde ||| 0x20#32) la) 4 s1 with ⟨pte, hr1⟩ | hr1
      · cases h1 : pte.getLsbD 0 with
        | false => rw [walkPte_of_absent hr1 h1, ← hs1]; exact .fault pde _ hr
        | true =>
          cases hd : walkDenies (pde ||| 0x20#32) pte kind user with
          | true => rw [walkPte_of_denied hr1 h1 hd, ← hs1]; exact .fault pde _ hr
          | false =>
            rw [walkPte_of_granted hr1 h1 hd, walkEntry_accessed]
            exact .entered pde pte s1 hr hs1.symm hr1 ((walkDenies_accessed ..).symm.trans hd)
      · have hstop : walkPte la kind user (pde ||| 0x20#32) s1 = .error (.abort .busError) s1 := by
          rw [walkPte, run_bind_error hr1]
        rw [hstop, ← hs1]
        exact .pteMissing pde hr
  · have hstop : walkTables la kind user s = .error (.abort .busError) s := by
      rw [walkTables_eq, run_bind_error hr]
    rw [hstop]
    exact .pdeMissing

/-- The page a walk enters is then found for the same kind and user. -/
theorem tlbView_walkEntry {pde pte : W32} {kind : Access} {user : Bool} (h : walkDenies pde pte kind user = false) :
    tlbView (walkEntry pde pte kind) kind user = some (walkEntry pde pte kind).ppn := by
  rw [walkDenies, Bool.or_eq_false_iff] at h
  have hdirty : kind = .write → (markedPte pte kind).getLsbD 6 = true := by
    rintro rfl
    rw [markedPte, BitVec.getLsbD_or]
    exact Bool.or_eq_true_iff.mpr (.inr (by decide))
  cases kind <;> cases user <;> simp_all [tlbView, walkEntry, Access.isWrite]

/-- After a walk that succeeds its page hits. -/
theorem tlbAt_of_walk {s t : State} {la : W32} {kind : Access} {user : Bool} {p : BitVec 20}
    (h : walk la kind user s = .ok p t) : t.tlbAt kind user (vpnOf la) = some p := by
  cases hpg : s.pg with
  | false =>
    rw [walk_of_not_pg hpg] at h
    cases h
    rw [tlbAt_of_find (find_tlbInsert_self s _ _)]
    cases kind <;> cases user <;> rfl
  | true =>
    rw [walk_of_pg hpg] at h
    have hends := walkTables_ends la kind user s
    rw [h] at hends
    cases hends with
    | entered pde pte s1 hr hs1 hr1 hd => rw [tlbAt_of_find (find_tlbInsert_self _ _ _), tlbView_walkEntry hd]

/-- After a translation that succeeds the same one hits. -/
theorem tlbAt_of_translatePage {s t : State} {la : W32} {kind : Access} {user : Bool} {p : BitVec 20}
    (h : translatePage la kind user s = .ok p t) : t.tlbAt kind user (vpnOf la) = some p := by
  cases hm : s.tlbAt kind user (vpnOf la) with
  | some q => rw [translatePage_of_hit hm] at h; cases h; exact hm
  | none => rw [translatePage_of_miss hm] at h; exact tlbAt_of_walk h

/-- Settles O11: a hit, a miss, and the hit after either. -/
theorem translateHitsOrWalks : Obligations.TranslateHitsOrWalks := by
  intro s la kind user
  refine ⟨fun p h => ?_, fun h p t hw => ?_, fun h e t hw => ?_, fun pa t h => ?_⟩
  · rw [translate, run_bind_ok (translatePage_of_hit h), run_pure]
  · rw [translate, run_bind_ok ((translatePage_of_miss h).trans hw), run_pure]
  · rw [translate, run_bind_error ((translatePage_of_miss h).trans hw)]
  · obtain ⟨p, u, hp, hpa⟩ := bind_ok_iff.mp h
    cases hpa
    rw [translate, run_bind_ok (translatePage_of_hit (tlbAt_of_translatePage hp)), run_pure]

end Sys2Proof.Machine
end

section
/-! What accesses leave: translation with paging disabled (R161), the accessed and dirty bits (R162), the addresses of an
access (R127, R128), and what a read, a store and the write after a probe leave at an operand's place (R130, R240). -/

namespace Sys2Proof.Machine

variable {α β : Type}

/-! ### Paging disabled -/

theorem identityTlb_insert {s : State} (h : s.identityTlb) (la : W32) : (s.tlbInsert (vpnOf la)
    { ppn := la.extractLsb' 12 20, writable := true, useracc := true }).identityTlb := by
  intro e he
  rcases mem_tlbInsert he with rfl | he
  · exact ⟨rfl, rfl, rfl⟩
  · exact h e he

theorem mem_of_assocFind {t : List (Nat × β)} {k : Nat} {v : β} (h : assocFind t k = some v) : (k, v) ∈ t := by
  induction t with
  | nil => cases h
  | cons e t ih =>
    rw [assocFind_cons] at h
    split at h
    · rename_i hk
      cases h
      rw [← hk]
      exact List.mem_cons_self
    · exact List.mem_cons_of_mem _ (ih h)

/-- With paging disabled a page is found or entered as itself. -/
theorem translatePage_of_identity {s : State} (hpg : s.pg = false) (hid : s.identityTlb) (la : W32) (kind : Access)
    (user : Bool) : ∃ t, translatePage la kind user s = .ok (la.extractLsb' 12 20) t
      ∧ t = s.setTlb t.tlb t.tlbList ∧ t.identityTlb := by
  cases hm : s.tlbAt kind user (vpnOf la) with
  | none =>
    refine ⟨_, (translatePage_of_miss hm).trans (walk_of_not_pg hpg), tlbInsert_eq_setTlb _ _ _, ?_⟩
    exact identityTlb_insert hid la
  | some p =>
    obtain ⟨e, hfind, hview⟩ := find_of_tlbAt hm
    obtain ⟨hppn, hw, hu⟩ := hid _ (mem_of_assocFind hfind)
    have hp : tlbView e kind user = some e.ppn := by
      cases kind <;> cases user <;> simp_all [tlbView]
    have hpage : p = la.extractLsb' 12 20 := by
      rw [hp, Option.some.injEq] at hview
      exact hview ▸ BitVec.eq_of_toNat_eq hppn
    exact ⟨s, hpage ▸ translatePage_of_hit hm, rfl, hid⟩

/-- The address of a byte of an access: on the page of the first byte, or on that of the last. -/
def spanAddr (la : W32) (p q : BitVec 20) (a : W32) : W32 :=
  bif vpnOf a == vpnOf la then p ++ a.extractLsb' 0 12 else q ++ a.extractLsb' 0 12

section
variable {s t u : State} {la : W32} {n : Nat} {kind : Access} {user : Bool} {p q : BitVec 20}

/-- An access of one page. -/
theorem translateSpan_of_same (hlast : vpnOf (la + BitVec.ofNat 32 (n - 1)) = vpnOf la)
    (h : translatePage la kind user s = .ok p t) :
    translateSpan la n kind user s = .ok ((addrsFrom n la).map fun a => p ++ a.extractLsb' 0 12) t := by
  rw [translateSpan, run_bind_ok h, run_cond, hlast, beq_self_eq_true, cond_true, run_pure]

/-- An access of two pages: the second is translated after the first. -/
theorem translateSpan_of_apart (hlast : vpnOf (la + BitVec.ofNat 32 (n - 1)) ≠ vpnOf la)
    (h : translatePage la kind user s = .ok p t)
    (h2 : translatePage ((la + BitVec.ofNat 32 (n - 1)) &&& 0xFFFFF000#32) kind user t = .ok q u) :
    translateSpan la n kind user s = .ok ((addrsFrom n la).map (spanAddr la p q)) u := by
  rw [translateSpan, run_bind_ok h, run_cond, beq_false_of_ne hlast, cond_false, run_bind_ok h2]
  rfl

/-- The addresses of an access have the offsets of its bytes in their pages. -/
theorem translateSpan_eq_map {as : List W32} (h : translateSpan la n kind user s = .ok as t) :
    ∃ f : W32 → BitVec 20, as = (addrsFrom n la).map fun a => f a ++ a.extractLsb' 0 12 := by
  rw [translateSpan] at h
  obtain ⟨p, u, _, h⟩ := bind_ok_iff.mp h
  cases hc : vpnOf (la + BitVec.ofNat 32 (n - 1)) == vpnOf la with
  | true =>
    rw [run_cond, hc] at h
    cases h
    exact ⟨fun _ => p, rfl⟩
  | false =>
    rw [run_cond, hc] at h
    obtain ⟨q, x, _, h⟩ := bind_ok_iff.mp h
    cases h
    refine ⟨fun a => bif vpnOf a == vpnOf la then p else q, List.map_congr_left fun a _ => ?_⟩
    dsimp only
    cases vpnOf a == vpnOf la <;> rfl

theorem length_translateSpan {as : List W32} (h : translateSpan la n kind user s = .ok as t) : as.length = n := by
  obtain ⟨f, rfl⟩ := translateSpan_eq_map h
  rw [List.length_map, length_addrsFrom]

/-- The addresses of an access of at most a page are apart, whatever its pages: their offsets are. -/
theorem nodup_translateSpan {as : List W32} (hn : n ≤ 4096) (h : translateSpan la n kind user s = .ok as t) :
    as.Nodup := by
  obtain ⟨f, rfl⟩ := translateSpan_eq_map h
  refine nodup_map_addrsFrom fun j k hj hk he => ?_
  have hoff := congrArg (fun a : W32 => a.toNat % 4096) he
  have hlow : ∀ (x : BitVec 20) (a : W32), (x ++ a.extractLsb' 0 12 : W32).toNat % 4096 = a.toNat % 4096 := by
    intro x a
    rw [BitVec.toNat_append, ← Nat.shiftLeft_add_eq_or_of_lt (a.extractLsb' 0 12).isLt, Nat.shiftLeft_eq,
      BitVec.extractLsb'_toNat, Nat.shiftRight_zero]
    omega
  rw [hlow, hlow, toNat_add_ofNat la (by omega), toNat_add_ofNat la (by omega)] at hoff
  omega

/-- Every byte of an access of at most a page is found again from the pages of the first and the last byte. -/
theorem spanAddr_of_mem (hn : n ≤ 4096) {a : W32} (ha : a ∈ addrsFrom n la)
    (hq : q = (la + BitVec.ofNat 32 (n - 1)).extractLsb' 12 20) : spanAddr la (la.extractLsb' 12 20) q a = a := by
  unfold spanAddr
  by_cases hp : vpnOf a = vpnOf la
  · rw [hp, beq_self_eq_true, cond_true, ← extract_page_eq_of_vpnOf hp, page_append_offset]
  · rw [beq_false_of_ne hp, cond_false, hq,
      ← extract_page_eq_of_vpnOf ((vpnOf_of_mem hn ha).resolve_left hp), page_append_offset]

/-- With paging disabled the addresses of an access are the linear addresses (R161). -/
theorem translateSpan_of_identity (hpg : s.pg = false) (hid : s.identityTlb) (hn : n ≤ 4096) :
    ∃ t, translateSpan la n kind user s = .ok (addrsFrom n la) t ∧ t = s.setTlb t.tlb t.tlbList ∧ t.identityTlb := by
  obtain ⟨t, ht, hst, hidt⟩ := translatePage_of_identity hpg hid la kind user
  by_cases hlast : vpnOf (la + BitVec.ofNat 32 (n - 1)) = vpnOf la
  · refine ⟨t, ?_, hst, hidt⟩
    have hmap : ((addrsFrom n la).map fun a => la.extractLsb' 12 20 ++ a.extractLsb' 0 12) = addrsFrom n la := by
      refine (List.map_congr_left fun a ha => ?_).trans (List.map_id _)
      rw [← extract_page_eq_of_vpnOf (vpnOf_of_mem_same hn hlast ha), page_append_offset]
      rfl
    rw [translateSpan_of_same hlast ht, hmap]
  · have hpgt : t.pg = false := by rw [hst]; exact hpg
    obtain ⟨u, hu, htu, hidu⟩ := translatePage_of_identity hpgt hidt
      ((la + BitVec.ofNat 32 (n - 1)) &&& 0xFFFFF000#32) kind user
    refine ⟨u, ?_, ?_, hidu⟩
    · have hmap : ((addrsFrom n la).map (spanAddr la (la.extractLsb' 12 20)
          (((la + BitVec.ofNat 32 (n - 1)) &&& 0xFFFFF000#32).extractLsb' 12 20))) = addrsFrom n la :=
        (List.map_congr_left fun a ha => spanAddr_of_mem hn ha (extract_page_and _)).trans (List.map_id _)
      rw [translateSpan_of_apart hlast ht hu, hmap]
    · rw [htu, hst]
      rfl

end

/-! ### Linear accesses -/

section
variable {s t u : State} {la v : W32} {n : Nat} {user : Bool} {as : List W32} {e : Stop}

theorem linRead_of_span (h : translateSpan la n .read user s = .ok as u) : linRead la n user s = physReadAt as u :=
  run_bind_ok h

theorem linRead_of_stop (h : translateSpan la n .read user s = .error e u) : linRead la n user s = .error e u :=
  run_bind_error h

theorem linWrite_of_span (h : translateSpan la n .write user s = .ok as u) :
    linWrite la n v user s = physWriteEach as (bytesOf n v) u := run_bind_ok h

theorem linWrite_of_stop (h : translateSpan la n .write user s = .error e u) : linWrite la n v user s = .error e u :=
  run_bind_error h

/-- A store that completes: its place translated, and the bytes stored there. -/
theorem linWrite_ok_iff : linWrite la n v user s = .ok () t ↔ ∃ as u, translateSpan la n .write user s = .ok as u
    ∧ as.all u.inMem = true ∧ t = u.storeBytes as (bytesOf n v) := by
  constructor
  · intro h
    obtain ⟨as, u, hspan, hw⟩ := bind_ok_iff.mp h
    have hall := all_of_physWriteEach_ok (by rw [length_translateSpan hspan, length_bytesOf]) hw
    rw [physWriteEach_of_all hall] at hw
    cases hw
    exact ⟨as, u, hspan, hall, rfl⟩
  · rintro ⟨as, u, hspan, hall, rfl⟩
    rw [linWrite_of_span hspan, physWriteEach_of_all hall]

end

/-- Settles O10: the addresses of the access are the linear addresses. -/
theorem pagingDisabledIsIdentity : Obligations.PagingDisabledIsIdentity := by
  intro s w la v hpg hid hsize
  have hw : w.bytes ≤ 4096 := (width_bytes_le w).trans (by decide)
  have hin : ∀ u : State, u.memSize = s.memSize → (addrsFrom w.bytes la).all u.inMem = true := by
    intro u hu
    refine all_inMem_iff.mpr fun k _ => ?_
    rw [hu, hsize]
    exact BitVec.isLt _
  refine ⟨?_, ?_⟩
  · obtain ⟨t, ht, hst, hidt⟩ := translateSpan_of_identity (la := la) (kind := .read) (user := s.user) hpg hid hw
    refine ⟨t, ?_, hst, hidt⟩
    have hbytes : t.byteAt = s.byteAt := by rw [hst]; rfl
    rw [← hbytes]
    exact (linRead_of_span ht).trans (physReadAt_of_all (hin t (by rw [hst]; rfl)))
  · obtain ⟨u, hu, hsu, hidu⟩ := translateSpan_of_identity (la := la) (kind := .write) (user := s.user) hpg hid hw
    have hall := hin u (by rw [hsu]; rfl)
    have hbytes : u.byteAt = s.byteAt := by rw [hsu]; rfl
    have hmap := map_byteAt_storeBytes (bs := bytesOf w.bytes v) u
      (nodup_addrsFrom (hw.trans (by decide)) la) (by simp)
    refine ⟨u.storeBytes (addrsFrom w.bytes la) (bytesOf w.bytes v), ?_, ?_, ?_, fun k hk => ?_, ?_⟩
    · exact linWrite_ok_iff.mpr ⟨_, u, hu, hall, rfl⟩
    · rw [storeBytes_eq_setMem]; exact hidu
    · rw [storeBytes_eq_setMem, hsu]; rfl
    · have hk' := congrArg (·[k]?) hmap
      rw [List.getElem?_map, getElem?_addrsFrom la hk, getElem?_bytesOf v hk] at hk'
      exact Option.some.inj hk'
    · intro a ha
      rw [sameOutside_storeBytes _ _ u a ha, hbytes]

/-! ### The accessed and dirty bits -/

theorem State.onlyAccessedDirty.refl (s : State) : s.onlyAccessedDirty s := fun _ => .inl rfl

/-- Memory that is the same has no bit set. -/
theorem onlyAccessedDirty_of_mem {s t : State} (h : t.mem = s.mem) : s.onlyAccessedDirty t := fun a =>
  .inl (by rw [State.byteAt, h]; rfl)

theorem State.onlyAccessedDirty.trans {s t u : State} (h1 : s.onlyAccessedDirty t) (h2 : t.onlyAccessedDirty u) :
    s.onlyAccessedDirty u := by
  intro a
  rcases h1 a with e1 | ⟨hal, k1, l1⟩
  · rw [← e1]; exact h2 a
  · rcases h2 a with e2 | ⟨_, k2, l2⟩
    · rw [e2]; exact .inr ⟨hal, k1, l1⟩
    · refine .inr ⟨hal, k2.trans k1, ?_⟩
      calc s.byteAt a &&& u.byteAt a = (s.byteAt a &&& t.byteAt a) &&& u.byteAt a := by rw [l1]
        _ = s.byteAt a := by rw [BitVec.and_assoc, l2, l1]

/-- Setting bits 5 and 6 alone in the dword read at a dword-aligned address. -/
theorem onlyAccessedDirty_storeBytes {s : State} {pa v bits : W32} (hal : pa.toNat % 4 = 0)
    (hr : physRead pa 4 s = .ok v s) (hbits : bits &&& 0x60#32 = bits) :
    s.onlyAccessedDirty (s.storeBytes (addrsFrom 4 pa) (bytesOf 4 (v ||| bits))) := by
  obtain ⟨_, hv, _⟩ := physRead_ok_iff.mp hr
  have hmap := map_byteAt_storeBytes (bs := bytesOf 4 (v ||| bits)) s (nodup_addrsFrom (n := 4) (by decide) pa) (by simp)
  have hout := sameOutside_storeBytes (addrsFrom 4 pa) (bytesOf 4 (v ||| bits)) s
  generalize s.storeBytes (addrsFrom 4 pa) (bytesOf 4 (v ||| bits)) = t at hmap hout
  intro a
  by_cases ha : a ∈ addrsFrom 4 pa
  · obtain ⟨k, hk, rfl⟩ := mem_addrsFrom.mp ha
    have hold : (v >>> (8 * k)).setWidth 8 = s.byteAt (pa + BitVec.ofNat 32 k) := by
      rw [hv]
      refine byte_ofBytes hk ?_
      rw [List.getElem?_map, getElem?_addrsFrom pa hk]
      rfl
    have hnew : t.byteAt (pa + BitVec.ofNat 32 k)
        = s.byteAt (pa + BitVec.ofNat 32 k) ||| (bits >>> (8 * k)).setWidth 8 := by
      have hk' := congrArg (·[k]?) hmap
      rw [List.getElem?_map, getElem?_addrsFrom pa hk, getElem?_bytesOf _ hk, Option.map_some, Option.some.injEq,
        BitVec.ushiftRight_or_distrib, BitVec.setWidth_or, hold] at hk'
      exact hk'
    have hpart : (bits >>> (8 * k)).setWidth 8 = (bits >>> (8 * k)).setWidth 8 &&& ((0x60#32) >>> (8 * k)).setWidth 8 := by
      rw [← BitVec.setWidth_and, ← BitVec.ushiftRight_and_distrib, hbits]
    by_cases hk0 : k = 0
    · subst hk0
      refine .inr ⟨by simpa using hal, ?_, ?_⟩
      · have hmask : (0x60#8 &&& ~~~0x60#8) = 0#8 := by decide
        have hclear : (bits >>> (8 * 0)).setWidth 8 &&& ~~~0x60#8 = 0#8 := by
          rw [hpart, BitVec.and_assoc]
          exact (congrArg _ hmask).trans BitVec.and_zero
        rw [hnew, BitVec.and_or_distrib_right, hclear, BitVec.or_zero]
      · rw [hnew, BitVec.and_or_distrib_left, BitVec.and_self]
        refine BitVec.eq_of_getLsbD_eq fun i _ => ?_
        rw [BitVec.getLsbD_or, BitVec.getLsbD_and]
        cases (s.byteAt (pa + BitVec.ofNat 32 0)).getLsbD i <;> rfl
    · have hzero : ((0x60#32) >>> (8 * k)).setWidth 8 = 0#8 := by
        obtain rfl | rfl | rfl : k = 1 ∨ k = 2 ∨ k = 3 := by omega
        all_goals decide
      rw [hzero, BitVec.and_zero] at hpart
      exact .inl (by rw [hnew, hpart, BitVec.or_zero])
  · exact .inl (hout a ha)

/-! ### What a translation leaves -/

theorem State.afterReads.refl (s : State) : s.afterReads s := ⟨rfl, rfl, .refl s⟩

theorem State.afterReads.trans {s t u : State} (h1 : s.afterReads t) (h2 : t.afterReads u) : s.afterReads u :=
  ⟨h1.1.trans h2.1, h2.2.1.trans h1.2.1, h1.2.2.trans h2.2.2⟩

/-- A rule that only reads: it leaves the TLB, accessed and dirty bits, and CR2 where it stops. -/
def Reading (m : M α) : Prop := ∀ s, (∀ a t, m s = .ok a t → s.afterReads t)
  ∧ ∀ e t, m s = .error e t → s.sameButWalk t ∧ s.onlyAccessedDirty t

theorem Reading.of_ok {m : M α} (hm : Reading m) {s t : State} {a : α} (h : m s = .ok a t) : s.afterReads t :=
  (hm s).1 a t h

theorem reading_pure (a : α) : Reading (pure a : M α) := fun s =>
  ⟨fun _ _ h => (by cases h; exact .refl s), fun _ _ h => (by cases h)⟩

theorem reading_abort (r : AbortReason) : Reading (abort r : M α) := fun s =>
  ⟨fun _ _ h => (by cases h), fun _ _ h => (by cases h; exact ⟨rfl, .refl s⟩)⟩

theorem reading_raise (e : Exc) : Reading (raise e : M α) := fun s =>
  ⟨fun _ _ h => (by cases h), fun _ _ h => (by cases h; exact ⟨rfl, .refl s⟩)⟩

theorem reading_bind {m : M α} {f : α → M β} (hm : Reading m) (hf : ∀ a, Reading (f a)) : Reading (m >>= f) := by
  intro s
  refine ⟨fun b t h => ?_, fun e t h => ?_⟩
  · obtain ⟨a, u, h1, h2⟩ := bind_ok_iff.mp h
    exact (hm.of_ok h1).trans ((hf a).of_ok h2)
  · rcases bind_error_iff.mp h with h | ⟨a, u, h1, h2⟩
    · exact (hm s).2 e t h
    · obtain ⟨hsame, hbits⟩ := (hf a u).2 e t h2
      have hu := hm.of_ok h1
      exact ⟨hu.1.trans hsame, hu.2.2.trans hbits⟩

theorem reading_get {f : State → M β} (hf : ∀ s, Reading (f s)) : Reading ((get : M State) >>= f) := fun s => hf s s

theorem reading_cond {c : Bool} {x y : M α} (hx : Reading x) (hy : Reading y) : Reading (bif c then x else y) := by
  cases c
  · exact hy
  · exact hx

/-- A store that sets accessed and dirty bits alone. -/
theorem afterReads_storeBytes {s : State} {as : List W32} {bs : List Byte}
    (h : s.onlyAccessedDirty (s.storeBytes as bs)) : s.afterReads (s.storeBytes as bs) := by
  have hmem := storeBytes_eq_setMem as bs s
  generalize s.storeBytes as bs = t at h hmem
  exact ⟨by rw [hmem]; rfl, by rw [hmem]; rfl, h⟩

/-- The updates of a walk on the way to an entry of the TLB. -/
theorem afterReads_markPde {s : State} {la pde : W32} (hr : physRead (pdeAddrOf s la) 4 s = .ok pde s) :
    s.afterReads (s.markPde (pdeAddrOf s la) pde) := by
  unfold State.markPde
  cases pde.getLsbD 5 with
  | true => exact .refl s
  | false =>
    have hbits := onlyAccessedDirty_storeBytes (bits := 0x20#32) (pdeAddrOf_mod s la) hr (by decide)
    exact afterReads_storeBytes hbits

theorem afterReads_markPte {s : State} {la pde pte : W32} {kind : Access}
    (hr : physRead (pteAddrOf pde la) 4 s = .ok pte s) : s.afterReads (s.markPte (pteAddrOf pde la) pte kind) := by
  unfold State.markPte
  cases markedPte pte kind == pte with
  | true => exact .refl s
  | false =>
    have hbits : s.onlyAccessedDirty (s.storeBytes (addrsFrom 4 (pteAddrOf pde la)) (bytesOf 4 (markedPte pte kind))) := by
      rw [markedPte, BitVec.or_assoc]
      refine onlyAccessedDirty_storeBytes (pteAddrOf_mod pde la) hr ?_
      cases kind <;> decide
    exact afterReads_storeBytes hbits

theorem afterReads_tlbInsert (s : State) (vpn : Nat) (e : TlbEntry) : s.afterReads (s.tlbInsert vpn e) := by
  rw [tlbInsert_eq_setTlb]
  exact ⟨rfl, rfl, onlyAccessedDirty_of_mem rfl⟩

/-- A walk sets accessed and dirty bits, and CR2 where it faults. -/
theorem reading_walk (la : W32) (kind : Access) (user : Bool) : Reading (walk la kind user) := by
  intro s
  have hcr2 : ∀ u : State, s.afterReads u → s.sameButWalk (u.setCr2 la) ∧ s.onlyAccessedDirty (u.setCr2 la) :=
    fun u hu => ⟨hu.1.trans rfl, hu.2.2.trans (onlyAccessedDirty_of_mem rfl)⟩
  cases hpg : s.pg with
  | false =>
    rw [walk_of_not_pg hpg]
    exact ⟨fun _ _ h => (by cases h; exact afterReads_tlbInsert _ _ _), fun _ _ h => (by cases h)⟩
  | true =>
    rw [walk_of_pg hpg]
    refine ⟨fun p t h => ?_, fun e t h => ?_⟩
    · have hends := walkTables_ends la kind user s
      rw [h] at hends
      cases hends with
      | entered pde pte s1 hr hs1 hr1 _ =>
        have h1 : s.afterReads s1 := hs1 ▸ afterReads_markPde hr
        exact (h1.trans (afterReads_markPte hr1)).trans (afterReads_tlbInsert _ _ _)
    · have hends := walkTables_ends la kind user s
      rw [h] at hends
      cases hends with
      | pdeMissing => exact ⟨rfl, .refl s⟩
      | pdeAbsent x => exact hcr2 s (.refl s)
      | pteMissing pde hr => exact ⟨(afterReads_markPde hr).1, (afterReads_markPde hr).2.2⟩
      | fault pde x hr => exact hcr2 _ (afterReads_markPde hr)

theorem reading_translatePage (la : W32) (kind : Access) (user : Bool) : Reading (translatePage la kind user) := by
  refine reading_get fun s => ?_
  cases s.tlbAt kind user (vpnOf la) with
  | some p => exact reading_pure p
  | none => exact reading_walk la kind user

theorem reading_translateSpan (la : W32) (n : Nat) (kind : Access) (user : Bool) :
    Reading (translateSpan la n kind user) :=
  reading_bind (reading_translatePage _ _ _) fun _ => reading_cond (reading_pure _)
    (reading_bind (reading_translatePage _ _ _) fun _ => reading_pure _)

/-- Settles O14. -/
theorem translationSetsOnlyAccessedAndDirty : Obligations.TranslationSetsOnlyAccessedAndDirty :=
  fun s la n kind user => reading_translateSpan la n kind user s

/-! ### What a read leaves -/

theorem reading_physReadAt (as : List W32) : Reading (physReadAt as) :=
  reading_get fun _ => reading_cond (reading_pure _) (reading_abort _)

theorem reading_linRead (la : W32) (n : Nat) (user : Bool) : Reading (linRead la n user) :=
  reading_bind (reading_translateSpan _ _ _ _) fun _ => reading_physReadAt _

theorem reading_accRead (la : W32) (n : Nat) : Reading (accRead la n) := reading_get fun _ => reading_linRead _ _ _

theorem reading_sysRead (la : W32) (n : Nat) : Reading (sysRead la n) := reading_linRead _ _ _

theorem reading_accProbe (la : W32) (n : Nat) : Reading (accProbe la n) :=
  reading_get fun _ => reading_translateSpan _ _ _ _

theorem reading_accReadW (la : W32) (n : Nat) : Reading (accReadW la n) :=
  reading_bind (reading_accProbe _ _) fun _ => reading_bind (reading_physReadAt _) fun _ => reading_pure _

theorem reading_readLoc (w : Width) (l : Loc) : Reading (readLoc w l) := by
  cases l with
  | reg r => exact reading_get fun _ => reading_pure _
  | mem seg off => exact reading_get fun _ => reading_accRead _ _

theorem reading_readLocW (w : Width) (l : Loc) : Reading (readLocW w l) := by
  cases l with
  | reg r => exact reading_get fun _ => reading_pure _
  | mem seg off => exact reading_get fun _ => reading_accReadW _ _

theorem reading_descRead (sel : W16) : Reading (descRead sel) :=
  reading_get fun _ => reading_cond (reading_pure _)
    (reading_bind (reading_sysRead _ _) fun _ => reading_bind (reading_sysRead _ _) fun _ => reading_pure _)

/-- What a translation or a read leaves, as an update of the state before it. -/
theorem State.afterReads.eq {s u : State} (h : s.afterReads u) :
    u = { s with tlb := u.tlb, tlbList := u.tlbList, mem := u.mem } := by
  obtain ⟨hsame, hcr2, _⟩ := h
  rw [State.sameButWalk, hcr2] at hsame
  exact hsame

/-! ### What a store leaves -/

section
variable {s t u : State} {w : Width} {l : Loc} {v la : W32} {as : List W32} {h : Held}

/-- The bytes of a store that completes, at the addresses that its place translated to. -/
theorem storeBytes_of_span {kind : Access} {user : Bool} (hspan : translateSpan la w.bytes kind user s = .ok as u)
    (ht : t = u.storeBytes as (bytesOf w.bytes v)) :
    as.length = w.bytes ∧ t = u.setMem t.mem ∧ u.sameOutside as t ∧ as.map t.byteAt = bytesOf w.bytes v := by
  have hlen := length_translateSpan hspan
  have hnd := nodup_translateSpan ((width_bytes_le w).trans (by decide)) hspan
  subst ht
  exact ⟨hlen, storeBytes_eq_setMem _ _ _, sameOutside_storeBytes _ _ _,
    map_byteAt_storeBytes u hnd (by rw [hlen, length_bytesOf])⟩

/-- A store leaves its value at its place, and nothing else but the TLB and accessed and dirty bits. -/
theorem stored_of_writeLoc (hw : writeLoc w l v s = .ok () t) : l.stored w v s t := by
  cases l with
  | reg r => cases hw; rfl
  | mem seg off =>
    obtain ⟨as, u, hspan, _, ht⟩ := linWrite_ok_iff.mp (show linWrite _ w.bytes v s.user s = .ok () t from hw)
    obtain ⟨_, hmem, hout, hmap⟩ := storeBytes_of_span hspan ht
    have hu := (reading_translateSpan _ _ _ _).of_ok hspan
    refine ⟨?_, as, u, hspan, hu.2.2, hout, hmap⟩
    rw [hmem, hu.eq]
    rfl

theorem translateProbed_of_ok (hspan : translateSpan la w.bytes .write s.user s = .ok as u) (ps : List W32) :
    translateProbed la w.bytes ps s = .ok as u := by
  rw [translateProbed, hspan]

theorem translateProbed_of_raise {x : Exc} (hspan : translateSpan la w.bytes .write s.user s = .error (.raise x) u)
    (ps : List W32) : translateProbed la w.bytes ps s = .ok ps s := by
  rw [translateProbed, hspan]

/-- The write after a probe whose place translates again is the write. -/
theorem writeBack_of_span {seg : Sreg} {off : W32}
    (hspan : translateSpan ((s.segs.get seg).base + off) w.bytes .write s.user s = .ok as u) :
    writeBack w (.mem seg off) h v s = writeLoc w (.mem seg off) v s := by
  have hback : writeBack w (.mem seg off) h v s = physWriteEach as (bytesOf w.bytes v) u :=
    run_bind_ok (translateProbed_of_ok hspan h.places)
  exact hback.trans (linWrite_of_span hspan).symm

/-- The write after a probe whose place would raise stores at the addresses of the probe. -/
theorem writeBack_of_raise {seg : Sreg} {off : W32} {x : Exc}
    (hspan : translateSpan ((s.segs.get seg).base + off) w.bytes .write s.user s = .error (.raise x) u) :
    writeBack w (.mem seg off) h v s = physWriteEach h.places (bytesOf w.bytes v) s :=
  run_bind_ok (translateProbed_of_raise hspan h.places)

theorem writeBack_of_abort {seg : Sreg} {off : W32} {r : AbortReason}
    (hspan : translateSpan ((s.segs.get seg).base + off) w.bytes .write s.user s = .error (.abort r) u) :
    writeBack w (.mem seg off) h v s = .error (.abort r) u := by
  have hprobed : translateProbed ((s.segs.get seg).base + off) w.bytes h.places s = .error (.abort r) u := by
    rw [translateProbed, hspan]
  exact run_bind_error (m := translateProbed _ _ _) hprobed

/-- The write after a probe never raises (R130). -/
theorem writeBack_ne_raise (x : Exc) : writeBack w l h v s ≠ .error (.raise x) u := by
  cases l with
  | reg r => exact nofun
  | mem seg off =>
    cases hspan : translateSpan ((s.segs.get seg).base + off) w.bytes .write s.user s with
    | ok as y =>
      have hback : writeBack w (.mem seg off) h v s = physWriteEach as (bytesOf w.bytes v) y :=
        run_bind_ok (translateProbed_of_ok hspan h.places)
      rw [hback]
      exact physWriteEach_ne_raise _ _ _ _ _
    | error st y =>
      cases st with
      | raise z => rw [writeBack_of_raise hspan]; exact physWriteEach_ne_raise _ _ _ _ _
      | abort r => rw [writeBack_of_abort hspan]; exact nofun

/-- The addresses a probe answered: as many as bytes, and apart. -/
def Held.probed (h : Held) (w : Width) : Prop := h.places.length = w.bytes ∧ h.places.Nodup

theorem probed_of_span {kind : Access} {user : Bool} (hspan : translateSpan la w.bytes kind user s = .ok h.places u) :
    h.probed w := ⟨length_translateSpan hspan, nodup_translateSpan ((width_bytes_le w).trans (by decide)) hspan⟩

theorem probed_of_readLocW {seg : Sreg} {off : W32} (hr : readLocW w (.mem seg off) s = .ok h t) : h.probed w := by
  obtain ⟨as, u, hspan, hr⟩ := bind_ok_iff.mp (show accReadW _ w.bytes s = .ok h t from hr)
  obtain ⟨v, x, _, hr⟩ := bind_ok_iff.mp hr
  cases hr
  exact probed_of_span (h := { val := v, places := as }) (show translateSpan _ _ _ _ s = .ok as u from hspan)

/-- The write of a read-modify-write leaves its value at its place, or at the addresses of the read. -/
theorem storedBack_of_probed (hp : ∀ seg off, l = .mem seg off → h.probed w) (hw : writeBack w l h v s = .ok () t) :
    l.storedBack w v h s t := by
  cases l with
  | reg r => exact .inl (stored_of_writeLoc (l := .reg r) hw)
  | mem seg off =>
    cases hspan : translateSpan ((s.segs.get seg).base + off) w.bytes .write s.user s with
    | ok as y => exact .inl (stored_of_writeLoc (writeBack_of_span hspan ▸ hw))
    | error st y =>
      cases st with
      | abort r => rw [writeBack_of_abort hspan] at hw; cases hw
      | raise z =>
        obtain ⟨hlen, hnd⟩ := hp seg off rfl
        rw [writeBack_of_raise hspan] at hw
        have hall := all_of_physWriteEach_ok (by rw [hlen, length_bytesOf]) hw
        rw [physWriteEach_of_all hall] at hw
        cases hw
        exact .inr ⟨seg, off, z, y, rfl, hspan, storeBytes_eq_setMem _ _ _, sameOutside_storeBytes _ _ _,
          map_byteAt_storeBytes s hnd (by rw [hlen, length_bytesOf])⟩

theorem storedBack_of_writeBack {s0 : State} (hr : readLocW w l s0 = .ok h s) (hw : writeBack w l h v s = .ok () t) :
    l.storedBack w v h s t :=
  storedBack_of_probed (fun _ _ hl => probed_of_readLocW (hl ▸ hr)) hw

end

/-- Settles O15: each access is a translation, and a read or a store at the addresses it answers. -/
theorem accessesReachTheirBytes : Obligations.AccessesReachTheirBytes := by
  intro s u la v w as seg off r l h e x level place
  refine ⟨rfl, rfl, rfl, rfl, rfl, rfl, rfl, fun read write user hform => ?_, fun hspan hall => ?_, fun hspan => ?_,
    writeBack_ne_raise x, writeBack_of_span, fun hspan hlen hnd hall => ?_⟩
  · have hlin : read la w.bytes s = linRead la w.bytes user s ∧ write la w.bytes v s = linWrite la w.bytes v user s := by
      simp only [List.mem_cons, Prod.mk.injEq, List.not_mem_nil, or_false] at hform
      rcases hform with ⟨rfl, rfl, rfl⟩ | ⟨rfl, rfl, rfl⟩
      · exact ⟨rfl, rfl⟩
      · exact ⟨rfl, rfl⟩
    rw [hlin.1, hlin.2]
    refine ⟨fun hspan => ⟨fun hall => ?_, fun hall => ?_⟩, linRead_of_stop, fun hspan hall => ?_, linWrite_of_stop⟩
    · rw [linRead_of_span hspan, physReadAt_of_all hall]
    · rw [linRead_of_span hspan, physReadAt_of_not_all hall]
    · obtain ⟨hlen, hmem, hout, hmap⟩ := storeBytes_of_span (v := v) hspan rfl
      exact ⟨hlen, _, linWrite_ok_iff.mpr ⟨as, u, hspan, hall, rfl⟩, hmem, hout, hmap⟩
  · have hprobe : accProbe la w.bytes s = .ok as u := hspan
    rw [accReadW, run_bind_ok hprobe, run_bind_ok (physReadAt_of_all hall), run_pure]
  · have hprobe : accProbe la w.bytes s = .error e u := hspan
    rw [accReadW, run_bind_error hprobe]
  · refine ⟨_, (writeBack_of_raise hspan).trans (physWriteEach_of_all hall), storeBytes_eq_setMem _ _ _,
      sameOutside_storeBytes _ _ _, ?_⟩
    exact map_byteAt_storeBytes s hnd (by rw [hlen, length_bytesOf])

end Sys2Proof.Machine
end

section
/-! Fetching (R161, R221, R223): a decoding takes its bytes in parts of one, two or four; the machine's fetch of a part
answers what the decoder takes from the list of bytes. -/

namespace Sys2Proof.Machine

variable {α β : Type}

/-! ### A decoding, part by part -/

theorem setWidth_ofBytes_one (b : Byte) : (ofBytes [b]).setWidth 8 = b :=
  byte_ofBytes (bs := [b]) (k := 0) (by decide) rfl

theorem setWidth_ofBytes_two (b0 b1 : Byte) : (ofBytes [b0, b1]).setWidth 16 = b1 ++ b0 := by
  refine BitVec.eq_of_getLsbD_eq fun i hi => ?_
  rw [BitVec.getLsbD_setWidth, BitVec.getLsbD_append]
  by_cases h : i < 8
  · have hbit := getLsbD_ofBytes (bs := [b0, b1]) (k := 0) (j := i) (by decide) h rfl
    simp only [Nat.mul_zero, Nat.zero_add] at hbit
    simp [hi, h, hbit]
  · have hbit := getLsbD_ofBytes (bs := [b0, b1]) (k := 1) (j := i - 8) (by decide) (by omega) rfl
    rw [show 8 * 1 + (i - 8) = i by omega] at hbit
    simp [hi, h, hbit]

theorem ofBytes_four (b0 b1 b2 b3 : Byte) : ofBytes [b0, b1, b2, b3] = b3 ++ (b2 ++ (b1 ++ b0)) := by
  refine BitVec.eq_of_getLsbD_eq fun i hi => ?_
  have hbit : ∀ k b, k < 4 → 8 * k ≤ i → i < 8 * k + 8 → [b0, b1, b2, b3][k]? = some b →
      (ofBytes [b0, b1, b2, b3]).getLsbD i = b.getLsbD (i - 8 * k) := by
    intro k b hk h1 h2 hb
    rw [← getLsbD_ofBytes hk (by omega) hb, show 8 * k + (i - 8 * k) = i by omega]
  rw [BitVec.getLsbD_append, BitVec.getLsbD_append, BitVec.getLsbD_append]
  by_cases h8 : i < 8
  · rw [hbit 0 b0 (by decide) (by omega) (by omega) rfl]
    simp [h8, show i < 24 by omega, show i < 16 by omega]
  by_cases h16 : i < 16
  · rw [hbit 1 b1 (by decide) (by omega) (by omega) rfl]
    simp [h8, h16, show i < 24 by omega]
  by_cases h24 : i < 24
  · rw [hbit 2 b2 (by decide) (by omega) (by omega) rfl]
    simp [h16, h24]
  · rw [hbit 3 b3 (by decide) (by omega) (by omega) rfl]
    simp [h24]

/-- A decoding that waits for n bytes: what the machine and the decoder do with it. -/
structure FetchPart (f : Fetch α) (n : Nat) (k : W32 → Fetch α) : Prop where
  pos : 1 ≤ n
  le : n ≤ 4
  fetch : fetchRun f = fetchPart n >>= fun v => fetchRun (k v)
  run : ∀ len bs, f.run len bs = if len + n > Config.maxInsnLen then .error .tooLong
    else if n ≤ bs.length then (k (ofBytes (bs.take n))).run (len + n) (bs.drop n) else .error .needMoreBytes

theorem fetchPart_byte (k : Byte → Fetch α) : FetchPart (Fetch.byte k) 1 fun v => k (v.setWidth 8) where
  pos := by decide
  le := by decide
  fetch := rfl
  run len bs := by
    match bs with
    | [] => simp [Fetch.run]
    | b :: t => simp [Fetch.run, setWidth_ofBytes_one]

theorem fetchPart_word (k : W16 → Fetch α) : FetchPart (Fetch.word k) 2 fun v => k (v.setWidth 16) where
  pos := by decide
  le := by decide
  fetch := rfl
  run len bs := by
    match bs with
    | [] => simp [Fetch.run]
    | [_] => simp [Fetch.run]
    | b0 :: b1 :: t => simp [Fetch.run, setWidth_ofBytes_two]

theorem fetchPart_dword (k : W32 → Fetch α) : FetchPart (Fetch.dword k) 4 k where
  pos := by decide
  le := by decide
  fetch := rfl
  run len bs := by
    match bs with
    | [] => simp [Fetch.run]
    | [_] => simp [Fetch.run]
    | [_, _] => simp [Fetch.run]
    | [_, _, _] => simp [Fetch.run]
    | b0 :: b1 :: b2 :: b3 :: t => simp [Fetch.run, ofBytes_four]

/-- Induction over a decoding with one case for its parts. -/
theorem fetchPart_induction {motive : Fetch α → Prop} (done : ∀ a, motive (.done a))
    (part : ∀ f n k, FetchPart f n k → (∀ v, motive (k v)) → motive f) (f : Fetch α) : motive f := by
  induction f with
  | done a => exact done a
  | byte k ih => exact part _ _ _ (fetchPart_byte k) fun v => ih _
  | word k ih => exact part _ _ _ (fetchPart_word k) fun v => ih _
  | dword k ih => exact part _ _ _ (fetchPart_dword k) fun v => ih _

/-! ### States that serve the bytes of a list -/

/-- States, by how many bytes have been taken, from which the machine fetches the bytes of a list part by part. -/
structure Serves (len : Nat) (bytes : List Byte) (I : Nat → State → Prop) : Prop where
  len_eq : ∀ j u, I j u → u.dec.len = len + j
  part : ∀ j n u, 1 ≤ n → n ≤ 4 → I j u → len + j + n ≤ 15 → j + n ≤ bytes.length →
    ∃ t, fetchPart n u = .ok (ofBytes ((bytes.drop j).take n)) t ∧ I (j + n) t

theorem fetchPart_of_long {u : State} {n : Nat} (h : 15 < u.dec.len + n) : fetchPart n u = .error (.raise .ud) u := by
  rw [fetchPart, run_bind_get, run_cond, show Nat.blt Config.maxInsnLen (u.dec.len + n) = true from Nat.blt_eq.mpr h]
  rfl

section
variable {len : Nat} {bytes rest : List Byte} {I : Nat → State → Prop}

/-- An item that the bytes complete is fetched. -/
theorem Serves.fetchRun_ok (hI : Serves len bytes I) (f : Fetch α) {a : α} : ∀ {j : Nat} {u : State}, I j u →
    j ≤ bytes.length → f.run (len + j) (bytes.drop j) = .ok (a, rest) →
    ∃ t, fetchRun f u = .ok a t ∧ I (bytes.length - rest.length) t := by
  induction f using fetchPart_induction with
  | done b =>
    intro j u hu hj h
    rw [Fetch.run, Except.ok.injEq, Prod.mk.injEq] at h
    obtain ⟨rfl, rfl⟩ := h
    refine ⟨u, rfl, ?_⟩
    rwa [List.length_drop, Nat.sub_sub_self hj]
  | part f n k hf ih =>
    intro j u hu hj h
    rw [hf.run, List.length_drop] at h
    split at h
    · cases h
    split at h
    · rename_i hlen hn
      obtain ⟨t, ht, hIt⟩ := hI.part j n u hf.pos hf.le hu (Nat.not_lt.mp hlen) (by omega)
      rw [List.drop_drop, Nat.add_assoc] at h
      obtain ⟨x, hx, hIx⟩ := ih _ hIt (by omega) h
      exact ⟨x, by rw [hf.fetch, run_bind_ok ht, hx], hIx⟩
    · cases h

/-- An item that would take a sixteenth byte raises before that byte is read. -/
theorem Serves.fetchRun_tooLong (hI : Serves len bytes I) (f : Fetch α) : ∀ {j : Nat} {u : State}, I j u →
    j ≤ bytes.length → f.run (len + j) (bytes.drop j) = .error .tooLong →
    ∃ m t, fetchRun f u = .error (.raise .ud) t ∧ I m t := by
  induction f using fetchPart_induction with
  | done b => intro j u hu hj h; cases h
  | part f n k hf ih =>
    intro j u hu hj h
    rw [hf.run, List.length_drop] at h
    split at h
    · rename_i hlen
      refine ⟨j, u, ?_, hu⟩
      rw [hf.fetch, run_bind_error (fetchPart_of_long (by rw [hI.len_eq j u hu]; exact hlen))]
    split at h
    · rename_i hlen hn
      obtain ⟨t, ht, hIt⟩ := hI.part j n u hf.pos hf.le hu (Nat.not_lt.mp hlen) (by omega)
      rw [List.drop_drop, Nat.add_assoc] at h
      obtain ⟨m, x, hx, hIx⟩ := ih _ hIt (by omega) h
      exact ⟨m, x, by rw [hf.fetch, run_bind_ok ht, hx], hIx⟩
    · cases h

/-- An item that needs a byte more stops at a part that the list does not complete, the same part whatever serves it. -/
theorem fetchRun_needMore (f : Fetch α) : ∀ {j : Nat}, j ≤ bytes.length →
    f.run (len + j) (bytes.drop j) = .error .needMoreBytes →
    ∃ m n, ∃ k : W32 → Fetch α, m ≤ bytes.length ∧ bytes.length < m + n ∧ n ≤ 4 ∧ len + m + n ≤ 15
      ∧ ∀ I, Serves len bytes I → ∀ u, I j u →
        ∃ t, I m t ∧ fetchRun f u = (fetchPart n >>= fun v => fetchRun (k v)) t := by
  induction f using fetchPart_induction with
  | done b => intro j hj h; cases h
  | part f n k hf ih =>
    intro j hj h
    rw [hf.run, List.length_drop] at h
    split at h
    · cases h
    rename_i hlen
    split at h
    · rename_i hn
      rw [List.drop_drop, Nat.add_assoc] at h
      obtain ⟨m, q, k', hm, hq, hq4, hroom, hrest⟩ := ih _ (by omega) h
      refine ⟨m, q, k', hm, hq, hq4, hroom, fun I hI u hu => ?_⟩
      obtain ⟨t, ht, hIt⟩ := hI.part j n u hf.pos hf.le hu (Nat.not_lt.mp hlen) (by omega)
      obtain ⟨x, hIx, hx⟩ := hrest I hI t hIt
      exact ⟨x, hIx, by rw [hf.fetch, run_bind_ok ht, hx]⟩
    · rename_i hn
      exact ⟨j, n, k, hj, by omega, hf.le, Nat.not_lt.mp hlen, fun I _ u hu => ⟨u, hu, by rw [hf.fetch]⟩⟩

end

/-! ### One part -/

/-- The state with the fetch pointer and the length some bytes on. -/
def State.past (s : State) (j : Nat) : State :=
  s.setDec { s.dec with fp := s.dec.fp + BitVec.ofNat 32 j, len := s.dec.len + j }

theorem past_zero (s : State) : s.past 0 = s := by
  show s.setDec { s.dec with fp := s.dec.fp + 0#32, len := s.dec.len + 0 } = s
  rw [BitVec.add_zero]
  rfl

theorem past_past (s : State) (j n : Nat) : (s.past j).past n = s.past (j + n) := by
  show s.setDec { s.dec with fp := s.dec.fp + BitVec.ofNat 32 j + BitVec.ofNat 32 n, len := s.dec.len + j + n } = _
  rw [BitVec.add_assoc, ← BitVec.ofNat_add, Nat.add_assoc]
  rfl

theorem fetchPart_of_span {u t : State} {n : Nat} {as : List W32} (hlen : u.dec.len + n ≤ 15)
    (hspan : translateSpan (u.lin .cs u.dec.fp) n .read u.user u = .ok as t) (hall : as.all t.inMem = true) :
    fetchPart n u = .ok (ofBytes (as.map t.byteAt)) (t.past n) := by
  have hread : accRead (u.lin .cs u.dec.fp) n u = .ok (ofBytes (as.map t.byteAt)) t :=
    (linRead_of_span hspan).trans (physReadAt_of_all hall)
  have hroom : Nat.blt Config.maxInsnLen (u.dec.len + n) = false := by
    rw [Bool.eq_false_iff, ne_eq, Nat.blt_eq]
    exact Nat.not_lt.mpr hlen
  rw [fetchPart, run_bind_get, run_cond, hroom, cond_false, run_bind_ok hread]
  rfl

/-- A piece of a list of bytes, read at consecutive addresses. -/
theorem map_addrsFrom_eq_take {bytes : List Byte} {n j : Nat} {la : W32} {g : W32 → Byte} (hlen : j + n ≤ bytes.length)
    (h : ∀ i b, i < n → bytes[j + i]? = some b → g (la + BitVec.ofNat 32 i) = b) :
    (addrsFrom n la).map g = (bytes.drop j).take n := by
  refine List.ext_getElem? fun i => ?_
  rw [List.getElem?_map, List.getElem?_take, List.getElem?_drop]
  by_cases hi : i < n
  · have hb : bytes[j + i]? = some bytes[j + i] := List.getElem?_eq_getElem (by omega)
    rw [getElem?_addrsFrom la hi, if_pos hi, hb, Option.map_some, h i _ hi hb]
  · rw [if_neg hi, List.getElem?_eq_none (by rw [length_addrsFrom]; omega)]
    rfl

/-! ### With paging disabled -/

section
variable {s : State} {bytes : List Byte}

/-- The whole physical space, through a TLB that maps pages to themselves, serves the bytes in memory. -/
theorem serves_of_identity (hpg : s.pg = false) (hsize : s.memSize = Config.memSizeMax)
    (hbytes : bytes = (addrsFrom (15 - s.dec.len) (s.lin .cs s.dec.fp)).map s.byteAt) :
    Serves s.dec.len bytes fun j u => u.identityTlb ∧ u = (s.setTlb u.tlb u.tlbList).past j where
  len_eq j u hu := by rw [hu.2]; rfl
  part j n u h1 h4 hu hlen hn := by
    obtain ⟨hid, hu⟩ := hu
    have hpgu : u.pg = false := by rw [hu]; exact hpg
    have hdec : u.dec = (s.past j).dec := by rw [hu]; rfl
    obtain ⟨t, hspan, hut, hidt⟩ := translateSpan_of_identity (la := u.lin .cs u.dec.fp) (n := n) (kind := .read)
      (user := u.user) hpgu hid (by omega)
    have hst : t = (s.setTlb t.tlb t.tlbList).past j := by rw [hut, hu]; rfl
    have hall : (addrsFrom n (u.lin .cs u.dec.fp)).all t.inMem = true := by
      refine all_inMem_iff.mpr fun k _ => ?_
      rw [show t.memSize = s.memSize by rw [hst]; rfl, hsize]
      exact BitVec.isLt _
    have hlenu : u.dec.len + n ≤ 15 := by rw [hdec]; exact hlen
    have hlin : u.lin .cs u.dec.fp = s.lin .cs s.dec.fp + BitVec.ofNat 32 j := by
      rw [hu]
      exact (BitVec.add_assoc _ _ _).symm
    have hvalue : (addrsFrom n (u.lin .cs u.dec.fp)).map t.byteAt = (bytes.drop j).take n := by
      refine map_addrsFrom_eq_take hn fun i b hi hb => ?_
      have hji : j + i < 15 - s.dec.len := by omega
      rw [hbytes, List.getElem?_map, getElem?_addrsFrom _ hji, Option.map_some, Option.some.injEq] at hb
      rw [show t.byteAt = s.byteAt by rw [hst]; rfl, hlin, BitVec.add_assoc, ← BitVec.ofNat_add, hb]
    refine ⟨t.past n, ?_, hidt, ?_⟩
    · rw [← hvalue]
      exact fetchPart_of_span hlenu hspan hall
    · exact (congrArg (State.past · n) hst).trans (past_past _ j n)

end

/-! ### Through cached pages -/

/-- The TLB caches the pages of the bytes of a list, and these bytes are in memory there. -/
def State.caches (s : State) (user : Bool) (base : W32) (bytes : List Byte) : Prop :=
  ∀ k b, bytes[k]? = some b → ∃ p, s.tlbAt .read user (vpnOf (base + BitVec.ofNat 32 k)) = some p
    ∧ s.inMem (p ++ (base + BitVec.ofNat 32 k).extractLsb' 0 12) = true
    ∧ s.byteAt (p ++ (base + BitVec.ofNat 32 k).extractLsb' 0 12) = b

/-- An access whose pages are all cached translates without a change. -/
theorem translateSpan_of_cached {s : State} {la : W32} {n : Nat} {kind : Access} {user : Bool} {f : W32 → BitVec 20}
    (h1 : 1 ≤ n) (hn : n ≤ 4096) (h : ∀ a ∈ addrsFrom n la, s.tlbAt kind user (vpnOf a) = some (f a)) :
    translateSpan la n kind user s = .ok ((addrsFrom n la).map fun a => f a ++ a.extractLsb' 0 12) s := by
  have hfirst : la ∈ addrsFrom n la := mem_addrsFrom.mpr ⟨0, h1, by simp⟩
  have hlastmem : la + BitVec.ofNat 32 (n - 1) ∈ addrsFrom n la := mem_addrsFrom.mpr ⟨n - 1, by omega, rfl⟩
  have hsame : ∀ a b, a ∈ addrsFrom n la → b ∈ addrsFrom n la → vpnOf a = vpnOf b → f a = f b := by
    intro a b ha hb hab
    have := h a ha
    rw [hab, h b hb, Option.some.injEq] at this
    exact this.symm
  by_cases hlast : vpnOf (la + BitVec.ofNat 32 (n - 1)) = vpnOf la
  · rw [translateSpan_of_same hlast (translatePage_of_hit (h la hfirst))]
    congr 1
    refine List.map_congr_left fun a ha => ?_
    rw [hsame a la ha hfirst (vpnOf_of_mem_same hn hlast ha)]
  · have hpage : vpnOf ((la + BitVec.ofNat 32 (n - 1)) &&& 0xFFFFF000#32) = vpnOf (la + BitVec.ofNat 32 (n - 1)) :=
      congrArg BitVec.toNat (extract_page_and _)
    have hsecond := translatePage_of_hit (hpage.symm ▸ h _ hlastmem)
    rw [translateSpan_of_apart hlast (translatePage_of_hit (h la hfirst)) hsecond]
    congr 1
    refine List.map_congr_left fun a ha => ?_
    unfold spanAddr
    by_cases hp : vpnOf a = vpnOf la
    · rw [hp, beq_self_eq_true, cond_true, hsame a la ha hfirst hp]
    · rw [beq_false_of_ne hp, cond_false, hsame a _ ha hlastmem ((vpnOf_of_mem hn ha).resolve_left hp)]

theorem serves_of_caches {s : State} {bytes : List Byte} (h : s.caches s.user (s.lin .cs s.dec.fp) bytes) :
    Serves s.dec.len bytes fun j u => u = s.past j where
  len_eq j u hu := by rw [hu]; rfl
  part j n u h1 h4 hu hlen hn := by
    subst hu
    have hlin : (s.past j).lin .cs (s.past j).dec.fp = s.lin .cs s.dec.fp + BitVec.ofNat 32 j :=
      (BitVec.add_assoc _ _ _).symm
    have hbyte : ∀ i, i < n → ∃ b, bytes[j + i]? = some b := fun i hi => ⟨_, List.getElem?_eq_getElem (by omega)⟩
    have hview : ∀ a ∈ addrsFrom n ((s.past j).lin .cs (s.past j).dec.fp),
        (s.past j).tlbAt .read (s.past j).user (vpnOf a) = some ((s.tlbAt .read s.user (vpnOf a)).getD 0#20)
          ∧ s.inMem ((s.tlbAt .read s.user (vpnOf a)).getD 0#20 ++ a.extractLsb' 0 12) = true := by
      intro a ha
      obtain ⟨i, hi, rfl⟩ := mem_addrsFrom.mp ha
      obtain ⟨b, hb⟩ := hbyte i hi
      obtain ⟨p, hp, hin, _⟩ := h (j + i) b hb
      rw [hlin, BitVec.add_assoc, ← BitVec.ofNat_add]
      exact ⟨(show s.tlbAt .read s.user _ = _ from hp).trans (by rw [hp]; rfl), by rw [hp]; exact hin⟩
    have hspan := translateSpan_of_cached h1 (by omega) fun a ha => (hview a ha).1
    refine ⟨s.past (j + n), ?_, rfl⟩
    rw [← past_past s j n]
    have hall : ((addrsFrom n ((s.past j).lin .cs (s.past j).dec.fp)).map fun a =>
        (s.tlbAt .read s.user (vpnOf a)).getD 0#20 ++ a.extractLsb' 0 12).all (s.past j).inMem = true := by
      rw [List.all_map, List.all_eq_true]
      exact fun a ha => (hview a ha).2
    have hvalue := map_addrsFrom_eq_take (bytes := bytes) (n := n) (j := j)
      (la := (s.past j).lin .cs (s.past j).dec.fp)
      (g := fun a => s.byteAt ((s.tlbAt .read s.user (vpnOf a)).getD 0#20 ++ a.extractLsb' 0 12)) hn
      fun i b hi hb => by
        obtain ⟨p, hp, _, hbyte⟩ := h (j + i) b hb
        rw [hlin, BitVec.add_assoc, ← BitVec.ofNat_add, hp]
        exact hbyte
    rw [fetchPart_of_span (u := s.past j) hlen hspan hall, ← hvalue, List.map_map]
    rfl

/-! ### A walk does not see the decode state -/

/-- An answer with its state changed. -/
def onState (g : State → State) : EStateM.Result Stop State α → EStateM.Result Stop State α
  | .ok a s => .ok a (g s)
  | .error e s => .error e (g s)

/-- The rule neither reads nor writes the decode state. -/
def DecBlind (m : M α) : Prop := ∀ s d, m (s.setDec d) = onState (State.setDec · d) (m s)

theorem decBlind_pure (a : α) : DecBlind (pure a : M α) := fun _ _ => rfl

theorem decBlind_bind {m : M α} {f : α → M β} (hm : DecBlind m) (hf : ∀ a, DecBlind (f a)) : DecBlind (m >>= f) := by
  intro s d
  have hd := hm s d
  cases h : m s with
  | ok a t =>
    rw [h] at hd
    rw [run_bind_ok h, run_bind_ok (hd : m (s.setDec d) = .ok a (t.setDec d))]
    exact hf a t d
  | error e t =>
    rw [h] at hd
    rw [run_bind_error h, run_bind_error (hd : m (s.setDec d) = .error e (t.setDec d))]
    rfl

theorem decBlind_cond {c : Bool} {x y : M α} (hx : DecBlind x) (hy : DecBlind y) : DecBlind (bif c then x else y) := by
  cases c
  · exact hy
  · exact hx

theorem storeBytes_setDec (as : List W32) (bs : List Byte) (s : State) (d : DecodeState) :
    (s.setDec d).storeBytes as bs = (s.storeBytes as bs).setDec d := by
  induction as generalizing bs s with
  | nil => rfl
  | cons a as ih =>
    cases bs with
    | nil => rfl
    | cons b bs => exact ih bs (s.setMem (memWrite s.mem a.toNat b))

theorem decBlind_physRead (pa : W32) (n : Nat) : DecBlind (physRead pa n) := by
  intro s d
  cases h : (addrsFrom n pa).all s.inMem with
  | true =>
    rw [physRead, physReadAt_of_all h, physReadAt_of_all (s := s.setDec d) h]
    rfl
  | false =>
    rw [physRead, physReadAt_of_not_all h, physReadAt_of_not_all (s := s.setDec d) h]
    rfl

theorem decBlind_physWrite (pa : W32) (n : Nat) (v : W32) : DecBlind (physWrite pa n v) := by
  intro s d
  cases h : (addrsFrom n pa).all s.inMem with
  | true =>
    rw [physWrite_of_all h, physWrite_of_all (s := s.setDec d) h, storeBytes_setDec]
    rfl
  | false =>
    rw [physWrite_of_not_all h, physWrite_of_not_all (s := s.setDec d) h]
    rfl

theorem tlbInsert_setDec (s : State) (d : DecodeState) (vpn : Nat) (e : TlbEntry) :
    (s.setDec d).tlbInsert vpn e = (s.tlbInsert vpn e).setDec d := by
  show (bif Nat.ble Config.tlbListMax s.tlbList.length then _ else _) = State.setDec (bif _ then _ else _) d
  cases Nat.ble Config.tlbListMax s.tlbList.length <;> rfl

theorem decBlind_tlbInsert (vpn : Nat) (e : TlbEntry) : DecBlind (upd fun s => s.tlbInsert vpn e) := fun s d =>
  congrArg (EStateM.Result.ok ()) (tlbInsert_setDec s d vpn e)

theorem decBlind_pageFault (la : W32) (present : Bool) (kind : Access) (user : Bool) :
    DecBlind (pageFault la present kind user : M α) := fun _ _ => rfl

theorem decBlind_walkPte (la : W32) (kind : Access) (user : Bool) (pde : W32) : DecBlind (walkPte la kind user pde) :=
  decBlind_bind (decBlind_physRead _ _) fun _ =>
    decBlind_cond (decBlind_pageFault _ _ _ _) <| decBlind_cond (decBlind_pageFault _ _ _ _) <|
      decBlind_cond (decBlind_pageFault _ _ _ _) <|
        decBlind_bind (decBlind_cond (decBlind_physWrite _ _ _) (decBlind_pure _)) fun _ =>
          decBlind_bind (decBlind_tlbInsert _ _) fun _ => decBlind_pure _

theorem decBlind_walk (la : W32) (kind : Access) (user : Bool) : DecBlind (walk la kind user) := by
  intro s d
  cases hpg : s.pg with
  | false =>
    rw [walk_of_not_pg hpg, walk_of_not_pg (s := s.setDec d) hpg, tlbInsert_setDec]
    rfl
  | true =>
    rw [walk_of_pg hpg, walk_of_pg (s := s.setDec d) hpg, walkTables_eq, walkTables_eq]
    exact decBlind_bind (decBlind_physRead _ _) (fun _ => decBlind_cond (decBlind_pageFault _ _ _ _) <|
      decBlind_bind (decBlind_cond (decBlind_physWrite _ _ _) (decBlind_pure _)) fun _ => decBlind_walkPte _ _ _ _) s d

/-! ### A part whose page is not cached -/

theorem find_unmapAll (t : List (Nat × TlbEntry)) (ps : List Nat) (q : Nat) :
    assocFind (unmapAll t ps) q = none ∨ assocFind (unmapAll t ps) q = assocFind t q := by
  induction ps generalizing t with
  | nil => exact .inr rfl
  | cons p ps ih =>
    rcases ih (assocErase t p) with h | h
    · exact .inl h
    · by_cases hq : q = p
      · subst hq
        exact .inl (h.trans (assocFind_erase_self t q))
      · exact .inr (h.trans (assocFind_erase_other t hq))

/-- An insert leaves another page's entry as it was, or with the list full unmaps it. -/
theorem find_tlbInsert_other (s : State) (e : TlbEntry) {vpn q : Nat} (hq : q ≠ vpn) :
    assocFind (s.tlbInsert vpn e).tlb q = none ∨ assocFind (s.tlbInsert vpn e).tlb q = assocFind s.tlb q := by
  unfold State.tlbInsert
  cases Nat.ble Config.tlbListMax s.tlbList.length with
  | true =>
    have hset : assocFind (assocSet (unmapAll s.tlb s.tlbList) vpn e) q = assocFind (unmapAll s.tlb s.tlbList) q :=
      assocFind_set_other _ e hq
    exact (find_unmapAll s.tlb s.tlbList q).imp hset.trans hset.trans
  | false => exact .inr (assocFind_set_other _ e hq)

theorem markPde_tlb (s : State) (pa pde : W32) : (s.markPde pa pde).tlb = s.tlb := by
  unfold State.markPde
  cases pde.getLsbD 5 with
  | true => rfl
  | false => rw [cond_false, storeBytes_eq_setMem]; rfl

theorem markPte_tlb (s : State) (pa pte : W32) (kind : Access) : (s.markPte pa pte kind).tlb = s.tlb := by
  unfold State.markPte
  cases markedPte pte kind == pte with
  | true => rfl
  | false =>
    rw [cond_false]
    generalize bytesOf 4 (markedPte pte kind) = bs
    rw [storeBytes_eq_setMem]
    rfl

/-- After a walk that succeeds another page that is still cached is cached as it was. -/
theorem tlbAt_of_walk_other {s u : State} {la : W32} {kind : Access} {user : Bool} {p q : BitVec 20} {vpn : Nat}
    (h : walk la kind user s = .ok p u) (hv : vpn ≠ vpnOf la) {k2 : Access} {user2 : Bool}
    (hu : u.tlbAt k2 user2 vpn = some q) : s.tlbAt k2 user2 vpn = some q := by
  have hkept : assocFind u.tlb vpn = none ∨ assocFind u.tlb vpn = assocFind s.tlb vpn := by
    cases hpg : s.pg with
    | false =>
      rw [walk_of_not_pg hpg] at h
      cases h
      exact find_tlbInsert_other _ _ hv
    | true =>
      rw [walk_of_pg hpg] at h
      have hends := walkTables_ends la kind user s
      rw [h] at hends
      cases hends with
      | entered pde pte s1 hr hs1 hr1 hd =>
        have hins := find_tlbInsert_other (s1.markPte (pteAddrOf (pde ||| 0x20#32) la) pte kind)
          (walkEntry pde pte kind) hv
        rw [markPte_tlb, hs1, markPde_tlb, ← hs1] at hins
        exact hins
  rcases hkept with hnone | hsame
  · rw [tlbAt_of_none hnone] at hu
    cases hu
  · rw [← tlbAt_congr hsame]
    exact hu

/-- The first byte of the page of an address. -/
theorem page_start_toNat (a : W32) : (a &&& 0xFFFFF000#32).toNat = a.toNat / 4096 * 4096 := by
  have hoff : (a &&& 0xFFFFF000#32).extractLsb' 0 12 = 0#12 := by
    refine BitVec.eq_of_getLsbD_eq fun i hi => ?_
    have hlow : ∀ i < 12, (0xFFFFF000#32).getLsbD (0 + i) = false := by decide
    rw [BitVec.getLsbD_extractLsb', BitVec.getLsbD_and, hlow i hi]
    simp
  have hsplit := congrArg BitVec.toNat (page_append_offset (a &&& 0xFFFFF000#32))
  have hvpn : (a.extractLsb' 12 20).toNat = a.toNat / 4096 := vpnOf_eq a
  rw [hoff, extract_page_and, BitVec.toNat_append, hvpn] at hsplit
  rw [← hsplit, Nat.shiftLeft_eq]
  simp

section
variable {s u : State} {bytes : List Byte} {m n : Nat}

/-- Where a part of an item crosses to a page that is not cached: the page's first byte is the first byte missing. -/
theorem missing_page (hm : m < bytes.length) (hn : bytes.length < m + n) (h4 : n ≤ 4) {user : Bool} {base : W32}
    (hc : s.caches user base bytes)
    (hmiss : s.tlbAt .read user (vpnOf (base + BitVec.ofNat 32 bytes.length)) = none) :
    vpnOf (base + BitVec.ofNat 32 m + BitVec.ofNat 32 (n - 1)) ≠ vpnOf (base + BitVec.ofNat 32 m)
      ∧ (base + BitVec.ofNat 32 m + BitVec.ofNat 32 (n - 1)) &&& 0xFFFFF000#32
          = base + BitVec.ofNat 32 bytes.length := by
  have hcached : ∀ k, k < bytes.length →
      vpnOf (base + BitVec.ofNat 32 k) ≠ vpnOf (base + BitVec.ofNat 32 bytes.length) := by
    intro k hk he
    obtain ⟨p, hp, _⟩ := hc k _ (List.getElem?_eq_getElem hk)
    rw [he, hmiss] at hp
    cases hp
  have hat : base + BitVec.ofNat 32 bytes.length
      = base + BitVec.ofNat 32 m + BitVec.ofNat 32 (bytes.length - m) := by
    rw [BitVec.add_assoc, ← BitVec.ofNat_add, Nat.add_sub_cancel' (Nat.le_of_lt hm)]
  have hbefore : base + BitVec.ofNat 32 (bytes.length - 1)
      = base + BitVec.ofNat 32 m + BitVec.ofNat 32 (bytes.length - m - 1) := by
    rw [BitVec.add_assoc, ← BitVec.ofNat_add, show m + (bytes.length - m - 1) = bytes.length - 1 by omega]
  have hfirst := hcached m hm
  have hprev := hcached (bytes.length - 1) (by omega)
  rw [hbefore] at hprev
  rw [hat] at hfirst hprev ⊢
  generalize hgap : bytes.length - m = g at hfirst hprev
  generalize base + BitVec.ofNat 32 m = a at hfirst hprev
  refine ⟨fun he => hfirst ?_, BitVec.eq_of_toNat_eq ?_⟩
  · exact (vpnOf_of_mem_same (by omega) he (mem_addrsFrom.mpr ⟨g, by omega, rfl⟩)).symm
  · rw [vpnOf_eq, vpnOf_eq, toNat_add_ofNat a (by omega), toNat_add_ofNat a (by omega)] at hprev
    rw [page_start_toNat, toNat_add_ofNat a (by omega), toNat_add_ofNat a (by omega)]
    omega

/-- The translation of a part that begins on the page not cached, or crosses to it, stops as the walk of that page stops,
and else is the translation from the state the walk left. -/
theorem translateSpan_of_missing (hm : m ≤ bytes.length) (hn : bytes.length < m + n) (h4 : n ≤ 4) {user : Bool}
    {base : W32} (hc : s.caches user base bytes)
    (hmiss : s.tlbAt .read user (vpnOf (base + BitVec.ofNat 32 bytes.length)) = none) :
    (∀ e, walk (base + BitVec.ofNat 32 bytes.length) .read user s = .error e u →
        translateSpan (base + BitVec.ofNat 32 m) n .read user s = .error e u)
      ∧ ∀ p, walk (base + BitVec.ofNat 32 bytes.length) .read user s = .ok p u → u.caches user base bytes →
        translateSpan (base + BitVec.ofNat 32 m) n .read user s
          = translateSpan (base + BitVec.ofNat 32 m) n .read user u := by
  by_cases heq : m = bytes.length
  · subst heq
    refine ⟨fun e hw => ?_, fun p hw _ => ?_⟩
    · rw [translateSpan, run_bind_error ((translatePage_of_miss hmiss).trans hw)]
    · rw [translateSpan, run_bind_ok ((translatePage_of_miss hmiss).trans hw),
        run_bind_ok (translatePage_of_hit (tlbAt_of_walk hw))]
  · have hlt : m < bytes.length := by omega
    obtain ⟨hapart, hstart⟩ := missing_page hlt hn h4 hc hmiss
    obtain ⟨p1, hp1, _⟩ := hc m _ (List.getElem?_eq_getElem hlt)
    have hfirst := translatePage_of_hit hp1
    refine ⟨fun e hw => ?_, fun p hw hcu => ?_⟩
    · have hsecond : translatePage ((base + BitVec.ofNat 32 m + BitVec.ofNat 32 (n - 1)) &&& 0xFFFFF000#32) .read user s
          = .error e u := by
        rw [hstart]
        exact (translatePage_of_miss hmiss).trans hw
      rw [translateSpan, run_bind_ok hfirst, run_cond, beq_false_of_ne hapart, cond_false, run_bind_error hsecond]
    · obtain ⟨q1, hq1, _⟩ := hcu m _ (List.getElem?_eq_getElem hlt)
      have hne : vpnOf (base + BitVec.ofNat 32 m) ≠ vpnOf (base + BitVec.ofNat 32 bytes.length) := by
        intro he
        rw [he, hmiss] at hp1
        cases hp1
      obtain rfl : q1 = p1 := by
        rw [tlbAt_of_walk_other hw hne hq1, Option.some.injEq] at hp1
        exact hp1
      have hsecond : translatePage ((base + BitVec.ofNat 32 m + BitVec.ofNat 32 (n - 1)) &&& 0xFFFFF000#32) .read user s
          = .ok p u := by
        rw [hstart]
        exact (translatePage_of_miss hmiss).trans hw
      have hagain : translatePage ((base + BitVec.ofNat 32 m + BitVec.ofNat 32 (n - 1)) &&& 0xFFFFF000#32) .read user u
          = .ok p u := by
        rw [hstart]
        exact translatePage_of_hit (tlbAt_of_walk hw)
      rw [translateSpan_of_apart hapart hfirst hsecond,
        translateSpan_of_apart hapart (translatePage_of_hit hq1) hagain]

/-- A part whose fifteen-byte limit holds is its read and the move past it. -/
theorem fetchPart_of_room (hlen : s.dec.len + n ≤ 15) : fetchPart n s = (do
    let v ← linRead (s.lin .cs s.dec.fp) n s.user
    upd fun s => s.setDec { s.dec with fp := s.dec.fp + BitVec.ofNat 32 n, len := s.dec.len + n }
    pure v : M W32) s := by
  have hroom : Nat.blt Config.maxInsnLen (s.dec.len + n) = false := by
    rw [Bool.eq_false_iff, ne_eq, Nat.blt_eq]
    exact Nat.not_lt.mpr hlen
  rw [fetchPart, run_bind_get, run_cond, hroom, cond_false]
  rfl

theorem fetchPart_of_stop {e : Stop} (hlen : s.dec.len + n ≤ 15)
    (h : translateSpan (s.lin .cs s.dec.fp) n .read s.user s = .error e u) : fetchPart n s = .error e u := by
  rw [fetchPart_of_room hlen, run_bind_error (linRead_of_stop h)]

/-- Parts at the same place whose translations agree are the same. -/
theorem fetchPart_congr (hlen : s.dec.len + n ≤ 15) (hdec : u.dec = s.dec) (huser : u.user = s.user)
    (hlin : u.lin .cs s.dec.fp = s.lin .cs s.dec.fp)
    (h : translateSpan (s.lin .cs s.dec.fp) n .read s.user s = translateSpan (s.lin .cs s.dec.fp) n .read s.user u) :
    fetchPart n s = fetchPart n u := by
  rw [fetchPart_of_room hlen, fetchPart_of_room (s := u) (by rw [hdec]; exact hlen), hdec, huser, hlin]
  cases hspan : translateSpan (s.lin .cs s.dec.fp) n .read s.user u with
  | ok as t =>
    rw [hspan] at h
    cases hread : physReadAt as t with
    | ok v x =>
      rw [run_bind_ok ((linRead_of_span h).trans hread), run_bind_ok ((linRead_of_span hspan).trans hread)]
    | error e x =>
      rw [run_bind_error ((linRead_of_span h).trans hread), run_bind_error ((linRead_of_span hspan).trans hread)]
  | error e t =>
    rw [hspan] at h
    rw [run_bind_error (linRead_of_stop h), run_bind_error (linRead_of_stop hspan)]

/-- A part of an item that needs a byte on a page not cached. -/
theorem fetchPart_of_missing (hm : m ≤ bytes.length) (hn : bytes.length < m + n) (h4 : n ≤ 4)
    (hroom : s.dec.len + m + n ≤ 15) (hc : s.caches s.user (s.lin .cs s.dec.fp) bytes)
    (hmiss : s.tlbAt .read s.user (vpnOf (s.lin .cs s.dec.fp + BitVec.ofNat 32 bytes.length)) = none) :
    (∀ e, walk (s.lin .cs s.dec.fp + BitVec.ofNat 32 bytes.length) .read s.user s = .error e u →
        fetchPart n (s.past m) = .error e (u.setDec (s.past m).dec))
      ∧ ∀ p, walk (s.lin .cs s.dec.fp + BitVec.ofNat 32 bytes.length) .read s.user s = .ok p u →
        u.caches s.user (s.lin .cs s.dec.fp) bytes → fetchPart n (s.past m) = fetchPart n (u.past m) := by
  have hblind := decBlind_walk (s.lin .cs s.dec.fp + BitVec.ofNat 32 bytes.length) .read s.user s (s.past m).dec
  have hlin : (s.past m).lin .cs (s.past m).dec.fp = s.lin .cs s.dec.fp + BitVec.ofNat 32 m :=
    (BitVec.add_assoc _ _ _).symm
  obtain ⟨hstop, hgo⟩ := translateSpan_of_missing (s := s.past m) (u := u.setDec (s.past m).dec) hm hn h4
    (user := s.user) hc hmiss
  refine ⟨fun e hw => ?_, fun p hw hcu => ?_⟩
  · rw [hw] at hblind
    refine fetchPart_of_stop hroom ?_
    rw [hlin]
    exact hstop e hblind
  · rw [hw] at hblind
    have hsame := ((reading_walk _ _ _).of_ok hw).1
    have hu : u.past m = u.setDec (s.past m).dec := by rw [State.past, hsame.dec]; rfl
    rw [hu]
    refine fetchPart_congr hroom rfl hsame.user (hsame.lin .cs _) ?_
    rw [hlin]
    exact hgo p hblind hcu

end

/-! ### The fetch of an item -/

/-- An item fetched through cached pages that needs a byte more, on a page not cached (R221, R223). -/
theorem fetchItem_of_missing {s : State} {bytes : List Byte}
    (hc : s.caches s.user (s.lin .cs s.dec.fp) bytes)
    (hmiss : s.tlbAt .read s.user (vpnOf (s.lin .cs s.dec.fp + BitVec.ofNat 32 bytes.length)) = none)
    (h : (decode s.mode).run s.dec.len bytes = .error .needMoreBytes) :
    (∀ e u, walk (s.lin .cs s.dec.fp + BitVec.ofNat 32 bytes.length) .read s.user s = .error e u →
        ∃ d, fetchItem s = .error e (u.setDec d))
      ∧ ∀ p u, walk (s.lin .cs s.dec.fp + BitVec.ofNat 32 bytes.length) .read s.user s = .ok p u →
        u.caches s.user (s.lin .cs s.dec.fp) bytes → fetchItem s = fetchItem u := by
  have h0 : (decode s.mode).run (s.dec.len + 0) (bytes.drop 0) = .error .needMoreBytes := h
  obtain ⟨m, n, k, hm, hn, h4, hroom, hall⟩ := fetchRun_needMore (decode s.mode) (Nat.zero_le _) h0
  obtain ⟨t, rfl, hs⟩ := hall _ (serves_of_caches hc) s (past_zero s).symm
  refine ⟨fun e u hw => ⟨(s.past m).dec, ?_⟩, fun p u hw hcu => ?_⟩
  · have hpart := (fetchPart_of_missing hm hn h4 hroom hc hmiss (u := u)).1 e hw
    exact hs.trans (run_bind_error hpart)
  · have hsame := ((reading_walk _ _ _).of_ok hw).1
    have hserves : Serves s.dec.len bytes fun j v => v = u.past j := by
      rw [← hsame.dec]
      exact serves_of_caches (by rw [hsame.user, hsame.dec, hsame.lin]; exact hcu)
    obtain ⟨x, rfl, hu⟩ := hall _ hserves u (past_zero u).symm
    have hpart := (fetchPart_of_missing hm hn h4 hroom hc hmiss (u := u)).2 p hw hcu
    have hmode : u.mode = s.mode := by rw [hsame]; rfl
    have hitem : fetchItem u = fetchRun (decode s.mode) u := by rw [← hmode]; rfl
    rw [hitem, hu]
    refine hs.trans ?_
    cases hr : fetchPart n (u.past m) with
    | ok v y => rw [run_bind_ok (hpart.trans hr), run_bind_ok hr]
    | error e y => rw [run_bind_error (hpart.trans hr), run_bind_error hr]

/-- Settles O3: the decoding run over the states that serve its bytes. -/
theorem fetchReadsTheBytesAtPc : Obligations.FetchReadsTheBytesAtPc := by
  intro s i bytes rest user la used past decoded cached
  refine ⟨fun hpg hid hsize hbytes => ⟨fun h => ?_, fun h => ?_⟩,
    fun hc => ⟨fun h => ?_, fun h => ?_, fun h hmiss => ?_⟩⟩
  · have hla : la 0 = s.lin .cs s.dec.fp := BitVec.add_zero _
    obtain ⟨t, ht, hidt, hst⟩ := (serves_of_identity hpg hsize (hla ▸ hbytes)).fetchRun_ok (decode s.mode) (j := 0)
      ⟨hid, (past_zero s).symm⟩ (Nat.zero_le _) h
    exact ⟨t, ht, hidt, hst⟩
  · have hla : la 0 = s.lin .cs s.dec.fp := BitVec.add_zero _
    obtain ⟨m, t, ht, hidt, hst⟩ := (serves_of_identity hpg hsize (hla ▸ hbytes)).fetchRun_tooLong (decode s.mode)
      (j := 0) ⟨hid, (past_zero s).symm⟩ (Nat.zero_le _) h
    exact ⟨t, ht, by rw [hst]; rfl⟩
  · obtain ⟨t, ht, rfl⟩ := (serves_of_caches hc).fetchRun_ok (decode s.mode) (j := 0) (past_zero s).symm
      (Nat.zero_le _) h
    exact ht
  · obtain ⟨m, t, ht, rfl⟩ := (serves_of_caches hc).fetchRun_tooLong (decode s.mode) (j := 0) (past_zero s).symm
      (Nat.zero_le _) h
    exact ⟨_, ht⟩
  · exact fetchItem_of_missing hc hmiss h

end Sys2Proof.Machine
end

section
/-! Values at a width (R10), and what the arithmetic does to them: the sums and differences with the flags their lazy
record gives (R52 to R58, R351 to R361), and the exact products (R364 to R366). -/

namespace Sys2Proof.Machine

/-! ### Truncation -/

theorem toNat_truncW (w : Width) (v : W32) : (truncW w v).toNat = v.toNat % 2 ^ w.bits := by
  have hlt : v.toNat % 2 ^ w.bits < 2 ^ 32 := (Nat.mod_le _ _).trans_lt v.isLt
  rw [truncW, BitVec.toNat_setWidth, BitVec.toNat_setWidth, Nat.mod_eq_of_lt hlt]

theorem truncW_truncW (w : Width) (v : W32) : truncW w (truncW w v) = truncW w v := by
  apply BitVec.eq_of_toNat_eq
  rw [toNat_truncW, toNat_truncW, Nat.mod_mod]

/-- A value at a width is below its power of two. -/
theorem toNat_lt_of_truncW {w : Width} {a : W32} (h : truncW w a = a) : a.toNat < 2 ^ w.bits := by
  rw [← h, toNat_truncW]
  exact Nat.mod_lt _ (Nat.two_pow_pos _)

theorem truncW_of_lt {w : Width} {a : W32} (h : a.toNat < 2 ^ w.bits) : truncW w a = a := by
  apply BitVec.eq_of_toNat_eq
  rw [toNat_truncW, Nat.mod_eq_of_lt h]

/-- Values whose difference is a multiple of the width's power of two are the same at the width. -/
theorem truncW_add_truncW (w : Width) (x y : W32) : truncW w (truncW w x + y) = truncW w (x + y) := by
  apply BitVec.eq_of_toNat_eq
  rw [toNat_truncW, toNat_truncW, BitVec.toNat_add, BitVec.toNat_add, toNat_truncW]
  cases w <;> simp only [Width.bits] <;> omega

theorem truncW_sub_truncW (w : Width) (x y : W32) : truncW w (truncW w x - y) = truncW w (x - y) := by
  rw [BitVec.sub_eq_add_neg, BitVec.sub_eq_add_neg, truncW_add_truncW]

theorem getLsbD_of_truncW {w : Width} {a : W32} (h : truncW w a = a) {k : Nat} (hk : w.bits ≤ k) :
    a.getLsbD k = false := by
  rw [← h, getLsbD_truncW, decide_eq_false (by omega), Bool.false_and]

@[simp] theorem width_bits_le (w : Width) : w.bits ≤ 32 := by cases w <;> decide

theorem width_bits_pos (w : Width) : 0 < w.bits := by cases w <;> decide

theorem toNat_atBit_zero (b : Bool) : (atBit b 0).toNat = b.toNat := by cases b <;> rfl

/-! ### The flags of a record -/

theorem flags_ext {f g : SixFlags} (hcf : f.cf = g.cf) (hpf : f.pf = g.pf) (haf : f.af = g.af) (hzf : f.zf = g.zf)
    (hsf : f.sf = g.sf) (hof : f.of = g.of) : f = g := by
  cases f
  cases g
  simp only at hcf hpf haf hzf hsf hof
  rw [hcf, hpf, haf, hzf, hsf, hof]

/-- The flags of a record of a family that is neither INC nor DEC, with a result at the width. -/
theorem flags_record {f : Family} {w : Width} {r : W32} (c : CC) (src : W32) (hf : (OpKind.record f w).isIncDec = false)
    (hr : truncW w r = r) : (c.record f w r src).flags
      = flagsOf w r (cfRecord f w r src) (afRecord f w r src) (ofRecord f w r src) := by
  have hkind : (c.record f w r src).carryKind = .record f w := by
    show (bif (OpKind.record f w).isIncDec then _ else _) = _
    rw [hf]
    rfl
  have hdst : (c.record f w r src).carryDst = r := by
    show (bif (OpKind.record f w).isIncDec then _ else _) = _
    rw [hf]
    rfl
  refine flags_ext ?_ rfl rfl ?_ rfl rfl
  · show CC.cf _ = _
    unfold CC.cf
    rw [hkind, hdst]
    rfl
  · show (truncW w r == 0#32) = (r == 0#32)
    rw [hr]

theorem flags_recordLogic {w : Width} {r : W32} (c : CC) (hr : truncW w r = r) :
    (c.recordLogic w r).flags = flagsOf w r false false false := by
  refine flags_ext rfl rfl rfl ?_ rfl rfl
  show (truncW w r == 0#32) = (r == 0#32)
  rw [hr]

/-- INC and DEC keep CF, whatever was recorded before, and give the other five flags from the result. -/
theorem flags_recordIncDec {w : Width} {f : Family} {r : W32} (c : CC) (hf : (OpKind.record f w).isIncDec = true)
    (hr : truncW w r = r) : (c.recordIncDec f w r).flags = flagsOf w r c.cf (afRecord f w r c.src) (ofRecord f w r c.src) := by
  have hkind : (c.recordIncDec f w r).carryKind = c.carryKind := by
    show (bif (OpKind.record f w).isIncDec then _ else _) = _
    rw [hf]
    rfl
  have hdst : (c.recordIncDec f w r).carryDst = c.carryDst := by
    show (bif (OpKind.record f w).isIncDec then _ else _) = _
    rw [hf]
    rfl
  refine flags_ext ?_ rfl rfl ?_ rfl rfl
  · show CC.cf _ = CC.cf _
    unfold CC.cf
    rw [hkind, hdst]
    rfl
  · show (truncW w r == 0#32) = (r == 0#32)
    rw [hr]

/-! ### Sums and differences -/

section
variable {w : Width} {a b : W32}

theorem toNat_aluResult_add (w : Width) (cin : Bool) (a b : W32) :
    (aluResult .addOp w cin a b).toNat = (a.toNat + b.toNat) % 2 ^ w.bits := by
  show (truncW w (a + b)).toNat = _
  rw [toNat_truncW, BitVec.toNat_add]
  cases w <;> simp only [Width.bits] <;> omega

theorem toNat_aluResult_adc (w : Width) (cin : Bool) (a b : W32) :
    (aluResult .adcOp w cin a b).toNat = (a.toNat + b.toNat + cin.toNat) % 2 ^ w.bits := by
  show (truncW w (a + b + atBit cin 0)).toNat = _
  rw [toNat_truncW, BitVec.toNat_add, BitVec.toNat_add, toNat_atBit_zero]
  cases w <;> simp only [Width.bits] <;> omega

theorem toNat_truncW_sub (ha : truncW w a = a) (hb : truncW w b = b) :
    (truncW w (a - b)).toNat = (a.toNat + 2 ^ w.bits - b.toNat) % 2 ^ w.bits := by
  have h1 := toNat_lt_of_truncW ha
  have h2 := toNat_lt_of_truncW hb
  rw [toNat_truncW, BitVec.toNat_sub]
  cases w <;> simp only [Width.bits] at h1 h2 ⊢ <;> omega

theorem toNat_aluResult_sbb (cin : Bool) (ha : truncW w a = a) (hb : truncW w b = b) :
    (aluResult .sbbOp w cin a b).toNat = (a.toNat + 2 ^ w.bits + 2 ^ w.bits - b.toNat - cin.toNat) % 2 ^ w.bits := by
  have h1 := toNat_lt_of_truncW ha
  have h2 := toNat_lt_of_truncW hb
  have h3 := Bool.toNat_le cin
  show (truncW w (a - b - atBit cin 0)).toNat = _
  rw [toNat_truncW, BitVec.toNat_sub, BitVec.toNat_sub, toNat_atBit_zero]
  cases w <;> simp only [Width.bits] at h1 h2 ⊢ <;> omega

/-- OF of an addition: both operands have the sign that the result has not. -/
theorem msbW_add_overflow (w : Width) (a b r : W32) :
    msbW w (~~~(a ^^^ b) &&& (a ^^^ r)) = msbW w ((a ^^^ r) &&& (b ^^^ r)) := by
  have hlt : w.bits - 1 < 32 := by cases w <;> decide
  simp only [msbW, BitVec.getLsbD_and, BitVec.getLsbD_not, BitVec.getLsbD_xor, decide_eq_true hlt, Bool.true_and]
  cases a.getLsbD (w.bits - 1) <;> cases b.getLsbD (w.bits - 1) <;> cases r.getLsbD (w.bits - 1) <;> rfl

/-- What a record of an addition or a subtraction computes, from the first operand it implies. -/
theorem arith_record (c : CC) {f : Family} {r : W32} {cf : Bool} (hr : truncW w r = r) (hb : truncW w b = b)
    (hfirst : firstOperand f w r b = a) (hcf : cfRecord f w r b = cf) :
    (f = .add ∨ f = .adc → (c.record f w r b).flags
        = flagsOf w r cf ((a ^^^ b ^^^ r).getLsbD 4) (msbW w ((a ^^^ r) &&& (b ^^^ r))))
      ∧ (f = .sub ∨ f = .sbb → (c.record f w r b).flags
        = flagsOf w r cf ((a ^^^ b ^^^ r).getLsbD 4) (msbW w ((a ^^^ b) &&& (a ^^^ r)))) := by
  constructor
  · rintro (rfl | rfl)
    all_goals
      rw [flags_record c b rfl hr, hcf]
      simp only [afRecord, ofRecord, hr, hb, hfirst, msbW_add_overflow]
  · rintro (rfl | rfl)
    all_goals
      rw [flags_record c b rfl hr, hcf]
      simp only [afRecord, ofRecord, hr, hb, hfirst]

/-- The flags of the addition of two values at the width. -/
theorem flags_add (c : CC) (ha : truncW w a = a) (hb : truncW w b = b) :
    (c.record .add w (truncW w (a + b)) b).flags = flagsOf w (truncW w (a + b)) (decide (2 ^ w.bits ≤ a.toNat + b.toNat))
      ((a ^^^ b ^^^ truncW w (a + b)).getLsbD 4)
      (msbW w ((a ^^^ truncW w (a + b)) &&& (b ^^^ truncW w (a + b)))) := by
  have hr := truncW_truncW w (a + b)
  have hfirst : firstOperand .add w (truncW w (a + b)) b = a := by
    show truncW w (truncW w (a + b) - b) = a
    rw [truncW_sub_truncW, BitVec.add_sub_cancel, ha]
  refine (arith_record c hr hb hfirst ?_).1 (.inl rfl)
  show (truncW w (truncW w (a + b))).ult (truncW w b) = _
  have h1 := toNat_lt_of_truncW ha
  have h2 := toNat_lt_of_truncW hb
  rw [hr, hb, BitVec.ult, toNat_truncW, BitVec.toNat_add, decide_eq_decide]
  cases w <;> simp only [Width.bits] at h1 h2 ⊢ <;> omega

theorem flags_adc (c : CC) (ha : truncW w a = a) (hb : truncW w b = b) :
    (c.record .adc w (truncW w (a + b + 1#32)) b).flags
      = flagsOf w (truncW w (a + b + 1#32)) (decide (2 ^ w.bits ≤ a.toNat + b.toNat + 1))
        ((a ^^^ b ^^^ truncW w (a + b + 1#32)).getLsbD 4)
        (msbW w ((a ^^^ truncW w (a + b + 1#32)) &&& (b ^^^ truncW w (a + b + 1#32)))) := by
  have hr := truncW_truncW w (a + b + 1#32)
  have hfirst : firstOperand .adc w (truncW w (a + b + 1#32)) b = a := by
    show truncW w (truncW w (a + b + 1#32) - b - 1#32) = a
    rw [BitVec.sub_sub, truncW_sub_truncW, BitVec.add_assoc, BitVec.add_sub_cancel, ha]
  refine (arith_record c hr hb hfirst ?_).1 (.inr rfl)
  show (truncW w (truncW w (a + b + 1#32))).ule (truncW w b) = _
  have h1 := toNat_lt_of_truncW ha
  have h2 := toNat_lt_of_truncW hb
  rw [hr, hb, BitVec.ule, toNat_truncW, BitVec.toNat_add, BitVec.toNat_add, decide_eq_decide]
  cases w <;> simp only [Width.bits, BitVec.reduceToNat] at h1 h2 ⊢ <;> omega

theorem flags_sub (c : CC) (ha : truncW w a = a) (hb : truncW w b = b) :
    (c.record .sub w (truncW w (a - b)) b).flags = flagsOf w (truncW w (a - b)) (decide (a.toNat < b.toNat))
      ((a ^^^ b ^^^ truncW w (a - b)).getLsbD 4) (msbW w ((a ^^^ b) &&& (a ^^^ truncW w (a - b)))) := by
  have hr := truncW_truncW w (a - b)
  have hfirst : firstOperand .sub w (truncW w (a - b)) b = a := by
    show truncW w (truncW w (a - b) + b) = a
    rw [truncW_add_truncW, BitVec.sub_add_cancel, ha]
  refine (arith_record c hr hb hfirst ?_).2 (.inl rfl)
  show (truncW w (truncW w (truncW w (a - b)) + truncW w b)).ult (truncW w b) = _
  rw [hr, hb, truncW_add_truncW, BitVec.sub_add_cancel, ha]
  rfl

theorem flags_sbb (c : CC) (ha : truncW w a = a) (hb : truncW w b = b) :
    (c.record .sbb w (truncW w (a - b - 1#32)) b).flags
      = flagsOf w (truncW w (a - b - 1#32)) (decide (a.toNat < b.toNat + 1))
        ((a ^^^ b ^^^ truncW w (a - b - 1#32)).getLsbD 4)
        (msbW w ((a ^^^ b) &&& (a ^^^ truncW w (a - b - 1#32)))) := by
  have hr := truncW_truncW w (a - b - 1#32)
  have hback : truncW w (truncW w (a - b - 1#32) + b + 1#32) = a := by
    rw [BitVec.add_assoc, truncW_add_truncW, BitVec.sub_sub, BitVec.sub_add_cancel, ha]
  have hfirst : firstOperand .sbb w (truncW w (a - b - 1#32)) b = a := hback
  refine (arith_record c hr hb hfirst ?_).2 (.inr rfl)
  show (truncW w (truncW w (truncW w (a - b - 1#32)) + truncW w b + 1#32)).ule (truncW w b) = _
  rw [hr, hb, hback, BitVec.ule, decide_eq_decide, Nat.lt_succ_iff]

end

/-- The flags of an ALU operation are those of its operands and its result. -/
theorem flags_aluRecord (op : AluOp) {w : Width} (c : CC) {a b : W32} (ha : truncW w a = a) (hb : truncW w b = b) :
    (aluRecord op w c a b).flags = aluFlags op w c.cf a b (aluResult op w c.cf a b) := by
  cases op with
  | addOp => exact flags_add c ha hb
  | subOp => exact flags_sub c ha hb
  | cmpOp => exact flags_sub c ha hb
  | andOp => exact flags_recordLogic c (truncW_truncW w _)
  | orOp => exact flags_recordLogic c (truncW_truncW w _)
  | xorOp => exact flags_recordLogic c (truncW_truncW w _)
  | adcOp =>
    simp only [aluRecord, aluResult, aluFlags]
    cases c.cf with
    | true => exact flags_adc c ha hb
    | false =>
      have h := flags_add c ha hb
      rw [show atBit false 0 = 0#32 from rfl, BitVec.add_zero]
      exact h
  | sbbOp =>
    simp only [aluRecord, aluResult, aluFlags]
    cases c.cf with
    | true => exact flags_sbb c ha hb
    | false =>
      have h := flags_sub c ha hb
      rw [show atBit false 0 = 0#32 from rfl, BitVec.sub_zero]
      exact h

/-- Settles O6: the flags of each operation, its result, and INC and DEC. -/
theorem lazyFlagsMatchDirectComputation : Obligations.LazyFlagsMatchDirectComputation := by
  intro op w c cin a b ha hb
  have hbit : ∀ (f : Bool → Bool → Bool) (x : W32), f false false = false →
      (∀ k, x.getLsbD k = f (a.getLsbD k) (b.getLsbD k)) →
      ∀ k, (truncW w x).getLsbD k = f (a.getLsbD k) (b.getLsbD k) := by
    intro f x hf hx k
    rw [getLsbD_truncW, hx]
    by_cases hk : k < w.bits
    · rw [decide_eq_true hk, Bool.true_and]
    · rw [getLsbD_of_truncW ha (by omega), getLsbD_of_truncW hb (by omega), hf, Bool.and_false]
  refine ⟨flags_aluRecord op c ha hb, toNat_aluResult_add w cin a b, toNat_aluResult_adc w cin a b,
    toNat_truncW_sub ha hb, toNat_truncW_sub ha hb, toNat_aluResult_sbb cin ha hb,
    hbit and _ rfl fun k => BitVec.getLsbD_and, hbit or _ rfl fun k => BitVec.getLsbD_or,
    hbit xor _ rfl fun k => BitVec.getLsbD_xor, fun r hr => ?_, fun r hr => ?_⟩
  · have htr : truncW w r = r := by rw [hr, truncW_truncW]
    rw [flags_recordIncDec c rfl htr]
    simp only [afRecord, ofRecord, htr]
  · have htr : truncW w r = r := by rw [hr, truncW_truncW]
    rw [flags_recordIncDec c rfl htr]
    simp only [afRecord, ofRecord, htr]

end Sys2Proof.Machine
end

section
/-! The products, exact in the double-width registers (R364 to R366), and the shifts and rotations bit by bit (R401 to
R407). -/

namespace Sys2Proof.Machine

/-! ### Products -/

theorem unsignedW_eq {w : Width} {a : W32} (h : truncW w a = a) : unsignedW w a = a.toNat := by
  rw [unsignedW, BitVec.toNat_setWidth, Nat.mod_eq_of_lt (toNat_lt_of_truncW h)]

theorem toNat_maskedInto (old v : W32) : ((old &&& 0xFFFF0000#32) ||| (v &&& 0x0000FFFF#32)).toNat % 2 ^ 16 = v.toNat % 2 ^ 16 := by
  rw [BitVec.toNat_or, BitVec.toNat_and, BitVec.toNat_and, Nat.or_mod_two_pow, Nat.and_mod_two_pow, Nat.and_mod_two_pow]
  have hlow : (0x0000FFFF#32).toNat % 2 ^ 16 = 2 ^ 16 - 1 := by decide
  have hhigh : (0xFFFF0000#32).toNat % 2 ^ 16 = 0 := by decide
  rw [hlow, hhigh, Nat.and_zero, Nat.zero_or, Nat.and_two_pow_sub_one_eq_mod, Nat.mod_mod]

/-- A 16-bit register holds the value written to it, cut to the width. -/
theorem toNat_read_write_w16 (g : Regs) (r : Reg) (v : W32) : ((g.write .w16 r v).read .w16 r).toNat = v.toNat % 2 ^ 16 := by
  rw [Regs.read_w16, Regs.write_w16_get_self, BitVec.toNat_and]
  exact (Nat.and_two_pow_sub_one_eq_mod _ 16).trans (toNat_maskedInto _ _)

theorem read_w16_of_get {g u : Regs} {r : Reg} (h : u.get r = g.get r) : u.read .w16 r = g.read .w16 r := by
  rw [Regs.read_w16, Regs.read_w16, h]

/-- The double-width registers hold the product, cut to twice the width. -/
theorem dividend_writeProduct (g : Regs) (w : Width) (p : BitVec 64) :
    (g.writeProduct w p).dividend w = p.toNat % 2 ^ (2 * w.bits) := by
  cases w with
  | w8 =>
    show ((g.write .w16 .eax (p.setWidth 32)).read .w16 .eax).toNat = p.toNat % 2 ^ 16
    rw [toNat_read_write_w16, BitVec.toNat_setWidth]
    omega
  | w16 =>
    show ((g.write .w16 .eax (p.setWidth 32)).write .w16 .edx ((p >>> 16).setWidth 32) |>.read .w16 .edx).toNat * 2 ^ 16
      + ((g.write .w16 .eax (p.setWidth 32)).write .w16 .edx ((p >>> 16).setWidth 32) |>.read .w16 .eax).toNat
      = p.toNat % 2 ^ 32
    rw [toNat_read_write_w16, read_w16_of_get (Regs.write_get_other _ .w16 .edx .eax _ (by decide)),
      toNat_read_write_w16, BitVec.toNat_setWidth, BitVec.toNat_setWidth, BitVec.toNat_ushiftRight,
      Nat.shiftRight_eq_div_pow]
    omega
  | w32 =>
    show ((p >>> 32).setWidth 32).toNat * 2 ^ 32 + (p.setWidth 32).toNat = p.toNat % 2 ^ 64
    have hp := p.isLt
    rw [BitVec.toNat_setWidth, BitVec.toNat_setWidth, BitVec.toNat_ushiftRight, Nat.shiftRight_eq_div_pow]
    omega

section
variable {w : Width} {a b : W32}

/-- The unsigned product of two values at the width fits in 64 bits, and in twice the width. -/
theorem mul_lt_two_pow (ha : truncW w a = a) (hb : truncW w b = b) : a.toNat * b.toNat < 2 ^ (2 * w.bits) := by
  rw [Nat.two_mul, Nat.pow_add]
  exact Nat.mul_lt_mul'' (toNat_lt_of_truncW ha) (toNat_lt_of_truncW hb)

theorem two_pow_two_mul_bits_le (w : Width) : 2 ^ (2 * w.bits) ≤ 2 ^ 64 := by cases w <;> decide

theorem toNat_mulU (ha : truncW w a = a) (hb : truncW w b = b) : (mulU w a b).toNat = a.toNat * b.toNat := by
  rw [mulU, unsignedW_eq ha, unsignedW_eq hb, BitVec.toNat_ofNat]
  exact Nat.mod_eq_of_lt ((mul_lt_two_pow ha hb).trans_le (two_pow_two_mul_bits_le w))

theorem toNat_productLow (w : Width) (p : BitVec 64) : (productLow w p).toNat = p.toNat % 2 ^ w.bits := by
  rw [productLow, toNat_truncW, BitVec.toNat_setWidth, Nat.mod_mod_of_dvd _ (Nat.pow_dvd_pow 2 (width_bits_le w))]

theorem toNat_productHigh (ha : truncW w a = a) (hb : truncW w b = b) :
    (productHigh w (mulU w a b)).toNat = a.toNat * b.toNat / 2 ^ w.bits := by
  have hhigh : a.toNat * b.toNat / 2 ^ w.bits < 2 ^ w.bits := by
    rw [Nat.div_lt_iff_lt_mul (Nat.two_pow_pos _), ← Nat.pow_add, ← Nat.two_mul]
    exact mul_lt_two_pow ha hb
  have h32 : 2 ^ w.bits ≤ 2 ^ 32 := Nat.pow_le_pow_right (by decide) (width_bits_le w)
  rw [productHigh, toNat_truncW, BitVec.toNat_setWidth, BitVec.toNat_ushiftRight, Nat.shiftRight_eq_div_pow,
    toNat_mulU ha hb, Nat.mod_eq_of_lt (hhigh.trans_le h32), Nat.mod_eq_of_lt hhigh]

/-- The unsigned product does not fit in the low half exactly when the high half is not 0. -/
theorem productHigh_ne_zero_iff (ha : truncW w a = a) (hb : truncW w b = b) :
    (productHigh w (mulU w a b) != 0#32) = true ↔ 2 ^ w.bits ≤ a.toNat * b.toNat := by
  rw [bne_iff_ne, ne_eq, ← BitVec.toNat_inj, toNat_productHigh ha hb]
  show ¬_ = 0 ↔ _
  rw [Nat.div_eq_zero_iff, not_or, not_lt]
  exact and_iff_right (Nat.ne_of_gt (Nat.two_pow_pos _))

/-- The low bits of a number given in 64 bits, as a signed number. -/
theorem toInt_setWidth_ofInt (x : Int) {k : Nat} (hk : k ≤ 64) : ((BitVec.ofInt 64 x).setWidth k).toInt = x.bmod (2 ^ k) := by
  rw [BitVec.toInt_setWidth, ← Int.emod_bmod]
  have hmod : ((BitVec.ofInt 64 x).toNat : Int) % (2 ^ k : Nat) = x % (2 ^ k : Nat) := by
    rw [BitVec.toNat_ofInt, Int.toNat_of_nonneg (Int.emod_nonneg _ (by decide))]
    exact Int.emod_emod_of_dvd x (Int.natCast_dvd_natCast.mpr (Nat.pow_dvd_pow 2 hk))
  rw [hmod, Int.emod_bmod]

/-- The signed product lies within the signed range of twice the width. -/
theorem signed_mul_bounds (w : Width) (a b : W32) : -(2 ^ (2 * w.bits - 1)) ≤ signedW w a * signedW w b
    ∧ signedW w a * signedW w b < 2 ^ (2 * w.bits - 1) := by
  have hrange : ∀ x : W32, -(2 ^ (w.bits - 1)) ≤ signedW w x ∧ signedW w x < 2 ^ (w.bits - 1) := fun x =>
    ⟨BitVec.le_toInt _, BitVec.toInt_lt⟩
  obtain ⟨la, ua⟩ := hrange a
  obtain ⟨lb, ub⟩ := hrange b
  have habs : |signedW w a * signedW w b| ≤ 2 ^ (w.bits - 1) * 2 ^ (w.bits - 1) := by
    rw [abs_mul]
    exact mul_le_mul (abs_le.mpr ⟨la, ua.le⟩) (abs_le.mpr ⟨lb, ub.le⟩) (abs_nonneg _) (by positivity)
  have hpow : (2 : Int) ^ (w.bits - 1) * 2 ^ (w.bits - 1) < 2 ^ (2 * w.bits - 1) := by
    rw [← pow_add]
    exact pow_lt_pow_right₀ (by decide) (by have := width_bits_pos w; omega)
  obtain ⟨l, u⟩ := abs_le.mp habs
  exact ⟨(neg_le_neg hpow.le).trans l, u.trans_lt hpow⟩

/-- A number is its own balanced remainder exactly when it lies in the signed range. -/
theorem bmod_two_pow_eq_self_iff (x : Int) {k : Nat} (hk : 0 < k) :
    x = x.bmod (2 ^ k) ↔ ¬(x < -(2 ^ (k - 1)) ∨ 2 ^ (k - 1) ≤ x) := by
  obtain ⟨j, rfl⟩ : ∃ j, k = j + 1 := ⟨k - 1, by omega⟩
  have hpow : ((2 ^ (j + 1) : Nat) : Int) = 2 * 2 ^ j := by push_cast; ring
  have hpos : 0 < 2 ^ (j + 1) := Nat.two_pow_pos _
  rw [Nat.add_sub_cancel, not_or, not_lt, not_le]
  constructor
  · intro h
    have hl := Int.le_bmod (x := x) hpos
    have hu := Int.bmod_lt (x := x) hpos
    rw [← h, hpow] at hl hu
    omega
  · rintro ⟨hl, hu⟩
    exact (Int.bmod_eq_of_le (by rw [hpow]; omega) (by rw [hpow]; omega)).symm

/-- Settles O36: the products as numbers, and what the flags say of the low half. -/
theorem productsAreExact : Obligations.ProductsAreExact := by
  intro w g c a b ha hb u i big wide
  have hlow : signedW w (productLow w (mulS w a b)) = (signedW w a * signedW w b).bmod (2 ^ w.bits) := by
    have hcut : (productLow w (mulS w a b)).setWidth w.bits = (mulS w a b).setWidth w.bits := by
      apply BitVec.eq_of_toNat_eq
      rw [BitVec.toNat_setWidth, BitVec.toNat_setWidth, toNat_productLow, Nat.mod_mod]
    rw [signedW, hcut]
    exact toInt_setWidth_ofInt _ ((width_bits_le w).trans (by decide))
  have hover : (mulOverflow w a b != 0#32) = true ↔ wide := by
    have hfits := bmod_two_pow_eq_self_iff (signedW w a * signedW w b) (width_bits_pos w)
    rw [mulOverflow, hlow]
    by_cases h : signedW w a * signedW w b = (signedW w a * signedW w b).bmod (2 ^ w.bits)
    · rw [beq_iff_eq.mpr h, cond_true]
      exact iff_of_false (by decide) (hfits.mp h)
    · rw [beq_false_of_ne h, cond_false]
      exact iff_of_true (by decide) (not_not.mp (fun hn => h (hfits.mpr hn)))
  refine ⟨?_, ?_, ?_, hlow, productHigh_ne_zero_iff ha hb, productHigh_ne_zero_iff ha hb, hover, hover⟩
  · rw [dividend_writeProduct, toNat_mulU ha hb, Nat.mod_eq_of_lt (mul_lt_two_pow ha hb)]
  · have hdouble : BitVec.ofNat (2 * w.bits) ((mulS w a b).toNat % 2 ^ (2 * w.bits)) = (mulS w a b).setWidth _ := by
      apply BitVec.eq_of_toNat_eq
      rw [BitVec.toNat_ofNat, BitVec.toNat_setWidth, Nat.mod_mod]
    obtain ⟨hl, hu⟩ := signed_mul_bounds w a b
    rw [Regs.dividendS, dividend_writeProduct, hdouble]
    refine (toInt_setWidth_ofInt _ (by have := width_bits_le w; omega)).trans ?_
    refine ((bmod_two_pow_eq_self_iff _ (by have := width_bits_pos w; omega)).mpr ?_).symm
    rw [not_or, not_lt, not_le]
    exact ⟨hl, hu⟩
  · rw [toNat_productLow, toNat_mulU ha hb]

end

/-! ### Images -/

theorem getLsbD_atBit (b : Bool) {k i : Nat} (hk : k < 32) : (atBit b k).getLsbD i = (b && decide (i = k)) := by
  cases b with
  | false => simp [atBit]
  | true =>
    rw [atBit, cond_true, ← BitVec.twoPow_eq, BitVec.getLsbD_twoPow, decide_eq_true hk]
    simp [eq_comm]

/-- The flags of an image set explicitly are its bits (R57). -/
theorem flags_setImage (c : CC) (v : W32) : (c.setImage v).flags = ⟨v.getLsbD 0, v.getLsbD 2,
    v.getLsbD 4, v.getLsbD 6, v.getLsbD 7, v.getLsbD 11⟩ := by
  have hbit : ∀ k, Config.arithFlagMask.getLsbD k = true → (v &&& Config.arithFlagMask).getLsbD k = v.getLsbD k :=
    fun k hk => getLsbD_of_mask v hk
  exact flags_ext (hbit 0 (by decide)) (hbit 2 (by decide)) (hbit 4 (by decide)) (hbit 6 (by decide))
    (hbit 7 (by decide)) (hbit 11 (by decide))

/-- The image of the flags has each at its place (R57). -/
theorem getLsbD_image (c : CC) : c.image.getLsbD 0 = c.cf ∧ c.image.getLsbD 2 = c.pf ∧ c.image.getLsbD 4 = c.af
    ∧ c.image.getLsbD 6 = c.zf ∧ c.image.getLsbD 7 = c.sf ∧ c.image.getLsbD 11 = c.of := by
  have hbit : ∀ k, k < 32 → c.image.getLsbD k = ((c.cf && decide (k = 0)) || (c.pf && decide (k = 2))
      || (c.af && decide (k = 4)) || (c.zf && decide (k = 6)) || (c.sf && decide (k = 7)) || (c.of && decide (k = 11))) := by
    intro k _
    simp only [CC.image, BitVec.getLsbD_or, getLsbD_atBit _ (by decide : 0 < 32), getLsbD_atBit _ (by decide : 2 < 32),
      getLsbD_atBit _ (by decide : 4 < 32), getLsbD_atBit _ (by decide : 6 < 32), getLsbD_atBit _ (by decide : 7 < 32),
      getLsbD_atBit _ (by decide : 11 < 32)]
  refine ⟨?_, ?_, ?_, ?_, ?_, ?_⟩
  all_goals exact (hbit _ (by decide)).trans (by simp)

/-- A rotation writes CF and OF alone. -/
theorem flags_rotateFlags (c : CC) (cf ovf : Bool) :
    (rotateFlags c cf ovf).flags = { c.flags with cf := cf, of := ovf } := by
  obtain ⟨_, hpf, haf, hzf, hsf, _⟩ := getLsbD_image c
  have hmask : ∀ k < 12, (~~~0x801#32 : W32).getLsbD k = (decide (k ≠ 0) && decide (k ≠ 11)) := by decide
  have hbit : ∀ k, k < 12 → ((c.image &&& ~~~0x801#32) ||| atBit cf 0 ||| atBit ovf 11).getLsbD k
      = ((c.image.getLsbD k && (decide (k ≠ 0) && decide (k ≠ 11))) || (cf && decide (k = 0))
        || (ovf && decide (k = 11))) := by
    intro k hk
    rw [BitVec.getLsbD_or, BitVec.getLsbD_or, BitVec.getLsbD_and, getLsbD_atBit _ (by decide),
      getLsbD_atBit _ (by decide), hmask k hk]
  rw [rotateFlags, flags_setImage]
  refine flags_ext ?_ ?_ ?_ ?_ ?_ ?_
  · exact (hbit 0 (by decide)).trans (by simp)
  · exact (hbit 2 (by decide)).trans ((by simp : _ = c.image.getLsbD 2).trans hpf)
  · exact (hbit 4 (by decide)).trans ((by simp : _ = c.image.getLsbD 4).trans haf)
  · exact (hbit 6 (by decide)).trans ((by simp : _ = c.image.getLsbD 6).trans hzf)
  · exact (hbit 7 (by decide)).trans ((by simp : _ = c.image.getLsbD 7).trans hsf)
  · exact (hbit 11 (by decide)).trans (by simp)

/-! ### Shifts -/

section
variable {w : Width} {x : W32} {n : Nat}

theorem getLsbD_shl (w : Width) (cf : Bool) (x : W32) (n : Nat) {k : Nat} (hk : k < w.bits) :
    (shiftResult .shl w cf x n).getLsbD k = (decide (n ≤ k) && x.getLsbD (k - n)) := by
  show (truncW w (x <<< n)).getLsbD k = _
  have h32 : k < 32 := hk.trans_le (width_bits_le w)
  rw [getLsbD_truncW, BitVec.getLsbD_shiftLeft, decide_eq_true hk, decide_eq_true h32]
  by_cases hn : n ≤ k
  · simp [hn, Nat.not_lt.mpr hn]
  · simp [hn, Nat.lt_of_not_le hn]

/-- The value that SHL and SHR record: CF is its bit w - 1, or its bit 0. -/
theorem flags_shl (c : CC) (hx : truncW w x = x) (hn : 1 ≤ n) : (shiftFlags .shl w c x n).flags
    = flagsOf w (shiftResult .shl w c.cf x n) (decide (n ≤ w.bits) && x.getLsbD (w.bits - n)) false
        (msbW w (shiftResult .shl w c.cf x n) ^^ (decide (n ≤ w.bits) && x.getLsbD (w.bits - n))) := by
  have hr : truncW w (shiftResult .shl w c.cf x n) = shiftResult .shl w c.cf x n := truncW_truncW w _
  have hpos := width_bits_pos w
  have hle := width_bits_le w
  have hcf : (truncW w x <<< (n - 1)).getLsbD (w.bits - 1) = (decide (n ≤ w.bits) && x.getLsbD (w.bits - n)) := by
    rw [hx, BitVec.getLsbD_shiftLeft, decide_eq_true (by omega : w.bits - 1 < 32), Bool.true_and]
    by_cases h : n ≤ w.bits
    · rw [decide_eq_false (by omega), decide_eq_true h, show w.bits - 1 - (n - 1) = w.bits - n by omega]
      rfl
    · rw [decide_eq_true (by omega), decide_eq_false h]
      rfl
  rw [shiftFlags, flags_record c _ rfl hr]
  simp only [cfRecord, afRecord, ofRecord, hcf, hr]

theorem truncW_ushiftRight (hx : truncW w x = x) (n : Nat) : truncW w (x >>> n) = x >>> n := by
  refine truncW_of_lt ?_
  rw [BitVec.toNat_ushiftRight, Nat.shiftRight_eq_div_pow]
  exact (Nat.div_le_self _ _).trans_lt (toNat_lt_of_truncW hx)

theorem shr_eq (cf : Bool) (hx : truncW w x = x) : shiftResult .shr w cf x n = x >>> n := by
  show truncW w x >>> n = _
  rw [hx]

theorem flags_shr (c : CC) (hx : truncW w x = x) (hn : 1 ≤ n) : (shiftFlags .shr w c x n).flags
    = flagsOf w (shiftResult .shr w c.cf x n) (x.getLsbD (n - 1)) false (decide (n = 1) && msbW w x) := by
  have hr : truncW w (shiftResult .shr w c.cf x n) = shiftResult .shr w c.cf x n := by
    rw [shr_eq c.cf hx, truncW_ushiftRight hx]
  have hof : (truncW w x >>> (n - 1)).getLsbD (w.bits - 1) = (decide (n = 1) && msbW w x) := by
    rw [hx, BitVec.getLsbD_ushiftRight]
    by_cases h : n = 1
    · subst h
      simp [msbW]
    · rw [decide_eq_false h, Bool.false_and]
      exact getLsbD_of_truncW hx (by omega)
  have hcf : (truncW w x >>> (n - 1)).getLsbD 0 = x.getLsbD (n - 1) := by
    rw [hx, BitVec.getLsbD_ushiftRight, Nat.add_zero]
  rw [shiftFlags, flags_record c _ rfl hr]
  simp only [cfRecord, afRecord, ofRecord, hcf, hof]

/-- The bits of a sign extension. -/
theorem getLsbD_sextW (w : Width) (x : W32) {i : Nat} (hi : i < 32) :
    (sextW w x).getLsbD i = bif decide (i < w.bits) then x.getLsbD i else msbW w x := by
  have hpos := width_bits_pos w
  have hmsb : (x.setWidth w.bits).msb = msbW w x := by
    rw [BitVec.msb_eq_getLsbD_last, BitVec.getLsbD_setWidth, decide_eq_true (by omega), Bool.true_and, msbW]
  rw [sextW, BitVec.getLsbD_signExtend, decide_eq_true hi, Bool.true_and, hmsb]
  by_cases h : i < w.bits
  · simp [h]
  · simp [h]

/-- The bits of the sign extension shifted right by fewer than 32. -/
theorem getLsbD_sar_sext (w : Width) (x : W32) {n k : Nat} (hk : k < 32) :
    ((sextW w x).sshiftRight n).getLsbD k = bif decide (n + k < w.bits) then x.getLsbD (n + k) else msbW w x := by
  have hle := width_bits_le w
  have hmsb : (sextW w x).msb = msbW w x := by
    rw [BitVec.msb_eq_getLsbD_last, getLsbD_sextW w x (by decide)]
    by_cases h : w = .w32
    · subst h
      rfl
    · have h31 : ¬32 - 1 < w.bits := by cases w <;> first | exact absurd rfl h | decide
      rw [decide_eq_false h31, cond_false]
  rw [BitVec.getLsbD_sshiftRight, hmsb, decide_eq_false (Nat.not_le.mpr hk), Bool.not_false, Bool.true_and]
  by_cases h : n + k < 32
  · rw [if_pos h, getLsbD_sextW w x h]
  · rw [if_neg h, decide_eq_false (by omega), cond_false]

theorem getLsbD_sar (w : Width) (cf : Bool) (x : W32) (n : Nat) {k : Nat} (hk : k < w.bits) :
    (shiftResult .sar w cf x n).getLsbD k = bif decide (n + k < w.bits) then x.getLsbD (n + k) else msbW w x := by
  show (truncW w ((sextW w x).sshiftRight n)).getLsbD k = _
  rw [getLsbD_truncW, decide_eq_true hk, Bool.true_and, getLsbD_sar_sext w x (hk.trans_le (width_bits_le w))]

theorem flags_sar (c : CC) (hn : 1 ≤ n) : (shiftFlags .sar w c x n).flags
    = flagsOf w (shiftResult .sar w c.cf x n) (bif decide (n ≤ w.bits) then x.getLsbD (n - 1) else msbW w x)
        false false := by
  have hr : truncW w (shiftResult .sar w c.cf x n) = shiftResult .sar w c.cf x n := truncW_truncW w _
  have hcf : ((sextW w x).sshiftRight (n - 1)).getLsbD 0
      = bif decide (n ≤ w.bits) then x.getLsbD (n - 1) else msbW w x := by
    rw [getLsbD_sar_sext w x (by decide), Nat.add_zero, decide_eq_decide.mpr (by omega : n - 1 < w.bits ↔ n ≤ w.bits)]
  rw [shiftFlags, flags_record c _ rfl hr]
  simp only [cfRecord, afRecord, ofRecord, hcf]

/-! ### Rotations -/

theorem getLsbD_rol (cf : Bool) (hx : truncW w x = x) {k : Nat} (hk : k < w.bits) :
    (shiftResult .rol w cf x n).getLsbD k = x.getLsbD ((k + (w.bits - n % w.bits)) % w.bits) := by
  have hle := width_bits_le w
  have hm : n % w.bits < w.bits := Nat.mod_lt _ (width_bits_pos w)
  show (truncW w ((truncW w x <<< (n % w.bits)) ||| (truncW w x >>> (w.bits - n % w.bits)))).getLsbD k = _
  rw [getLsbD_truncW, decide_eq_true hk, Bool.true_and, hx, BitVec.getLsbD_or, BitVec.getLsbD_shiftLeft,
    BitVec.getLsbD_ushiftRight, decide_eq_true (by omega : k < 32), Bool.true_and]
  generalize n % w.bits = m at hm
  by_cases hkm : k < m
  · rw [decide_eq_true hkm, Bool.not_true, Bool.false_and, Bool.false_or, Nat.mod_eq_of_lt (by omega),
      Nat.add_comm]
  · rw [decide_eq_false hkm, Bool.not_false, Bool.true_and, getLsbD_of_truncW hx (k := w.bits - m + k) (by omega),
      Bool.or_false]
    congr 1
    rw [show k + (w.bits - m) = k - m + w.bits by omega, Nat.add_mod_right, Nat.mod_eq_of_lt (by omega)]

theorem getLsbD_ror (cf : Bool) (hx : truncW w x = x) {k : Nat} (hk : k < w.bits) :
    (shiftResult .ror w cf x n).getLsbD k = x.getLsbD ((k + n) % w.bits) := by
  have hle := width_bits_le w
  have hm : n % w.bits < w.bits := Nat.mod_lt _ (width_bits_pos w)
  show (truncW w ((truncW w x >>> (n % w.bits)) ||| (truncW w x <<< (w.bits - n % w.bits)))).getLsbD k = _
  rw [getLsbD_truncW, decide_eq_true hk, Bool.true_and, hx, BitVec.getLsbD_or, BitVec.getLsbD_shiftLeft,
    BitVec.getLsbD_ushiftRight, decide_eq_true (by omega : k < 32), Bool.true_and, Nat.add_mod, Nat.mod_eq_of_lt hk]
  generalize n % w.bits = m at hm
  by_cases hkm : k + m < w.bits
  · rw [Nat.mod_eq_of_lt hkm, decide_eq_true (by omega : k < w.bits - m), Bool.not_true, Bool.false_and, Bool.or_false,
      Nat.add_comm]
  · rw [getLsbD_of_truncW hx (k := m + k) (by omega), Bool.false_or, decide_eq_false (by omega), Bool.not_false,
      Bool.true_and, Nat.mod_eq_sub_mod (by omega), Nat.mod_eq_of_lt (by omega)]
    congr 1
    omega

/-- Bit k of the w + 1 bits of CF and the operand. -/
def carryRing (w : Width) (cf : Bool) (x : W32) (k : Nat) : Bool := bif k == w.bits then cf else x.getLsbD k

/-- Bit k of the w + 1 bits of CF and the operand, rotated left by m. -/
theorem getLsbD_rotateThroughCarry (cf : Bool) (hx : truncW w x = x) {m k : Nat} (h1 : 1 ≤ m) (hm : m ≤ w.bits)
    (hk : k ≤ w.bits) : (rotateThroughCarry w cf x m).getLsbD k
      = carryRing w cf x ((k + (w.bits + 1 - m)) % (w.bits + 1)) := by
  have hle := width_bits_le w
  have hring : ∀ j, j < 64 → ((truncW w x).setWidth 64 ||| (bif cf then 1#64 <<< w.bits else 0#64)).getLsbD j
      = (decide (j ≤ w.bits) && carryRing w cf x j) := by
    intro j hj
    have hcf : (bif cf then 1#64 <<< w.bits else 0#64).getLsbD j = (cf && decide (j = w.bits)) := by
      cases cf with
      | false => simp
      | true =>
        rw [cond_true, ← BitVec.twoPow_eq, BitVec.getLsbD_twoPow, decide_eq_true (by omega : w.bits < 64)]
        simp [eq_comm]
    rw [hx, BitVec.getLsbD_or, BitVec.getLsbD_setWidth, decide_eq_true hj, Bool.true_and, hcf, carryRing]
    by_cases hjw : j = w.bits
    · rw [hjw, getLsbD_of_truncW hx (le_refl _)]
      simp
    · by_cases hlt : j ≤ w.bits
      · rw [beq_false_of_ne hjw]
        simp [hjw, hlt]
      · rw [getLsbD_of_truncW hx (by omega)]
        simp [hjw, hlt]
  rw [rotateThroughCarry]
  generalize (truncW w x).setWidth 64 ||| (bif cf then 1#64 <<< w.bits else 0#64) = t at hring
  rw [BitVec.getLsbD_or, BitVec.getLsbD_shiftLeft, BitVec.getLsbD_ushiftRight, decide_eq_true (by omega : k < 64),
    Bool.true_and]
  by_cases hkm : k < m
  · rw [decide_eq_true hkm, Bool.not_true, Bool.false_and, Bool.false_or, hring _ (by omega),
      decide_eq_true (by omega), Bool.true_and, Nat.mod_eq_of_lt (by omega), Nat.add_comm]
  · have hover : t.getLsbD (w.bits + 1 - m + k) = false := by
      by_cases h64 : w.bits + 1 - m + k < 64
      · rw [hring _ h64, decide_eq_false (by omega), Bool.false_and]
      · exact BitVec.getLsbD_of_ge _ _ (by omega)
    rw [decide_eq_false hkm, Bool.not_false, Bool.true_and, hring _ (by omega), decide_eq_true (by omega),
      Bool.true_and, hover, Bool.or_false]
    congr 1
    rw [show k + (w.bits + 1 - m) = k - m + (w.bits + 1) by omega, Nat.add_mod_right, Nat.mod_eq_of_lt (by omega)]

theorem getLsbD_carryRotated_rcl (cf : Bool) (hx : truncW w x = x) (hn : n % (w.bits + 1) ≠ 0) {k : Nat}
    (hk : k ≤ w.bits) : (carryRotated .rcl w cf x n).getLsbD k
      = carryRing w cf x ((k + (w.bits + 1 - n % (w.bits + 1))) % (w.bits + 1)) := by
  have hm : n % (w.bits + 1) < w.bits + 1 := Nat.mod_lt _ (Nat.succ_pos _)
  show (rotateThroughCarry w cf x (n % (w.bits + 1))).getLsbD k = _
  exact getLsbD_rotateThroughCarry cf hx (Nat.pos_of_ne_zero hn) (by omega) hk

theorem getLsbD_carryRotated_rcr (cf : Bool) (hx : truncW w x = x) (hn : n % (w.bits + 1) ≠ 0) {k : Nat}
    (hk : k ≤ w.bits) : (carryRotated .rcr w cf x n).getLsbD k
      = carryRing w cf x ((k + n % (w.bits + 1)) % (w.bits + 1)) := by
  have hm : n % (w.bits + 1) < w.bits + 1 := Nat.mod_lt _ (Nat.succ_pos _)
  show (rotateThroughCarry w cf x (w.bits + 1 - n % (w.bits + 1))).getLsbD k = _
  rw [getLsbD_rotateThroughCarry cf hx (by omega) (by omega) hk]
  congr 2
  omega

/-- The result of a rotation through the carry is the low bits of the ring. -/
theorem getLsbD_truncW_setWidth (w : Width) (p : BitVec 64) {k : Nat} (hk : k < w.bits) :
    (truncW w (p.setWidth 32)).getLsbD k = p.getLsbD k := by
  rw [getLsbD_truncW, decide_eq_true hk, Bool.true_and, BitVec.getLsbD_setWidth,
    decide_eq_true (hk.trans_le (width_bits_le w)), Bool.true_and]

end

/-- Settles O7: each shift and rotation, its bits and its flags. -/
theorem shiftsMoveEveryBit : Obligations.ShiftsMoveEveryBit := by
  intro w c x n hx h1 _
  have hpos := width_bits_pos w
  have hpos2 : 2 ≤ w.bits := by cases w <;> decide
  refine ⟨fun k hk => getLsbD_shl w c.cf x n hk, flags_shl c hx h1, fun k => ?_, flags_shr c hx h1,
    fun k hk => getLsbD_sar w c.cf x n hk, flags_sar c h1, ⟨fun k hk => getLsbD_rol c.cf hx hk, ?_⟩,
    ⟨fun k hk => getLsbD_ror c.cf hx hk, ?_⟩, fun hn => ?_⟩
  · rw [shr_eq c.cf hx, BitVec.getLsbD_ushiftRight]
  · exact flags_rotateFlags c _ _
  · exact flags_rotateFlags c _ _
  · have hleft : ∀ k, k < w.bits → (shiftResult .rcl w c.cf x n).getLsbD k
        = carryRing w c.cf x ((k + (w.bits + 1 - n % (w.bits + 1))) % (w.bits + 1)) := fun k hk =>
      (getLsbD_truncW_setWidth w _ hk).trans (getLsbD_carryRotated_rcl c.cf hx hn hk.le)
    have hright : ∀ k, k < w.bits → (shiftResult .rcr w c.cf x n).getLsbD k
        = carryRing w c.cf x ((k + n % (w.bits + 1)) % (w.bits + 1)) := fun k hk =>
      (getLsbD_truncW_setWidth w _ hk).trans (getLsbD_carryRotated_rcr c.cf hx hn hk.le)
    refine ⟨hleft, ?_, hright, ?_⟩
    · refine (flags_rotateFlags c _ _).trans ?_
      rw [msbW, hleft _ (by omega), getLsbD_carryRotated_rcl c.cf hx hn (le_refl _)]
      rfl
    · refine (flags_rotateFlags c _ _).trans ?_
      rw [msbW, hright _ (by omega), hright _ (by omega), getLsbD_carryRotated_rcr c.cf hx hn (le_refl _)]
      rfl

end Sys2Proof.Machine
end

section
/-! Loading a selector in protected mode (R176 to R183) and delivery in real-address mode (R671). -/

namespace Sys2Proof.Machine

variable {α β : Type}

/-- Two checks with the same exception in a row are one. -/
theorem run_raiseIf_raiseIf (a b : Bool) (e : Exc) (k : Unit → M β) (s : State) :
    (raiseIf a e >>= fun _ => raiseIf b e >>= k) s = (raiseIf (a || b) e >>= k) s := by
  cases a <;> rfl

theorem blt_of_le {a b : Nat} (h : b ≤ a) : Nat.blt a b = false :=
  Bool.eq_false_iff.mpr fun hb => absurd (Nat.blt_eq.mp hb) (Nat.not_lt.mpr h)

/-! ### The descriptor a selector names -/

theorem and_fff8 (sel : W16) : sel &&& 0xFFF8#16 = (sel >>> 3) <<< 3 := by
  ext i hi
  interval_cases i <;> simp

/-- The place of a descriptor in its table (R178). -/
theorem toNat_descIndex (sel : W16) : ((sel &&& 0xFFF8#16).setWidth 32 : W32).toNat = sel.toNat / 8 * 8 := by
  have h := sel.isLt
  rw [and_fff8, BitVec.toNat_setWidth, BitVec.toNat_shiftLeft, BitVec.toNat_ushiftRight, Nat.shiftLeft_eq,
    Nat.shiftRight_eq_div_pow]
  omega

theorem descIndex_eq (sel : W16) : (sel &&& 0xFFF8#16).setWidth 32 = BitVec.ofNat 32 (sel.toNat / 8 * 8) := by
  rw [← toNat_descIndex, BitVec.ofNat_toNat, BitVec.setWidth_eq]

section
variable {s t u : State} {sel : W16}

theorem descRead_of_outside (h : (bif sel.getLsbD 2 then s.segs.ldtr.limit else s.gdtr.limit).toNat
    < sel.toNat / 8 * 8 + 7) : descRead sel s = .ok none s := by
  rw [← toNat_descIndex] at h
  rw [descRead, run_bind_get, run_cond, Nat.blt_eq.mpr h]
  rfl

theorem descRead_of_inside {e1 e2 a : W32}
    (ha : a = (bif sel.getLsbD 2 then s.segs.ldtr.base else s.gdtr.base) + BitVec.ofNat 32 (sel.toNat / 8 * 8))
    (h : sel.toNat / 8 * 8 + 7 ≤ (bif sel.getLsbD 2 then s.segs.ldtr.limit else s.gdtr.limit).toNat)
    (h1 : sysRead a 4 s = .ok e1 t) (h2 : sysRead (a + 4#32) 4 t = .ok e2 u) :
    descRead sel s = .ok (some { e1 := e1, e2 := e2, addr := a }) u := by
  rw [← toNat_descIndex] at h
  rw [← descIndex_eq] at ha
  subst ha
  rw [descRead, run_bind_get, run_cond, blt_of_le h, cond_false, run_bind_ok h1, run_bind_ok h2]
  rfl

theorem descReadOr_of_none {e : Exc} (h : descRead sel s = .ok none t) : descReadOr sel e s = .error (.raise e) t := by
  rw [descReadOr, run_bind_ok h]
  rfl

theorem descReadOr_of_some {e : Exc} {d : Desc} (h : descRead sel s = .ok (some d) t) :
    descReadOr sel e s = .ok d t := by
  rw [descReadOr, run_bind_ok h]
  rfl

end

/-- A field above another is its multiple of the power of two. -/
theorem toNat_append_eq {m n : Nat} (x : BitVec m) (y : BitVec n) : (x ++ y).toNat = x.toNat * 2 ^ n + y.toNat := by
  rw [BitVec.toNat_append, ← Nat.shiftLeft_add_eq_or_of_lt y.isLt, Nat.shiftLeft_eq]

theorem toNat_descBase (e1 e2 : W32) : (descBase e1 e2).toNat
    = e2.toNat / 2 ^ 24 * 2 ^ 24 + e2.toNat % 2 ^ 8 * 2 ^ 16 + e1.toNat / 2 ^ 16 := by
  have h1 := e1.isLt
  have h2 := e2.isLt
  rw [descBase, toNat_append_eq, toNat_append_eq, BitVec.extractLsb'_toNat, BitVec.extractLsb'_toNat,
    BitVec.extractLsb'_toNat, Nat.shiftRight_eq_div_pow, Nat.shiftRight_eq_div_pow, Nat.shiftRight_eq_div_pow]
  omega

/-- A limit in pages is that of its last byte. -/
theorem toNat_shift_or_fff {x : W32} (h : x.toNat < 2 ^ 20) : ((x <<< 12) ||| 0xFFF#32).toNat = x.toNat * 4096 + 4095 := by
  rw [BitVec.toNat_or, BitVec.toNat_shiftLeft, Nat.mod_eq_of_lt (by rw [Nat.shiftLeft_eq]; omega)]
  exact (Nat.shiftLeft_add_eq_or_of_lt (by decide : 4095 < 2 ^ 12) x.toNat).symm.trans (by rw [Nat.shiftLeft_eq])

theorem toNat_descLimit (e1 e2 : W32) : (descLimit e1 e2).toNat
    = bif e2.getLsbD 23 then (e2.toNat / 2 ^ 16 % 16 * 2 ^ 16 + e1.toNat % 2 ^ 16) * 4096 + 4095
      else e2.toNat / 2 ^ 16 % 16 * 2 ^ 16 + e1.toNat % 2 ^ 16 := by
  have hraw : ((e2.extractLsb' 16 4 ++ e1.extractLsb' 0 16 : BitVec 20).setWidth 32 : W32).toNat
      = e2.toNat / 2 ^ 16 % 16 * 2 ^ 16 + e1.toNat % 2 ^ 16 := by
    rw [BitVec.toNat_setWidth, toNat_append_eq, BitVec.extractLsb'_toNat, BitVec.extractLsb'_toNat,
      Nat.shiftRight_eq_div_pow, Nat.shiftRight_zero]
    omega
  unfold descLimit
  cases e2.getLsbD 23 with
  | true =>
    rw [cond_true, cond_true, toNat_shift_or_fff (by omega), hraw]
  | false => rw [cond_false, cond_false, hraw]

/-! ### Loading a selector -/

/-- What the first load of a segment does to its descriptor. -/
theorem markAccessed_eq (d : Desc) :
    markAccessed d = bif d.e2.getLsbD 8 then pure () else sysWrite (d.addr + 4#32) 4 (d.e2 ||| 0x100#32) := by
  rw [markAccessed]
  cases d.e2.getLsbD 8 <;> rfl

section
variable {s t : State} {n : Sreg} {sel : W16} {d : Desc}

theorem loadSeg_of_data (hpe : s.pe = true) (hn : n ≠ .ss) : loadSeg n sel s = loadSegData n sel s := by
  rw [loadSeg, run_bind_get, run_cond, hpe, Bool.not_true, cond_false, run_cond, beq_false_of_ne hn, cond_false]

theorem loadSeg_of_stack (hpe : s.pe = true) : loadSeg .ss sel s = loadSegStack sel s := by
  rw [loadSeg, run_bind_get, run_cond, hpe, Bool.not_true, cond_false, run_cond, beq_self_eq_true, cond_true]

theorem loadSegData_of_none (hnull : selNull sel = false) (h : descRead sel s = .ok none t) :
    loadSegData n sel s = .error (.raise (.gp (ecSel sel))) t := by
  rw [loadSegData, run_cond, hnull, cond_false, run_bind_get, run_bind_error (descReadOr_of_none h)]

theorem loadSegStack_of_none (hnull : selNull sel = false) (h : descRead sel s = .ok none t) :
    loadSegStack sel s = .error (.raise (.gp (ecSel sel))) t := by
  rw [loadSegStack, hnull, run_bind_raiseIf_false, run_bind_get, run_bind_error (descReadOr_of_none h)]

/-- A descriptor that may not be loaded into a register other than SS (R182). -/
def badData (cpl : BitVec 2) (sel : W16) (e2 : W32) : Bool :=
  !e2.getLsbD 12 || (e2.getLsbD 11 && !e2.getLsbD 9)
    || ((!e2.getLsbD 11 || !e2.getLsbD 10) && ((dplOf e2).ult cpl || (dplOf e2).ult (selRpl sel)))

/-- A descriptor that may not be loaded into SS (R183). -/
def badStack (cpl : BitVec 2) (sel : W16) (e2 : W32) : Bool :=
  !e2.getLsbD 12 || (e2.getLsbD 11 || !e2.getLsbD 9) || (selRpl sel != cpl || dplOf e2 != cpl)

theorem loadSegData_of_some (hnull : selNull sel = false) (h : descRead sel s = .ok (some d) t) :
    loadSegData n sel s = (do
      raiseIf (badData s.cpl sel d.e2) (.gp (ecSel sel))
      raiseIf (!d.e2.getLsbD 15) (.np (ecSel sel))
      markAccessed d
      setSegFrom n sel d) t := by
  rw [loadSegData, run_cond, hnull, cond_false, run_bind_get, run_bind_ok (descReadOr_of_some h), run_raiseIf_raiseIf,
    run_raiseIf_raiseIf]
  rfl

theorem loadSegStack_of_some (hnull : selNull sel = false) (h : descRead sel s = .ok (some d) t) :
    loadSegStack sel s = (do
      raiseIf (badStack s.cpl sel d.e2) (.gp (ecSel sel))
      raiseIf (!d.e2.getLsbD 15) (.ss (ecSel sel))
      markAccessed d
      setSegFrom .ss sel d) t := by
  rw [loadSegStack, hnull, run_bind_raiseIf_false, run_bind_get, run_bind_ok (descReadOr_of_some h),
    run_raiseIf_raiseIf, run_raiseIf_raiseIf]
  rfl

end

/-- A load that has read its descriptor ends in the order of its checks: its type and privilege, its presence, and the
mark in its table. -/
theorem checkedLoad_ends {bad present : Bool} {e x : Exc} {m k : M Unit} {t u : State} :
    (bad = true → (do raiseIf bad e; raiseIf (!present) x; m; k) t = .error (.raise e) t)
      ∧ (bad = false → present = false → (do raiseIf bad e; raiseIf (!present) x; m; k) t = .error (.raise x) t)
      ∧ (bad = false → present = true → m t = .ok () u → (do raiseIf bad e; raiseIf (!present) x; m; k) t = k u) := by
  refine ⟨?_, ?_, ?_⟩
  · rintro rfl
    rfl
  · rintro rfl rfl
    rfl
  · rintro rfl rfl hm
    exact run_bind_ok hm

/-- Settles O17: the checks and the effect of a load, and where its descriptor is. -/
theorem protectedSelectorLoad : Obligations.ProtectedSelectorLoad := by
  intro s n sel hpe ec null rpl
  refine ⟨fun hnull hn => ?_, fun hnull hn => ?_, fun hnull t ht => ?_, fun hnull d t ht => ?_, ?_, fun e1 e2 => ?_⟩
  · rw [loadSeg_of_data hpe hn, loadSegData, run_cond, show selNull sel = true from hnull]
    rfl
  · rw [hn, loadSeg_of_stack hpe, loadSegStack, show selNull sel = true from hnull]
    rfl
  · by_cases hn : n = .ss
    · rw [hn, loadSeg_of_stack hpe, loadSegStack_of_none hnull ht]
      rfl
    · rw [loadSeg_of_data hpe hn, loadSegData_of_none hnull ht]
      rfl
  · intro dpl code bad
    by_cases hn : n = .ss
    · subst hn
      have hbad : bad = badStack s.cpl sel d.e2 := by
        show (bif Sreg.ss == Sreg.ss then _ else _) = _
        simp only [beq_self_eq_true, cond_true, badStack, Bool.or_assoc]
        rfl
      rw [loadSeg_of_stack hpe, loadSegStack_of_some hnull ht, hbad]
      obtain ⟨h1, h2, _⟩ := checkedLoad_ends (u := t)
      exact ⟨h1, h2, fun hb hp u hu =>
        (checkedLoad_ends.2.2 hb hp ((congrFun (markAccessed_eq d) t).trans hu)).trans rfl⟩
    · have hbad : bad = badData s.cpl sel d.e2 := by
        show (bif n == Sreg.ss then _ else _) = _
        rw [beq_false_of_ne hn, cond_false, Bool.not_and]
        rfl
      rw [loadSeg_of_data hpe hn, loadSegData_of_some hnull ht, hbad, beq_false_of_ne hn]
      obtain ⟨h1, h2, _⟩ := checkedLoad_ends (u := t)
      exact ⟨h1, h2, fun hb hp u hu =>
        (checkedLoad_ends.2.2 hb hp ((congrFun (markAccessed_eq d) t).trans hu)).trans rfl⟩
  · exact ⟨descRead_of_outside, fun h e1 e2 t u h1 h2 => descRead_of_inside rfl h h1 h2⟩
  · exact ⟨toNat_descBase e1 e2, toNat_descLimit e1 e2⟩

/-! ### Delivery in real-address mode -/

/-- Settles O18: the limit fault, and the frame and the handler. -/
theorem realModeDelivery : Obligations.RealModeDelivery := by
  intro s v sw hw code ret hpe t
  refine ⟨fun hlim => ?_, fun hlim off sel s1 s2 s3 s4 s5 h1 h2 h3 h4 h5 => ?_⟩
  · rw [deliver_of_real hpe, deliverReal_of_limit ret (Nat.blt_eq.mpr hlim)]
  · have hwalk : s.sameButWalk s5 :=
      ((((sameButWalk_of_ok (quiet_sysRead _ _) h1).trans (sameButWalk_of_ok (quiet_sysRead _ _) h2)).trans
        (sameButWalk_of_ok (quiet_accWrite _ _ _) h3)).trans (sameButWalk_of_ok (quiet_accWrite _ _ _) h4)).trans
        (sameButWalk_of_ok (quiet_accWrite _ _ _) h5)
    refine ⟨_, ?_, rfl⟩
    rw [deliver_of_real hpe, deliverReal, run_bind_get]
    show (raiseIf (Nat.blt s.idtr.limit.toNat (t.toNat + 3)) _ >>= _) s = _
    rw [blt_of_le hlim, run_bind_raiseIf_false, run_bind_ok h1, run_bind_ok h2]
    show (accWrite (s.lin .ss ((s.regs.esp - 2#32) &&& s.stackMask)) 2 (flagsRead s) >>= _) s2 = _
    rw [run_bind_ok h3]
    show (accWrite (s.lin .ss ((s.regs.esp - 4#32) &&& s.stackMask)) 2 (s.segs.cs.sel.setWidth 32) >>= _) s3 = _
    rw [run_bind_ok h4]
    show (accWrite (s.lin .ss ((s.regs.esp - 6#32) &&& s.stackMask)) 2 ret >>= _) s4 = _
    rw [run_bind_ok h5, run_bind_upd, run_bind_upd, ← hwalk.regs, ← hwalk.eflagsSys, ← hwalk.segs,
      truncW_eq_and .w16]
    rfl

end Sys2Proof.Machine
end

section
/-! Delivery in protected mode (R673 to R679): the gate, the target, and the handler at the same and at an inner level. -/

namespace Sys2Proof.Machine

variable {α β : Type}

/-! ### Pushes -/

/-- Pushes that complete are those of the list, to the same pointer and state. -/
theorem pushList_of_framePushes {sys : Bool} {base mask : W32} {n : Nat} : ∀ {vs : List W32} {p q : W32} {s t : State},
    framePushes sys base mask n p vs s q t → pushList sys base mask n p vs s = .ok q t
  | [], _, _, _, _, ⟨hq, ht⟩ => by
    subst hq ht
    rfl
  | v :: vs, p, q, s, t, ⟨u, hw, h⟩ => by
    have hv : (bif sys then sysWrite (base + ((p - BitVec.ofNat 32 n) &&& mask)) n v
        else accWrite (base + ((p - BitVec.ofNat 32 n) &&& mask)) n v) s = .ok () u := by
      cases sys with
      | true => exact hw
      | false => exact hw
    rw [pushList, run_bind_ok hv, pushList_of_framePushes h]

theorem vectorHasCode_eq (v : Byte) :
    vectorHasCode v = [8#8, 10#8, 11#8, 12#8, 13#8, 14#8, 17#8].contains v := by
  simp only [vectorHasCode, List.contains_cons, List.contains_nil, Bool.or_false, Bool.or_assoc]

theorem deliveryFrame_eq (s : State) (v : Byte) (sw hw : Bool) (code : Option W32) (ret : W32) :
    deliveryFrame s v sw hw code ret = [flagsRead s, s.segs.cs.sel.setWidth 32, ret]
      ++ bif !sw && !hw && [8#8, 10#8, 11#8, 12#8, 13#8, 14#8, 17#8].contains v then [code.getD 0#32] else [] := by
  rw [deliveryFrame, vectorHasCode_eq]

/-! ### The gate -/

theorem toNat_vectorOffset (v : Byte) : (v.setWidth 32 <<< 3 : W32).toNat = 8 * v.toNat := by
  have h := v.isLt
  rw [BitVec.toNat_shiftLeft, BitVec.toNat_setWidth, Nat.shiftLeft_eq]
  omega

/-- The checks of a gate that has been read, and what it says (R673, R674). -/
def gateChecks (s : State) (sw : Bool) (iec g1 g2 : W32) : M Gate := do
  raiseIf (g2.getLsbD 12) (.gp iec)
  bif sysTypeOf g2 == 5#4 then abort .unsupportedTaskGate
  else do
    raiseIf (!(sysTypeOf g2 == 6#4 || sysTypeOf g2 == 7#4 || sysTypeOf g2 == 14#4 || sysTypeOf g2 == 15#4)) (.gp iec)
    raiseIf (sw && (dplOf g2).ult s.cpl) (.gp iec)
    raiseIf (!g2.getLsbD 15) (.np iec)
    pure { gw := bif sysTypeOf g2 == 14#4 || sysTypeOf g2 == 15#4 then .w32 else .w16
           isInt := sysTypeOf g2 == 6#4 || sysTypeOf g2 == 14#4
           tsel := g1.extractLsb' 16 16
           toff := bif sysTypeOf g2 == 14#4 || sysTypeOf g2 == 15#4
             then (g2.extractLsb' 16 16 ++ g1.extractLsb' 0 16) else truncW .w16 g1 }

theorem readIdtGate_of_inside {s s0 s1 : State} {v : Byte} {g1 g2 : W32} (sw : Bool)
    (h : 8 * v.toNat + 7 ≤ s.idtr.limit.toNat) (h1 : sysRead (s.idtr.base + (v.setWidth 32 <<< 3)) 4 s = .ok g1 s0)
    (h2 : sysRead (s.idtr.base + (v.setWidth 32 <<< 3) + 4#32) 4 s0 = .ok g2 s1) :
    readIdtGate v sw s = gateChecks s sw ((v.setWidth 32 <<< 3) + 2#32) g1 g2 s1 := by
  rw [← toNat_vectorOffset] at h
  rw [readIdtGate, run_bind_get]
  show (raiseIf (Nat.blt s.idtr.limit.toNat ((v.setWidth 32 <<< 3 : W32).toNat + 7)) _ >>= _) s = _
  rw [blt_of_le h, run_bind_raiseIf_false, run_bind_ok h1, run_bind_ok h2]
  rfl

section
variable {s t : State} {sw : Bool} {iec g1 g2 : W32}

theorem gateChecks_of_code (h : g2.getLsbD 12 = true) : gateChecks s sw iec g1 g2 t = .error (.raise (.gp iec)) t := by
  rw [gateChecks, h]
  rfl

theorem gateChecks_of_task (h : g2.getLsbD 12 = false) (hty : sysTypeOf g2 = 5#4) :
    gateChecks s sw iec g1 g2 t = .error (.abort .unsupportedTaskGate) t := by
  rw [gateChecks, h, run_bind_raiseIf_false, run_cond, hty]
  rfl

theorem gateChecks_of_other (h : g2.getLsbD 12 = false) (hty : sysTypeOf g2 ∉ [5#4, 6#4, 7#4, 14#4, 15#4]) :
    gateChecks s sw iec g1 g2 t = .error (.raise (.gp iec)) t := by
  have hchecks : ∀ ty : BitVec 4, ty ∉ [5#4, 6#4, 7#4, 14#4, 15#4] →
      (ty == 5#4) = false ∧ (ty == 6#4 || ty == 7#4 || ty == 14#4 || ty == 15#4) = false := by decide
  obtain ⟨h5, hno⟩ := hchecks _ hty
  rw [gateChecks, h, run_bind_raiseIf_false, run_cond, h5, cond_false, hno]
  rfl

/-- A gate of one of the four types: whether software may use it, its presence, and what it says. -/
theorem gateChecks_of_gate (h : g2.getLsbD 12 = false) (hty : sysTypeOf g2 ∈ [6#4, 7#4, 14#4, 15#4]) :
    gateChecks s sw iec g1 g2 t = (do
      raiseIf (sw && (dplOf g2).ult s.cpl) (.gp iec)
      raiseIf (!g2.getLsbD 15) (.np iec)
      pure { gw := bif sysTypeOf g2 == 14#4 || sysTypeOf g2 == 15#4 then .w32 else .w16
             isInt := sysTypeOf g2 == 6#4 || sysTypeOf g2 == 14#4
             tsel := g1.extractLsb' 16 16
             toff := bif sysTypeOf g2 == 14#4 || sysTypeOf g2 == 15#4
               then (g2.extractLsb' 16 16 ++ g1.extractLsb' 0 16) else truncW .w16 g1 } : M Gate) t := by
  have hchecks : ∀ ty : BitVec 4, ty ∈ [6#4, 7#4, 14#4, 15#4] →
      (ty == 5#4) = false ∧ (ty == 6#4 || ty == 7#4 || ty == 14#4 || ty == 15#4) = true := by decide
  obtain ⟨h5, hyes⟩ := hchecks _ hty
  rw [gateChecks, h, run_bind_raiseIf_false, run_cond, h5, cond_false, hyes]
  rfl

end

/-! ### The target -/

section
variable {s t : State} {sel : W16} {d : Desc}

theorem gateTarget_of_null (h : selNull sel = true) : gateTarget sel s = .error (.raise (.gp 0#32)) s := by
  rw [gateTarget, run_bind_get, h]
  rfl

theorem gateTarget_of_none (h : selNull sel = false) (hd : descRead sel s = .ok none t) :
    gateTarget sel s = .error (.raise (.gp (ecSel sel))) t := by
  rw [gateTarget, run_bind_get, h, run_bind_raiseIf_false, run_bind_error (descReadOr_of_none hd)]

theorem gateTarget_of_some (h : selNull sel = false) (hd : descRead sel s = .ok (some d) t) :
    gateTarget sel s = (do
      raiseIf (!d.e2.getLsbD 12 || !d.e2.getLsbD 11 || s.cpl.ult (dplOf d.e2)) (.gp (ecSel sel))
      raiseIf (!d.e2.getLsbD 15) (.np (ecSel sel))
      pure d) t := by
  rw [gateTarget, run_bind_get, h, run_bind_raiseIf_false, run_bind_ok (descReadOr_of_some hd), run_raiseIf_raiseIf]

end

/-- A selector is null exactly when its error code is 0. -/
theorem selNull_iff (sel : W16) : selNull sel = true ↔ ecSel sel = 0#32 := by
  rw [selNull, ecSel, beq_iff_eq]
  constructor
  · intro h
    rw [h]
    rfl
  · intro h
    have := congrArg (fun x : W32 => x.setWidth 16) h
    simpa using this

theorem selNull_of_ne {sel : W16} (h : ecSel sel ≠ 0#32) : selNull sel = false :=
  Bool.eq_false_iff.mpr fun hn => h ((selNull_iff sel).mp hn)

/-- A rule that has read its value ends in the order of its two checks, or answers it. -/
theorem checkedValue_ends {bad present : Bool} {e x : Exc} {a : α} {t : State} :
    (bad = true → (do raiseIf bad e; raiseIf (!present) x; pure a : M α) t = .error (.raise e) t)
      ∧ (bad = false → present = false → (do raiseIf bad e; raiseIf (!present) x; pure a : M α) t = .error (.raise x) t)
      ∧ (bad = false → present = true → (do raiseIf bad e; raiseIf (!present) x; pure a : M α) t = .ok a t) := by
  refine ⟨?_, ?_, ?_⟩
  · rintro rfl
    rfl
  · rintro rfl rfl
    rfl
  · rintro rfl rfl
    rfl

/-! ### The delivery -/

section
variable {s s1 s2 s3 t : State} {v : Byte} {sw hw : Bool} {code : Option W32} {ret : W32} {g : Gate} {d : Desc}

theorem deliverProt_of_target_error {x : Stop} (hg : readIdtGate v sw s = .ok g s1)
    (ht : gateTarget g.tsel s1 = .error x t) : deliverProt v sw code hw ret s = .error x t := by
  rw [deliverProt, run_bind_get, run_bind_ok hg, run_bind_error ht]

/-- The handler at the same level: the frame on the current stack, and CS:EIP from the gate (R675, R677, R679). -/
theorem deliverProt_of_same {s4 : State} {p : W32} (hg : readIdtGate v sw s = .ok g s1)
    (ht : gateTarget g.tsel s1 = .ok d s2) (hlvl : goesInner s d = false) (hm : markAccessed d s2 = .ok () s3)
    (hp : pushList false s.segs.ss.base s.stackMask g.gw.bytes (s.regs.esp &&& s.stackMask)
      (deliveryFrame s v sw hw code ret) s3 = .ok p s4) :
    deliverProt v sw code hw ret s = .ok () { s4 with
      regs := s4.regs.set .esp (maskedInto s.stackMask s4.regs.esp p),
      segs := s4.segs.set .cs { sel := selWithRpl g.tsel s.cpl, base := descBase d.e1 d.e2,
                                limit := descLimit d.e1 d.e2, rights := d.e2 ||| 0x100#32 },
      pc := g.toff, eflagsSys := s4.eflagsSys &&& ~~~(0x00004100#32 ||| atBit g.isInt 9) } := by
  have hwalk : s.sameButWalk s4 :=
    (((sameButWalk_of_ok (fun _ h => keeps_readIdtGate h v sw) hg).trans (sameButWalk_of_ok (quiet_gateTarget _) ht)).trans
      (sameButWalk_of_ok (quiet_markAccessed _) hm)).trans (sameButWalk_of_ok (quiet_pushList _ _ _ _ _ _) hp)
  rw [deliverProt, run_bind_get, run_bind_ok hg, run_bind_ok ht]
  rw [run_cond, hlvl, cond_false, run_bind_ok hm]
  show (pushList _ _ _ _ _ _ >>= _) s3 = _
  rw [run_bind_ok hp, run_bind_upd, ← hwalk.regs]
  rfl

end

/-- Settles O19: the gate, the target, and the handler at the same level. -/
theorem protectedDeliverySameLevel : Obligations.ProtectedDeliverySameLevel := by
  intro s v sw hw code ret hpe v8 iec frame
  refine ⟨fun hlim => ?_, fun hlim g1 g2 s0 s1 h1 h2 => ?_, fun sel u => ?_, fun x t hx => ?_, fun g s1 hg => ⟨fun x t hx => ?_, ?_⟩⟩
  · exact readIdtGate_of_limit sw (Nat.blt_eq.mpr ((toNat_vectorOffset v).symm ▸ hlim))
  · intro ty wide denied stops
    have hgate := readIdtGate_of_inside sw hlim h1 h2
    refine ⟨fun h => hgate.trans (gateChecks_of_code h), fun h hty => hgate.trans (gateChecks_of_task h hty),
      fun h hty => hgate.trans (gateChecks_of_other h hty), fun h hty => ?_⟩
    obtain ⟨hbad, habsent, hgo⟩ := checkedValue_ends (bad := denied) (present := g2.getLsbD 15) (e := .gp iec)
      (x := .np iec) (a := Gate.mk (bif wide then .w32 else .w16) (ty == 6#4 || ty == 14#4) (g1.extractLsb' 16 16)
        (bif wide then g2.extractLsb' 16 16 ++ g1.extractLsb' 0 16 else truncW .w16 g1)) (t := s1)
    have hchecks := hgate.trans (gateChecks_of_gate h hty)
    refine ⟨fun hd => hchecks.trans (hbad hd), fun hd hp => hchecks.trans (habsent hd hp), fun hd hp => ?_⟩
    exact (hchecks.trans (hgo hd hp)).trans (by rw [truncW_eq_and .w16 g1]; rfl)
  · intro ec
    refine ⟨fun h => gateTarget_of_null ((selNull_iff sel).mpr h), fun h t ht => gateTarget_of_none (selNull_of_ne h) ht,
      fun h d t ht => ?_⟩
    intro bad
    obtain ⟨hbad, habsent, hgo⟩ := checkedValue_ends (bad := bad) (present := d.e2.getLsbD 15) (e := .gp ec)
      (x := .np ec) (a := d) (t := t)
    have hchecks := gateTarget_of_some (selNull_of_ne h) ht
    exact ⟨fun hb => hchecks.trans (hbad hb), fun hb hp => hchecks.trans (habsent hb hp),
      fun hb hp => hchecks.trans (hgo hb hp)⟩
  · rw [deliver_of_prot hpe, deliverProt_of_gate_error code hw ret hx]
  · rw [deliver_of_prot hpe, deliverProt_of_target_error hg hx]
  · intro d p s2 s3 s4 ht hlvl hm hpush
    have hwalk : s.sameButWalk s4 :=
      (((sameButWalk_of_ok (fun _ h => keeps_readIdtGate h v sw) hg).trans
        (sameButWalk_of_ok (quiet_gateTarget _) ht)).trans (sameButWalk_of_ok (quiet_markAccessed _) hm)).trans
        (sameButWalk_of_ok (quiet_pushList _ _ _ _ _ _) (pushList_of_framePushes hpush))
    have hframe : frame = deliveryFrame s v sw hw code ret := (deliveryFrame_eq ..).symm
    rw [hframe] at hpush
    rw [deliver_of_prot hpe, deliverProt_of_same hg ht hlvl hm (pushList_of_framePushes hpush), hwalk.regs, hwalk.segs,
      hwalk.eflagsSys]
    rfl

end Sys2Proof.Machine
end

section
/-! Delivery in protected mode to an inner level: the new stack from the TSS, its checks, and the frame (R186, R676 to
R679). -/

namespace Sys2Proof.Machine

variable {α β : Type}

/-! ### The new stack -/

/-- The place of a level's stack in a TSS (R186). -/
def tssOffset (wide : Bool) (lvl : BitVec 2) : Nat := bif wide then 4 + 8 * lvl.toNat else 2 + 4 * lvl.toNat

theorem tssOffset_eq : ∀ (wide : Bool) (lvl : BitVec 2),
    (bif wide then 4#32 + (lvl.setWidth 32 <<< 3) else 2#32 + (lvl.setWidth 32 <<< 2) : W32)
      = BitVec.ofNat 32 (tssOffset wide lvl) := by decide

theorem toNat_tssOffset : ∀ (wide : Bool) (lvl : BitVec 2),
    (BitVec.ofNat 32 (tssOffset wide lvl)).toNat = tssOffset wide lvl := by decide

theorem tssOffset_add (wide : Bool) (lvl : BitVec 2) (base : W32) :
    base + BitVec.ofNat 32 (tssOffset wide lvl) + (bif wide then 4#32 else 2#32)
      = base + BitVec.ofNat 32 (tssOffset wide lvl + bif wide then 4 else 2) := by
  rw [BitVec.add_assoc, BitVec.ofNat_add]
  cases wide <;> rfl

/-- The checks of a stack selector that a TSS gave (R676). -/
def innerChecks (lvl : BitVec 2) (nss : W16) (nesp : W32) : M InnerSS := do
  raiseIf (selNull nss) (.ts (ecSel nss))
  let d ← descReadOr nss (.ts (ecSel nss))
  raiseIf (selRpl nss != lvl) (.ts (ecSel nss))
  raiseIf (!d.e2.getLsbD 12 || d.e2.getLsbD 11 || !d.e2.getLsbD 9) (.ts (ecSel nss))
  raiseIf (dplOf d.e2 != lvl) (.ts (ecSel nss))
  raiseIf (!d.e2.getLsbD 15) (.ss (ecSel nss))
  pure { nss := nss, nesp := nesp, desc := d }

/-- The TSS a new stack is read from: its place, the size of its stack pointers, and the last byte read. -/
theorem innerStack_eq (lvl : BitVec 2) (u : State) : innerStack lvl u = (do
    raiseIf (Nat.blt u.segs.tr.limit.toNat
      (tssOffset (u.segs.tr.rights.getLsbD 11) lvl + bif u.segs.tr.rights.getLsbD 11 then 7 else 3))
      (.ts (ecSel u.segs.tr.sel))
    let nesp ← sysRead (u.segs.tr.base + BitVec.ofNat 32 (tssOffset (u.segs.tr.rights.getLsbD 11) lvl))
      (bif u.segs.tr.rights.getLsbD 11 then 4 else 2)
    let nss ← sysRead (u.segs.tr.base + BitVec.ofNat 32 (tssOffset (u.segs.tr.rights.getLsbD 11) lvl
      + bif u.segs.tr.rights.getLsbD 11 then 4 else 2)) 2
    innerChecks lvl (nss.setWidth 16) nesp) u := by
  rw [innerStack, run_bind_get]
  dsimp only
  rw [tssOffset_eq, toNat_tssOffset, tssOffset_add]
  rfl

section
variable {u t : State} {lvl : BitVec 2} {nss : W16} {nesp : W32} {d : Desc}

theorem innerChecks_of_null (h : selNull nss = true) :
    innerChecks lvl nss nesp u = .error (.raise (.ts (ecSel nss))) u := by
  rw [innerChecks, h]
  rfl

theorem innerChecks_of_none (h : selNull nss = false) (hd : descRead nss u = .ok none t) :
    innerChecks lvl nss nesp u = .error (.raise (.ts (ecSel nss))) t := by
  rw [innerChecks, h, run_bind_raiseIf_false, run_bind_error (descReadOr_of_none hd)]

theorem innerChecks_of_some (h : selNull nss = false) (hd : descRead nss u = .ok (some d) t) :
    innerChecks lvl nss nesp u = (do
      raiseIf (selRpl nss != lvl || (!d.e2.getLsbD 12 || d.e2.getLsbD 11 || !d.e2.getLsbD 9) || dplOf d.e2 != lvl)
        (.ts (ecSel nss))
      raiseIf (!d.e2.getLsbD 15) (.ss (ecSel nss))
      pure (InnerSS.mk nss nesp d)) t := by
  rw [innerChecks, h, run_bind_raiseIf_false, run_bind_ok (descReadOr_of_some hd), run_raiseIf_raiseIf,
    run_raiseIf_raiseIf]

end

/-! ### The delivery -/

section
variable {s s1 s2 s3 t : State} {v : Byte} {sw hw : Bool} {code : Option W32} {ret : W32} {g : Gate} {d : Desc}

theorem deliverProt_of_inner_error {x : Stop} (hg : readIdtGate v sw s = .ok g s1)
    (ht : gateTarget g.tsel s1 = .ok d s2) (hlvl : goesInner s d = true) (hi : innerStack (dplOf d.e2) s2 = .error x t) :
    deliverProt v sw code hw ret s = .error x t := by
  rw [deliverProt, run_bind_get, run_bind_ok hg, run_bind_ok ht, run_cond, hlvl, cond_true, run_bind_error hi]

/-- The handler at an inner level: the frame on the new stack, CPL, SS and CS:EIP from the target (R675 to R679). -/
theorem deliverProt_of_inner {s4 s5 s6 : State} {i : InnerSS} {p : W32} (hg : readIdtGate v sw s = .ok g s1)
    (ht : gateTarget g.tsel s1 = .ok d s2) (hlvl : goesInner s d = true) (hi : innerStack (dplOf d.e2) s2 = .ok i s3)
    (hm1 : markAccessed i.desc s3 = .ok () s4) (hm2 : markAccessed d s4 = .ok () s5)
    (hp : pushList true (descBase i.desc.e1 i.desc.e2) (maskOfRights i.desc.e2) g.gw.bytes
      (i.nesp &&& maskOfRights i.desc.e2) ([s.segs.ss.sel.setWidth 32, s.regs.esp] ++ deliveryFrame s v sw hw code ret)
      s5 = .ok p s6) :
    deliverProt v sw code hw ret s = .ok () { s6 with
      cpl := dplOf d.e2,
      regs := s6.regs.set .esp (maskedInto (maskOfRights i.desc.e2) s6.regs.esp p),
      segs := (s6.segs.set .ss { sel := selWithRpl i.nss (dplOf d.e2), base := descBase i.desc.e1 i.desc.e2,
                                 limit := descLimit i.desc.e1 i.desc.e2, rights := i.desc.e2 ||| 0x100#32 }).set .cs
        { sel := selWithRpl g.tsel (dplOf d.e2), base := descBase d.e1 d.e2,
          limit := descLimit d.e1 d.e2, rights := d.e2 ||| 0x100#32 },
      pc := g.toff, eflagsSys := s6.eflagsSys &&& ~~~(0x00004100#32 ||| atBit g.isInt 9) } := by
  have hwalk : s.sameButWalk s6 :=
    (((((sameButWalk_of_ok (fun _ h => keeps_readIdtGate h v sw) hg).trans
      (sameButWalk_of_ok (quiet_gateTarget _) ht)).trans (sameButWalk_of_ok (quiet_innerStack _) hi)).trans
      (sameButWalk_of_ok (quiet_markAccessed _) hm1)).trans (sameButWalk_of_ok (quiet_markAccessed _) hm2)).trans
      (sameButWalk_of_ok (quiet_pushList _ _ _ _ _ _) hp)
  rw [deliverProt, run_bind_get, run_bind_ok hg, run_bind_ok ht, run_cond, hlvl, cond_true, run_bind_ok hi,
    run_bind_ok hm1, run_bind_ok hm2]
  show (pushList _ _ _ _ _ _ >>= _) s5 = _
  rw [run_bind_ok hp, ← hwalk.regs]
  rfl

end

/-- Settles O20: the new stack and its checks, and the handler at the inner level. -/
theorem protectedDeliveryToInnerLevel : Obligations.ProtectedDeliveryToInnerLevel := by
  refine ⟨fun lvl u _ => ?_, fun s v sw hw code ret g d s1 s2 => ?_⟩
  · intro tr wide o n stops
    have hlast : (bif wide then 7 else 3) = 2 * n - 1 := by
      show _ = 2 * (bif wide then 4 else 2) - 1
      cases wide <;> rfl
    have heq := innerStack_eq lvl u
    refine ⟨fun hlim => ?_, fun hlim nesp nss t1 t2 h1 h2 => ?_⟩
    · refine heq.trans ?_
      show (raiseIf (Nat.blt tr.limit.toNat (o + bif wide then 7 else 3)) _ >>= _) u = _
      rw [hlast, Nat.blt_eq.mpr hlim]
      rfl
    · intro sel ec
      have hrun : innerStack lvl u = innerChecks lvl sel nesp t2 := by
        refine heq.trans ?_
        show (raiseIf (Nat.blt tr.limit.toNat (o + bif wide then 7 else 3)) _ >>= _) u = _
        rw [hlast, blt_of_le hlim, run_bind_raiseIf_false]
        exact (run_bind_ok h1).trans (run_bind_ok h2)
      refine ⟨fun h => hrun.trans (innerChecks_of_null ((selNull_iff sel).mpr h)),
        fun h t3 h3 => hrun.trans (innerChecks_of_none (selNull_of_ne h) h3), fun h d t3 h3 => ?_⟩
      intro bad
      have hbad : (selRpl sel != lvl || (!d.e2.getLsbD 12 || d.e2.getLsbD 11 || !d.e2.getLsbD 9) || dplOf d.e2 != lvl)
          = bad := by
        simp only [← Bool.or_assoc]
        rfl
      obtain ⟨hb, habsent, hgo⟩ := checkedValue_ends (bad := bad) (present := d.e2.getLsbD 15) (e := .ts ec)
        (x := .ss ec) (a := InnerSS.mk sel nesp d) (t := t3)
      have hchecks := hrun.trans (innerChecks_of_some (selNull_of_ne h) h3)
      rw [hbad] at hchecks
      exact ⟨fun hx => hchecks.trans (hb hx), fun hx hp => hchecks.trans (habsent hx hp),
        fun hx hp => hchecks.trans (hgo hx hp)⟩
  · intro frame dpl hpe hg ht hconf hdpl
    have hlvl : goesInner s d = true := by
      rw [goesInner, hconf]
      exact hdpl
    refine ⟨fun x t hx => ?_, fun i p s3 s4 s5 s6 hi hm1 hm2 => ?_⟩
    · rw [deliver_of_prot hpe, deliverProt_of_inner_error hg ht hlvl hx]
    · intro nm hpush
      have hframe : frame = deliveryFrame s v sw hw code ret := (deliveryFrame_eq ..).symm
      rw [hframe] at hpush
      have hp := pushList_of_framePushes hpush
      have hwalk : s.sameButWalk s6 :=
        (((((sameButWalk_of_ok (fun _ h => keeps_readIdtGate h v sw) hg).trans
          (sameButWalk_of_ok (quiet_gateTarget _) ht)).trans (sameButWalk_of_ok (quiet_innerStack _) hi)).trans
          (sameButWalk_of_ok (quiet_markAccessed _) hm1)).trans (sameButWalk_of_ok (quiet_markAccessed _) hm2)).trans
          (sameButWalk_of_ok (quiet_pushList _ _ _ _ _ _) hp)
      rw [deliver_of_prot hpe, deliverProt_of_inner hg ht hlvl hi hm1 hm2 hp, hwalk.regs, hwalk.segs, hwalk.eflagsSys]
      rfl

end Sys2Proof.Machine
end

section
/-! The checks that come before an instruction's effect (R195, R600, R691), the forms that raise (R241, R262), and the
prefixes (R222 to R227). -/

namespace Sys2Proof.Machine

variable {α β : Type}

/-! ### Level and mode -/

section
variable {s t : State}

theorem privileged_of_zero (h : s.cpl = 0#2) : privileged s = .ok () s := by
  rw [privileged, run_bind_get, h]
  rfl

theorem privileged_of_ne (h : s.cpl ≠ 0#2) : privileged s = .error (.raise (.gp 0#32)) s := by
  rw [privileged, run_bind_get, bne_iff_ne.mpr h]
  rfl

theorem ioCheck_of_allowed (h : s.iopl.ult s.cpl = false) : ioCheck s = .ok () s := by
  rw [ioCheck, run_bind_get, h]
  rfl

theorem ioCheck_of_denied (h : s.iopl.ult s.cpl = true) : ioCheck s = .error (.raise (.gp 0#32)) s := by
  rw [ioCheck, run_bind_get, h]
  rfl

theorem protectedOnly_of_pe (h : s.pe = true) : protectedOnly s = .ok () s := by
  rw [protectedOnly, run_bind_get, h]
  rfl

theorem protectedOnly_of_real (h : s.pe = false) : protectedOnly s = .error (.raise .ud) s := by
  rw [protectedOnly, run_bind_get, h]
  rfl

theorem locateReg_of_reg (r : Reg) : locateReg (.reg r) s = .ok r s := rfl

theorem controlExists_iff (n : BitVec 3) : controlExists n = true ↔ n = 0#3 ∨ n = 2#3 ∨ n = 3#3 ∨ n = 4#3 := by
  revert n
  decide

/-! ### Repetition -/

variable {e : M Unit} {b : Bool}

theorem repeated_of_none (h : s.dec.rep = none) : repeated b e s = (do e; advance) s := by
  rw [repeated, run_bind_get, h]

theorem repeated_of_zero (h : s.dec.rep ≠ none) (hc : s.regs.read s.asz .ecx = 0#32) :
    repeated b e s = .ok () (s.setPc s.nextpc) := by
  obtain ⟨rp, hrp⟩ := Option.ne_none_iff_exists'.mp h
  rw [repeated, run_bind_get, hrp]
  dsimp only
  rw [hc]
  rfl

theorem repeated_of_some {rp : Rep} (h : s.dec.rep = some rp) (hc : s.regs.read s.asz .ecx ≠ 0#32) :
    repeated b e s = (do
      e
      writeReg s.asz .ecx (truncW s.asz (s.regs.read s.asz .ecx - 1#32))
      let s' ← get
      bif repeatDone b rp (truncW s.asz (s.regs.read s.asz .ecx - 1#32)) s'.cc.zf then advance else pure ()) s := by
  rw [repeated, run_bind_get, h]
  dsimp only
  rw [beq_false_of_ne hc]
  rfl

/-- An element that stops stops the instruction. -/
theorem repeated_of_error {x : Stop} (h : s.dec.rep = none ∨ s.regs.read s.asz .ecx ≠ 0#32) (he : e s = .error x t) :
    repeated b e s = .error x t := by
  cases hr : s.dec.rep with
  | none => rw [repeated_of_none hr, run_bind_error he]
  | some rp => rw [repeated_of_some hr (h.resolve_left (by simp [hr])), run_bind_error he]

end

/-! ### The checks of level -/

section
variable {s : State} {m : Unit → M Unit}

/-- A privileged rule at another level than 0 raises #GP(0) and does nothing else (R691). -/
theorem complete_privileged (h : s.cpl ≠ 0#2) : complete (privileged >>= m) s = .next (takeException (.gp 0#32) s) :=
  complete_raise (run_bind_error (privileged_of_ne h))

/-- A privileged rule of protected mode (R600). -/
theorem complete_privileged_prot (h : s.cpl ≠ 0#2) (hpe : s.pe = true) :
    complete (do protectedOnly; privileged >>= m) s = .next (takeException (.gp 0#32) s) :=
  complete_raise ((run_bind_ok (protectedOnly_of_pe hpe)).trans (run_bind_error (privileged_of_ne h)))

/-- A move of a control register that exists (R620, R621). -/
theorem complete_privileged_control {r : Reg} {n : BitVec 3} {k : Reg → Unit → M Unit} (h : s.cpl ≠ 0#2)
    (hn : n = 0#3 ∨ n = 2#3 ∨ n = 3#3 ∨ n = 4#3) :
    complete (do let q ← locateReg (.reg r); raiseIf (!controlExists n) .ud; privileged >>= k q) s
      = .next (takeException (.gp 0#32) s) := by
  refine complete_raise ((run_bind_ok (locateReg_of_reg r)).trans ?_)
  rw [(controlExists_iff n).mpr hn]
  exact (run_bind_raiseIf_false _ _ s).trans (run_bind_error (privileged_of_ne h))

/-- An I/O-sensitive rule above IOPL (R195). -/
theorem complete_ioCheck (h : s.iopl.ult s.cpl = true) :
    complete (ioCheck >>= m) s = .next (takeException (.gp 0#32) s) :=
  complete_raise (run_bind_error (ioCheck_of_denied h))

/-- The element of a string port instruction above IOPL (R504, R505). -/
theorem complete_repeated_ioCheck (h : s.iopl.ult s.cpl = true)
    (hr : s.dec.rep = none ∨ s.regs.read s.asz .ecx ≠ 0#32) :
    complete (repeated false (ioCheck >>= m)) s = .next (takeException (.gp 0#32) s) :=
  complete_raise (repeated_of_error hr (run_bind_error (ioCheck_of_denied h)))

end

/-- Settles O31: the privileged instructions, the I/O-sensitive ones, and the string port instructions with a count of 0. -/
theorem privilegeChecksFault : Obligations.PrivilegeChecksFault := by
  intro i s ib fault
  refine ⟨fun hc hi => ?_, fun hio hi => ?_, fun hi hr hcount => ?_⟩
  · rcases hi with hi | ⟨rm, rfl⟩ | ⟨hpe, rm, rfl | rfl⟩ | ⟨rm, seg, off, hl, rfl | rfl | rfl⟩ | ⟨r, n, hn, rfl | rfl⟩
      | ⟨r, n, rfl⟩
    · simp only [List.mem_cons, List.not_mem_nil, or_false] at hi
      rcases hi with rfl | rfl | rfl | rfl <;> exact complete_privileged hc
    · exact complete_privileged hc
    · exact complete_privileged_prot hc hpe
    · exact complete_privileged_prot hc hpe
    · exact complete_raise ((run_bind_ok (locateMem_of_mem hl)).trans (run_bind_error (privileged_of_ne hc)))
    · exact complete_raise ((run_bind_ok (locateMem_of_mem hl)).trans (run_bind_error (privileged_of_ne hc)))
    · exact complete_raise ((run_bind_ok (locateMem_of_mem hl)).trans (run_bind_error (privileged_of_ne hc)))
    · exact complete_privileged_control hc hn
    · exact complete_privileged_control hc hn
    · exact complete_raise ((run_bind_ok (locateReg_of_reg r)).trans (run_bind_error (privileged_of_ne hc)))
  · rcases hi with hi | ⟨hi, hr⟩
    · simp only [List.mem_cons, List.not_mem_nil, or_false] at hi
      rcases hi with rfl | rfl | rfl | rfl | rfl | rfl | rfl | rfl | rfl | rfl <;> exact complete_ioCheck hio
    · simp only [List.mem_cons, List.not_mem_nil, or_false] at hi
      rcases hi with rfl | rfl | rfl | rfl <;> exact complete_repeated_ioCheck hio hr
  · simp only [List.mem_cons, List.not_mem_nil, or_false] at hi
    rcases hi with rfl | rfl | rfl | rfl <;> exact complete_ok (repeated_of_zero hr hcount)

/-! ### The encodings not admitted -/

section
variable {i : Instr} (s : State)

theorem exec_notAdmittedOneByte (h : i ∈ notAdmittedOneByte) : exec i s = .next (takeException .ud s) := by
  revert i
  simp only [notAdmittedOneByte, List.forall_mem_cons, List.not_mem_nil, false_imp_iff, implies_true, and_true]
  repeat' constructor

theorem exec_notAdmittedTwoByteLow (h : i ∈ notAdmittedTwoByteLow) : exec i s = .next (takeException .ud s) := by
  revert i
  simp only [notAdmittedTwoByteLow, List.forall_mem_cons, List.not_mem_nil, false_imp_iff, implies_true, and_true]
  repeat' constructor

theorem exec_notAdmittedTwoByteMid (h : i ∈ notAdmittedTwoByteMid) : exec i s = .next (takeException .ud s) := by
  revert i
  simp only [notAdmittedTwoByteMid, List.forall_mem_cons, List.not_mem_nil, false_imp_iff, implies_true, and_true]
  repeat' constructor

theorem exec_notAdmittedTwoByteHigh (h : i ∈ notAdmittedTwoByteHigh) : exec i s = .next (takeException .ud s) := by
  revert i
  simp only [notAdmittedTwoByteHigh, List.forall_mem_cons, List.not_mem_nil, false_imp_iff, implies_true, and_true]
  repeat' constructor

theorem exec_notAdmittedTwoByteTop (h : i ∈ notAdmittedTwoByteTop) : exec i s = .next (takeException .ud s) := by
  revert i
  simp only [notAdmittedTwoByteTop, List.forall_mem_cons, List.not_mem_nil, false_imp_iff, implies_true, and_true]
  repeat' constructor

/-- Each encoding that the core does not admit raises #UD (R262). -/
theorem exec_notAdmitted (h : i ∈ notAdmitted) : exec i s = .next (takeException .ud s) := by
  simp only [notAdmitted, List.mem_append] at h
  rcases h with (((h | h) | h) | h) | h
  · exact exec_notAdmittedOneByte s h
  · exact exec_notAdmittedTwoByteLow s h
  · exact exec_notAdmittedTwoByteMid s h
  · exact exec_notAdmittedTwoByteHigh s h
  · exact exec_notAdmittedTwoByteTop s h

end

/-! ### Operands that name no place -/

section
variable {s : State} {rm : Rm}

/-- A register, or an operand whose reading ended, is no place in memory (R241, R262). -/
theorem locateMem_of_no_mem (h : (∃ q, rm = .reg q) ∨ ∃ a b, rm = .cut a b) :
    locateMem rm s = .error (.raise .ud) s := by
  rcases h with ⟨q, rfl⟩ | ⟨a, b, rfl⟩ <;> rfl

/-- A rule that takes a place in memory raises #UD where there is none (R241, R262). -/
theorem complete_no_mem {k : Sreg × W32 → M Unit} (h : (∃ q, rm = .reg q) ∨ ∃ a b, rm = .cut a b) :
    complete (locateMem rm >>= k) s = .next (takeException .ud s) :=
  complete_raise (run_bind_error (locateMem_of_no_mem h))

/-- A rule that takes a far pointer in memory (R565, R569, R571). -/
theorem complete_no_pointer {w : Width} {k : W16 × W32 → M Unit} (h : (∃ q, rm = .reg q) ∨ ∃ a b, rm = .cut a b) :
    complete (readFarPointer w rm >>= k) s = .next (takeException .ud s) :=
  complete_raise (run_bind_error (run_bind_error (locateMem_of_no_mem h)))

theorem locateReg_of_no_reg (h : ∀ q, rm ≠ .reg q) : locateReg rm s = .error (.raise .ud) s := by
  cases rm with
  | reg q => exact absurd rfl (h q)
  | abs16 | ind16 | abs32 | ind32 | sib | sibAbs | cut | absent => rfl

/-- A move of a control register raises #UD without a register or with a number that names none (R620, R621). -/
theorem complete_no_control {n : BitVec 3} {k : Reg → Unit → M Unit}
    (h : (∀ q, rm ≠ .reg q) ∨ n ∈ [1#3, 5#3, 6#3, 7#3]) :
    complete (do let q ← locateReg rm; raiseIf (!controlExists n) .ud >>= k q) s = .next (takeException .ud s) := by
  refine complete_raise ?_
  by_cases hr : ∃ q, rm = .reg q
  · obtain ⟨q, rfl⟩ := hr
    have hex : ∀ n : BitVec 3, n ∈ [1#3, 5#3, 6#3, 7#3] → controlExists n = false := by decide
    refine (run_bind_ok (locateReg_of_reg q)).trans ?_
    rw [hex n (h.resolve_left fun hno => hno q rfl)]
    rfl
  · exact run_bind_error (locateReg_of_no_reg fun q hq => hr ⟨q, hq⟩)

end

/-- Settles O60: the prefixes, the sizes, and the forms that raise #UD. -/
theorem prefixesAndUnadmittedOpcodes : Obligations.PrefixesAndUnadmittedOpcodes := by
  intro s i rm r n set wide
  have h32 : ∀ b : Bool, ((bif b then Width.w32 else Width.w16) == .w32) = b := by decide
  refine ⟨rfl, rfl, rfl, rfl, rfl, rfl, rfl, rfl, rfl, rfl, rfl, rfl, rfl, ?_, exec_notAdmitted s, fun hrm hi => ?_,
    fun hrm hi => ?_, fun hrm => ?_, fun hrm hi => ?_⟩
  · rw [State.mode, State.osz, State.asz, h32, h32]
    rfl
  · simp only [List.mem_cons, List.not_mem_nil, or_false] at hi
    rcases hi with rfl | rfl | rfl | rfl | rfl | rfl | rfl | rfl | rfl | rfl | rfl | rfl | rfl | rfl
    iterate 2 exact complete_no_mem hrm
    iterate 7 exact complete_no_pointer hrm
    iterate 5 exact complete_no_mem hrm
  · simp only [List.mem_cons, List.not_mem_nil, or_false] at hi
    rcases hi with rfl | rfl <;> exact complete_no_control hrm
  · exact complete_raise (run_bind_error (locateReg_of_no_reg hrm))
  · obtain ⟨a, b, rfl⟩ := hrm
    simp only [List.mem_cons, List.not_mem_nil, or_false] at hi
    rcases hi with rfl | rfl <;> rfl

end Sys2Proof.Machine
end

section
/-! The ends of an instruction after its accesses, and the two-operand arithmetic (R350 to R363). -/

namespace Sys2Proof.Machine

variable {α β : Type}

/-! ### What accesses leave of the rest of the state -/

/-- The states agree on everything but the registers and what a translation or a store may write. -/
def State.sameButData (s t : State) : Prop :=
  t = { s with regs := t.regs, tlb := t.tlb, tlbList := t.tlbList, cr2 := t.cr2, mem := t.mem }

section
variable {s t u : State}

theorem State.sameButData.trans (h1 : s.sameButData t) (h2 : t.sameButData u) : s.sameButData u := by
  rw [State.sameButData] at *
  rw [h2, h1]

theorem State.sameButWalk.data (h : s.sameButWalk t) : s.sameButData t := by rw [State.sameButData, h]

theorem State.sameButData.cc (h : s.sameButData t) : t.cc = s.cc := by rw [h]
theorem State.sameButData.nextpc (h : s.sameButData t) : t.nextpc = s.nextpc := by rw [h]; rfl

theorem State.afterReads.data (h : s.afterReads t) : s.sameButData t := h.1.data
theorem State.afterReads.cc (h : s.afterReads t) : t.cc = s.cc := h.1.cc
theorem State.afterReads.regs (h : s.afterReads t) : t.regs = s.regs := h.1.regs
theorem State.afterReads.nextpc (h : s.afterReads t) : t.nextpc = s.nextpc := h.1.nextpc

theorem sameButData_of_writeBack {w : Width} {l : Loc} {h : Held} {v : W32} {x : Unit}
    (hw : writeBack w l h v s = .ok x t) : s.sameButData t := by
  cases l with
  | reg r => cases hw; rfl
  | mem seg off => exact (sameButWalk_of_ok (quiet_writeBack_mem w seg off h v) hw).data

theorem sameButWalk_of_writeLoc_mem {w : Width} {seg : Sreg} {off v : W32} {x : Unit}
    (hw : writeLoc w (.mem seg off) v s = .ok x t) : s.sameButWalk t :=
  sameButWalk_of_ok (quiet_writeLoc_mem w seg off v) hw

theorem sameButData_of_writeLoc {w : Width} {l : Loc} {v : W32} {x : Unit} (hw : writeLoc w l v s = .ok x t) :
    s.sameButData t := by
  cases l with
  | reg r => cases hw; rfl
  | mem seg off => exact (sameButWalk_of_writeLoc_mem hw).data

theorem afterReads_of_readLoc {w : Width} {l : Loc} {v : W32} (h : readLoc w l s = .ok v t) : s.afterReads t :=
  (reading_readLoc w l).of_ok h

theorem afterReads_of_readLocW {w : Width} {l : Loc} {h : Held} (hr : readLocW w l s = .ok h t) : s.afterReads t :=
  (reading_readLocW w l).of_ok hr

theorem readRm_of_locOf {w : Width} {rm : Rm} {l : Loc} {v : W32} (hl : s.locOf rm = some l)
    (h : readLoc w l s = .ok v t) : readRm w rm s = .ok v t := by
  rw [readRm, run_bind_ok (locate_of_locOf hl), h]

theorem writeRm_of_locOf {w : Width} {rm : Rm} {l : Loc} {v : W32} (hl : s.locOf rm = some l)
    (h : writeLoc w l v s = .ok () t) : writeRm w rm v s = .ok () t := by
  rw [writeRm, run_bind_ok (locate_of_locOf hl), h]

end

/-! ### The ends of a rule -/

section
variable {m : M Unit} {s t : State} {p : W32}

theorem complete_advance (h : m s = advance t) (hp : t.nextpc = p) : complete m s = .next { t with pc := p } := by
  subst hp
  exact complete_ok h

theorem complete_jump {q : W32} (h : m s = jumpTo q t) : complete m s = .next { t with pc := q } :=
  complete_ok h

theorem complete_flags {f : CC → CC} {c : CC} (h : m s = (do updCc f; advance) t) (hc : f t.cc = c)
    (hp : t.nextpc = p) : complete m s = .next { t with cc := c, pc := p } := by
  subst hc hp
  exact complete_ok h

theorem complete_reg {w : Width} {r : Reg} {v : W32} {g : Regs} (h : m s = (do writeReg w r v; advance) t)
    (hr : t.regs = g) (hp : t.nextpc = p) :
    complete m s = .next { t with regs := g.write w r v, pc := p } := by
  subst hr hp
  exact complete_ok h

theorem complete_regs_flags {f : CC → CC} {c : CC} {k : Regs → Regs} {g : Regs}
    (h : m s = (do upd (fun s => s.setRegs (k s.regs)); updCc f; advance) t) (hr : t.regs = g) (hc : f t.cc = c)
    (hp : t.nextpc = p) : complete m s = .next { t with regs := k g, cc := c, pc := p } := by
  subst hr hc hp
  exact complete_ok h

theorem complete_regs {k : Regs → Regs} {g : Regs} (h : m s = (do upd (fun s => s.setRegs (k s.regs)); advance) t)
    (hr : t.regs = g) (hp : t.nextpc = p) : complete m s = .next { t with regs := k g, pc := p } := by
  subst hr hp
  exact complete_ok h

end

/-! ### Two operands -/

/-- The source answers this value in every state that reads from s may leave. -/
def Yields (src : M W32) (s : State) (b : W32) : Prop := ∀ t, s.afterReads t → src t = .ok b t

theorem yields_pure (s : State) (b : W32) : Yields (pure b) s b := fun _ _ => rfl

theorem yields_readReg (s : State) (w : Width) (r : Reg) : Yields (readReg w r) s (s.regs.read w r) := by
  intro t h
  rw [readReg, run_bind_get, h.regs]
  rfl

theorem writes_of_ne {op : AluOp} (h : op ≠ .cmpOp) : op.writes = true := by
  cases op with
  | cmpOp => exact absurd rfl h
  | addOp | orOp | adcOp | sbbOp | andOp | subOp | xorOp => rfl

/-- Every form with an r/m destination is the rule of its operation. -/
theorem exec_aluRmForm {op : AluOp} {s : State} {rm : Rm} {i : Instr} {w : Width} {b : W32}
    (h : AluRmForm op s rm i w b) : ∃ src, exec i s = complete (aluToRm op w rm src) s ∧ Yields src s b := by
  cases h with
  | rm8R8 r => exact ⟨_, by cases op <;> rfl, yields_readReg s .w8 r⟩
  | rmvRv r => exact ⟨_, by cases op <;> rfl, yields_readReg s s.osz r⟩
  | rm8Imm8 x82 ib => exact ⟨_, by cases op <;> rfl, yields_pure s _⟩
  | rmvImmv iv => exact ⟨_, by cases op <;> rfl, yields_pure s _⟩
  | rmvImm8 ib => exact ⟨_, by cases op <;> rfl, yields_pure s _⟩

section
variable {op : AluOp} {s s1 s2 : State} {rm : Rm} {l : Loc} {w : Width} {b : W32} {src : M W32}

theorem complete_aluToRm_store {h : Held} (hop : op ≠ .cmpOp) (hl : s.locOf rm = some l)
    (hr : readLocW w l s = .ok h s1) (hsrc : Yields src s b)
    (hw : writeBack w l h (aluResult op w s.cc.cf h.val b) s1 = .ok () s2) :
    complete (aluToRm op w rm src) s = .next { s2 with cc := aluRecord op w s.cc h.val b, pc := s.nextpc } := by
  have hreads := afterReads_of_readLocW hr
  have hdata := hreads.data.trans (sameButData_of_writeBack hw)
  refine complete_flags (f := fun c => aluRecord op w c h.val b) ?_ (by rw [hdata.cc]) hdata.nextpc
  rw [← hreads.cc] at hw
  rw [aluToRm, run_bind_ok (locate_of_locOf hl), run_cond, writes_of_ne hop, cond_true, run_bind_ok hr,
    run_bind_ok (hsrc s1 hreads), run_bind_get, run_bind_ok hw]

theorem complete_aluToRm_cmp {a : W32} (hl : s.locOf rm = some l) (hr : readLoc w l s = .ok a s1)
    (hsrc : Yields src s b) : complete (aluToRm .cmpOp w rm src) s
      = .next { s1 with cc := aluRecord .cmpOp w s.cc a b, pc := s.nextpc } := by
  have hreads := afterReads_of_readLoc hr
  refine complete_flags (f := fun c => aluRecord .cmpOp w c a b) ?_ (by rw [hreads.cc]) hreads.nextpc
  rw [aluToRm, run_bind_ok (locate_of_locOf hl), run_cond, AluOp.writes, cond_false, run_bind_ok hr,
    run_bind_ok (hsrc s1 hreads)]

end

/-- Settles O32. -/
theorem aluToOperandCompletes : Obligations.AluToOperandCompletes := by
  intro op s s1 s2 rm i w a b l hform hl r
  obtain ⟨src, hexec, hsrc⟩ := exec_aluRmForm hform
  refine ⟨fun hop h hr ha hw => ?_, fun hop hr => ?_⟩
  · subst ha
    exact ⟨hexec.trans (complete_aluToRm_store hop hl hr hsrc hw), afterReads_of_readLocW hr,
      storedBack_of_writeBack hr hw⟩
  · subst hop
    exact ⟨hexec.trans (complete_aluToRm_cmp hl hr hsrc), afterReads_of_readLoc hr⟩

section
variable {s t : State} {b : W32} {src : M W32}

theorem complete_aluToReg (op : AluOp) (w : Width) (r : Reg) (hsrc : src s = .ok b t) (ht : s.afterReads t) :
    complete (aluToReg op w r src) s = .next { t with
      regs := bif op == .cmpOp then s.regs else s.regs.write w r (aluResult op w s.cc.cf (s.regs.read w r) b),
      cc := aluRecord op w s.cc (s.regs.read w r) b, pc := s.nextpc } := by
  apply complete_ok
  rw [aluToReg, run_bind_readReg, run_bind_ok hsrc, run_bind_get]
  by_cases hop : op = .cmpOp
  · subst hop
    rw [AluOp.writes, cond_false, run_bind_pure, run_bind_updCc, run_advance, beq_self_eq_true, cond_true, ht.cc,
      ← ht.regs, ← ht.nextpc]
    rfl
  · rw [writes_of_ne hop, cond_true, run_bind_writeReg, run_bind_updCc, run_advance, beq_false_of_ne hop, cond_false,
      ht.cc, ← ht.nextpc]
    show EStateM.Result.ok () { t with regs := t.regs.write w r _, cc := aluRecord op w t.cc _ b, pc := t.nextpc } = _
    rw [ht.cc, ht.regs]

theorem complete_testWith {u : State} {a : W32} {x y : M W32} (w : Width) (hx : x s = .ok a t) (hy : y t = .ok b u)
    (ht : s.afterReads u) :
    complete (testWith w x y) s = .next { u with cc := s.cc.recordLogic w (truncW w (a &&& b)), pc := s.nextpc } := by
  refine complete_flags (f := fun c => c.recordLogic w (truncW w (a &&& b))) ?_ (by rw [ht.cc]) ht.nextpc
  rw [testWith, run_bind_ok hx, run_bind_ok hy]

end

/-- Settles O33. -/
theorem aluToRegisterAndTestComplete : Obligations.AluToRegisterAndTestComplete := by
  intro op s s1 r rm l v ib iv hl done tested
  refine ⟨?_, ?_, ?_, ?_, fun hr => ?_, fun hr => ?_⟩
  · refine Eq.trans ?_ (complete_aluToReg op .w8 .eax (src := pure (ib.setWidth 32)) rfl (.refl s))
    cases op <;> rfl
  · refine Eq.trans ?_ (complete_aluToReg op s.osz .eax (src := pure iv.val) rfl (.refl s))
    cases op <;> rfl
  · exact complete_testWith .w8 (x := readReg .w8 .eax) (y := pure (ib.setWidth 32)) rfl rfl (.refl s)
  · exact complete_testWith s.osz (x := readReg s.osz .eax) (y := pure iv.val) rfl rfl (.refl s)
  · have hreads := afterReads_of_readLoc hr
    have hrm := readRm_of_locOf hl hr
    refine ⟨hreads, ?_, ?_, ?_⟩
    · refine Eq.trans ?_ (complete_aluToReg op .w8 r hrm hreads)
      cases op <;> rfl
    · exact complete_testWith .w8 hrm (yields_readReg s .w8 r s1 hreads) hreads
    · exact complete_testWith .w8 hrm (yields_pure s _ s1 hreads) hreads
  · have hreads := afterReads_of_readLoc hr
    have hrm := readRm_of_locOf hl hr
    refine ⟨hreads, ?_, ?_, ?_⟩
    · refine Eq.trans ?_ (complete_aluToReg op s.osz r hrm hreads)
      cases op <;> rfl
    · exact complete_testWith s.osz hrm (yields_readReg s s.osz r s1 hreads) hreads
    · exact complete_testWith s.osz hrm (yields_pure s _ s1 hreads) hreads

/-! ### One operand -/

section
variable {s s1 s2 : State} {rm : Rm} {l : Loc} {w : Width} {h : Held}

theorem complete_incDecLoc (f : Family) {m : M Unit} (hm : m s = incDecLoc f w l s) (hr : readLocW w l s = .ok h s1)
    (hw : writeBack w l h (incDecResult f w h.val) s1 = .ok () s2) :
    complete m s
      = .next { s2 with cc := s.cc.recordIncDec f w (incDecResult f w h.val), pc := s.nextpc } := by
  have hdata := (afterReads_of_readLocW hr).data.trans (sameButData_of_writeBack hw)
  refine complete_flags (f := fun c => c.recordIncDec f w (incDecResult f w h.val)) ?_ (by rw [hdata.cc]) hdata.nextpc
  rw [hm, incDecLoc, run_bind_ok hr, run_bind_ok hw]

theorem complete_negate (hl : s.locOf rm = some l) (hr : readLocW w l s = .ok h s1)
    (hw : writeBack w l h (truncW w (0#32 - h.val)) s1 = .ok () s2) :
    complete (negate w rm) s
      = .next { s2 with cc := s.cc.record .sub w (truncW w (0#32 - h.val)) h.val, pc := s.nextpc } := by
  have hdata := (afterReads_of_readLocW hr).data.trans (sameButData_of_writeBack hw)
  refine complete_flags (f := fun c => c.record .sub w (truncW w (0#32 - h.val)) h.val) ?_ (by rw [hdata.cc])
    hdata.nextpc
  rw [negate, run_bind_ok (locate_of_locOf hl), run_bind_ok hr, run_bind_ok hw]

theorem complete_complement (hl : s.locOf rm = some l) (hr : readLocW w l s = .ok h s1)
    (hw : writeBack w l h (truncW w (~~~h.val)) s1 = .ok () s2) :
    complete (complement w rm) s = .next { s2 with pc := s.nextpc } := by
  have hdata := (afterReads_of_readLocW hr).data.trans (sameButData_of_writeBack hw)
  refine complete_advance ?_ hdata.nextpc
  rw [complement, run_bind_ok (locate_of_locOf hl), run_bind_ok hr, run_bind_ok hw]

end

/-- Settles O34. -/
theorem incDecNegNotComplete : Obligations.IncDecNegNotComplete := by
  intro s s1 s2 r rm l w h i j k n a inc dec
  have hinc : exec (incReg r) s = complete (incDecLoc .inc s.osz (.reg r)) s := by cases r <;> rfl
  have hdec : exec (decReg r) s = complete (incDecLoc .dec s.osz (.reg r)) s := by cases r <;> rfl
  refine ⟨hinc, hdec, fun hform hl hr => ?_⟩
  have hexec : exec i s = complete (incDecRm .inc w rm) s ∧ exec j s = complete (incDecRm .dec w rm) s
      ∧ exec k s = complete (negate w rm) s ∧ exec n s = complete (complement w rm) s := by
    simp only [List.mem_cons, Prod.mk.injEq, List.not_mem_nil, or_false] at hform
    rcases hform with ⟨rfl, rfl, rfl, rfl, rfl⟩ | ⟨rfl, rfl, rfl, rfl, rfl⟩
    · exact ⟨rfl, rfl, rfl, rfl⟩
    · exact ⟨rfl, rfl, rfl, rfl⟩
  obtain ⟨hi, hj, hk, hn⟩ := hexec
  have hplace (f : Family) : incDecRm f w rm s = incDecLoc f w l s := run_bind_ok (locate_of_locOf hl)
  exact ⟨afterReads_of_readLocW hr,
    fun hw => ⟨hi.trans (complete_incDecLoc .inc (hplace _) hr hw), storedBack_of_writeBack hr hw⟩,
    fun hw => ⟨hj.trans (complete_incDecLoc .dec (hplace _) hr hw), storedBack_of_writeBack hr hw⟩,
    fun hw => ⟨hk.trans (complete_negate hl hr hw), storedBack_of_writeBack hr hw⟩,
    fun hw => ⟨hn.trans (complete_complement hl hr hw), storedBack_of_writeBack hr hw⟩⟩

end Sys2Proof.Machine
end

section
/-! Multiplication, division, the decimal adjustments and the exchanges (R309, R364 to R376). -/

namespace Sys2Proof.Machine

variable {α β : Type}

/-! ### Values read from a register -/

theorem truncW_w32 (v : W32) : truncW .w32 v = v := by
  apply BitVec.eq_of_toNat_eq
  exact (toNat_truncW .w32 v).trans (Nat.mod_eq_of_lt v.isLt)

/-- A register reads a value of the width. -/
theorem truncW_read (g : Regs) (w : Width) (r : Reg) : truncW w (g.read w r) = g.read w r := by
  cases w with
  | w8 => exact truncW_truncW .w8 _
  | w16 => exact truncW_truncW .w16 _
  | w32 => exact truncW_w32 _

/-! ### Products -/

section
variable {s t u : State} {w : Width} {b : W32}

theorem complete_mulUnsigned {rm : Rm} (hrm : readRm w rm s = .ok b t) (ht : s.afterReads t) :
    complete (mulUnsigned w rm) s = .next { t with
      regs := s.regs.writeProduct w (mulU w (s.regs.read w .eax) b),
      cc := s.cc.record .mul w (productLow w (mulU w (s.regs.read w .eax) b))
        (productHigh w (mulU w (s.regs.read w .eax) b)),
      pc := s.nextpc } := by
  refine complete_regs_flags (k := fun g => g.writeProduct w (mulU w (s.regs.read w .eax) b))
    (f := fun c => c.record .mul w (productLow w (mulU w (s.regs.read w .eax) b))
      (productHigh w (mulU w (s.regs.read w .eax) b))) ?_ ht.regs (by rw [ht.cc]) ht.nextpc
  rw [mulUnsigned, run_bind_ok hrm, run_bind_readReg, ht.regs]

theorem complete_mulSigned {rm : Rm} (hrm : readRm w rm s = .ok b t) (ht : s.afterReads t) :
    complete (mulSigned w rm) s = .next { t with
      regs := s.regs.writeProduct w (mulS w (s.regs.read w .eax) b),
      cc := s.cc.record .mul w (productLow w (mulS w (s.regs.read w .eax) b)) (mulOverflow w (s.regs.read w .eax) b),
      pc := s.nextpc } := by
  refine complete_regs_flags (k := fun g => g.writeProduct w (mulS w (s.regs.read w .eax) b))
    (f := fun c => c.record .mul w (productLow w (mulS w (s.regs.read w .eax) b))
      (mulOverflow w (s.regs.read w .eax) b)) ?_ ht.regs (by rw [ht.cc]) ht.nextpc
  rw [mulSigned, run_bind_ok hrm, run_bind_readReg, ht.regs]

theorem complete_mulInto {a : W32} {x y : M W32} (r : Reg) (hx : x s = .ok a t) (hy : y t = .ok b u)
    (hu : s.afterReads u) :
    complete (mulInto w r x y) s = .next { u with
      regs := s.regs.write w r (productLow w (mulS w a b)),
      cc := s.cc.record .mul w (productLow w (mulS w a b)) (mulOverflow w a b), pc := s.nextpc } := by
  refine complete_regs_flags (k := fun g => g.write w r (productLow w (mulS w a b)))
    (f := fun c => c.record .mul w (productLow w (mulS w a b)) (mulOverflow w a b)) ?_ hu.regs (by rw [hu.cc]) hu.nextpc
  rw [mulInto, run_bind_ok hx, run_bind_ok hy]
  rfl

end

/-- Settles O35. -/
theorem multiplyCompletes : Obligations.MultiplyCompletes := by
  intro s s1 rm l r w b i j iv ib hl hr a into
  have hreads := afterReads_of_readLoc hr
  have hrm := readRm_of_locOf hl hr
  refine ⟨hreads, fun hform => ?_, fun hw => ?_⟩
  · have hexec : exec i s = complete (mulUnsigned w rm) s ∧ exec j s = complete (mulSigned w rm) s := by
      simp only [List.mem_cons, Prod.mk.injEq, List.not_mem_nil, or_false] at hform
      rcases hform with ⟨rfl, rfl, rfl⟩ | ⟨rfl, rfl, rfl⟩
      · exact ⟨rfl, rfl⟩
      · exact ⟨rfl, rfl⟩
    exact ⟨hexec.1.trans (complete_mulUnsigned hrm hreads), hexec.2.trans (complete_mulSigned hrm hreads)⟩
  · subst hw
    exact ⟨complete_mulInto r (x := readReg s.osz r) rfl hrm hreads,
      complete_mulInto r hrm (yields_pure s _ s1 hreads) hreads,
      complete_mulInto r hrm (yields_pure s _ s1 hreads) hreads⟩

/-! ### Quotients -/

/-- A divisor is 0 at its width exactly when it is. -/
theorem unsignedW_eq_zero_iff {w : Width} {b : W32} (hb : truncW w b = b) : unsignedW w b = 0 ↔ b = 0#32 := by
  rw [unsignedW_eq hb]
  exact ⟨fun h => BitVec.eq_of_toNat_eq h, fun h => h ▸ rfl⟩

theorem signedW_eq_zero_iff {w : Width} {b : W32} (hb : truncW w b = b) : signedW w b = 0 ↔ b = 0#32 := by
  constructor
  · intro h
    have hz : b.setWidth w.bits = 0#w.bits := BitVec.toInt_inj.mp (h.trans BitVec.toInt_zero.symm)
    have hn := congrArg BitVec.toNat hz
    rw [BitVec.toNat_setWidth, Nat.mod_eq_of_lt (toNat_lt_of_truncW hb)] at hn
    exact BitVec.eq_of_toNat_eq hn
  · rintro rfl
    rw [signedW, BitVec.setWidth_zero, BitVec.toInt_zero]

theorem quotientOut_eq_false_iff (w : Width) (q : Int) :
    quotientOut w q = false ↔ -(2 ^ (w.bits - 1)) ≤ q ∧ q < 2 ^ (w.bits - 1) := by
  rw [quotientOut, Bool.or_eq_false_iff, decide_eq_false_iff_not, decide_eq_false_iff_not]
  generalize (2 : Int) ^ (w.bits - 1) = k
  omega

section
variable {s t : State} {w : Width} {b : W32} {rm : Rm}

/-- DIV ends with its two checks as one, and the quotient. -/
theorem divUnsigned_eq (hrm : readRm w rm s = .ok b t) (ht : s.afterReads t) :
    divUnsigned w rm s = (do
      raiseIf (unsignedW w b == 0 || Nat.ble (2 ^ w.bits) (s.regs.dividend w / unsignedW w b)) .de
      upd fun s' => s'.setRegs (s'.regs.writeQuotient w (BitVec.ofNat 32 (s.regs.dividend w / unsignedW w b))
        (BitVec.ofNat 32 (s.regs.dividend w % unsignedW w b)))
      advance) t := by
  rw [divUnsigned, run_bind_ok hrm, run_bind_get, run_raiseIf_raiseIf, ht.regs]

theorem divSigned_eq (hrm : readRm w rm s = .ok b t) (ht : s.afterReads t) :
    divSigned w rm s = (do
      raiseIf (signedW w b == 0 || quotientOut w ((s.regs.dividendS w).tdiv (signedW w b))) .de
      upd fun s' => s'.setRegs (s'.regs.writeQuotient w (BitVec.ofInt 32 ((s.regs.dividendS w).tdiv (signedW w b)))
        (BitVec.ofInt 32 ((s.regs.dividendS w).tmod (signedW w b))))
      advance) t := by
  rw [divSigned, run_bind_ok hrm, run_bind_get, run_raiseIf_raiseIf, ht.regs]

/-- A division whose checks are passed writes its quotient and remainder. -/
theorem complete_quotient {m : M Unit} {c : Bool} {q r : W32} (ht : s.afterReads t)
    (hm : m s = (do raiseIf c .de; upd fun s' => s'.setRegs (s'.regs.writeQuotient w q r); advance) t)
    (hc : c = false) : complete m s = .next { t with regs := s.regs.writeQuotient w q r, pc := s.nextpc } := by
  subst hc
  exact complete_regs (k := fun g => g.writeQuotient w q r) hm ht.regs ht.nextpc

theorem complete_divideError {m : M Unit} {c : Bool} {k : M Unit} (hm : m s = (do raiseIf c .de; k) t)
    (hc : c = true) : complete m s = .next (takeException .de t) := by
  subst hc
  exact complete_raise hm

end

/-- Settles O37. -/
theorem divideCompletesOrFaults : Obligations.DivideCompletesOrFaults := by
  intro s s1 rm l w b i j hform hl hr hb n m d fits
  have hreads := afterReads_of_readLoc hr
  have hrm := readRm_of_locOf hl hr
  have hexec : exec i s = complete (divUnsigned w rm) s ∧ exec j s = complete (divSigned w rm) s := by
    simp only [List.mem_cons, Prod.mk.injEq, List.not_mem_nil, or_false] at hform
    rcases hform with ⟨rfl, rfl, rfl⟩ | ⟨rfl, rfl, rfl⟩
    · exact ⟨rfl, rfl⟩
    · exact ⟨rfl, rfl⟩
  have hdiv := divUnsigned_eq hrm hreads
  have hidiv := divSigned_eq hrm hreads
  have hu : (unsignedW w b == 0) = true ↔ b = 0#32 := beq_iff_eq.trans (unsignedW_eq_zero_iff hb)
  have hs : (signedW w b == 0) = true ↔ b = 0#32 := beq_iff_eq.trans (signedW_eq_zero_iff hb)
  have hout : Nat.ble (2 ^ w.bits) (n / unsignedW w b) = true ↔ 2 ^ w.bits ≤ n / b.toNat := by
    rw [unsignedW_eq hb, Nat.ble_eq]
  have hfits : quotientOut w (m.tdiv d) = false ↔ fits := quotientOut_eq_false_iff w _
  refine ⟨hreads, fun hne hlt => ?_, fun hbad => ?_, fun hne hfit => ?_, fun hbad => ?_⟩
  · rw [hexec.1, ← unsignedW_eq hb]
    refine complete_quotient hreads hdiv (Bool.or_eq_false_iff.mpr ⟨?_, ?_⟩)
    · exact Bool.eq_false_iff.mpr fun h => hne (hu.mp h)
    · exact Bool.eq_false_iff.mpr fun h => absurd (hout.mp h) (Nat.not_le.mpr hlt)
  · rw [hexec.1]
    exact complete_divideError hdiv (Bool.or_eq_true_iff.mpr (hbad.imp hu.mpr hout.mpr))
  · rw [hexec.2]
    exact complete_quotient hreads hidiv
      (Bool.or_eq_false_iff.mpr ⟨Bool.eq_false_iff.mpr fun h => hne (hs.mp h), hfits.mpr hfit⟩)
  · rw [hexec.2]
    refine complete_divideError hidiv (Bool.or_eq_true_iff.mpr (hbad.imp hs.mpr fun hno => ?_))
    exact Bool.not_eq_false _ ▸ fun h => hno (hfits.mp h)

/-! ### Exchanges -/

section
variable {s s1 s2 : State} {rm : Rm} {r : Reg} {l : Loc} {w : Width} {h : Held}

theorem complete_exchange (hl : s.locOf rm = some l) (hr : readLocW w l s = .ok h s1)
    (hw : writeBack w l h (s.regs.read w r) s1 = .ok () s2) :
    complete (exchange w rm r) s = .next { s2 with regs := s2.regs.write w r h.val, pc := s.nextpc } := by
  have hreads := afterReads_of_readLocW hr
  rw [← hreads.regs] at hw
  refine complete_reg ?_ rfl (hreads.data.trans (sameButData_of_writeBack hw)).nextpc
  rw [exchange, run_bind_ok (locate_of_locOf hl), run_bind_ok hr, run_bind_readReg, run_bind_ok hw]

theorem complete_exchangeAdd_reg {q : Reg} (hl : s.locOf rm = some (.reg q)) (hr : readLocW w (.reg q) s = .ok h s1) :
    complete (exchangeAdd w rm r) s = .next { s1 with
      regs := (s.regs.write w r h.val).write w q (truncW w (h.val + s.regs.read w r)),
      cc := s.cc.record .add w (truncW w (h.val + s.regs.read w r)) (s.regs.read w r), pc := s.nextpc } := by
  have hreads := afterReads_of_readLocW hr
  refine complete_regs_flags (k := fun g => (g.write w r h.val).write w q (truncW w (h.val + s.regs.read w r)))
    (f := fun c => c.record .add w (truncW w (h.val + s.regs.read w r)) (s.regs.read w r)) ?_ hreads.regs
    (by rw [hreads.cc]) hreads.nextpc
  rw [exchangeAdd, run_bind_ok (locate_of_locOf hl), run_bind_ok hr, run_bind_readReg, hreads.regs]
  rfl

theorem complete_exchangeAdd_mem {seg : Sreg} {off : W32} (hl : s.locOf rm = some (.mem seg off))
    (hr : readLocW w (.mem seg off) s = .ok h s1)
    (hw : writeBack w (.mem seg off) h (truncW w (h.val + s.regs.read w r)) s1 = .ok () s2) :
    complete (exchangeAdd w rm r) s = .next { s2 with
      regs := s.regs.write w r h.val,
      cc := s.cc.record .add w (truncW w (h.val + s.regs.read w r)) (s.regs.read w r), pc := s.nextpc } := by
  have hreads := afterReads_of_readLocW hr
  have hsame := hreads.1.trans (sameButWalk_of_ok (quiet_writeBack_mem w seg off h _) hw)
  refine complete_regs_flags (k := fun g => g.write w r h.val)
    (f := fun c => c.record .add w (truncW w (h.val + s.regs.read w r)) (s.regs.read w r)) ?_ hsame.regs
    (by rw [hsame.cc]) hsame.nextpc
  rw [← hreads.regs] at hw
  rw [exchangeAdd, run_bind_ok (locate_of_locOf hl), run_bind_ok hr, run_bind_readReg]
  dsimp only
  rw [run_bind_ok hw, hreads.regs]
  rfl

theorem truncW_sub_self (w : Width) (a : W32) : truncW w (a - a) = 0#32 := by
  rw [BitVec.sub_self]
  apply BitVec.eq_of_toNat_eq
  rw [toNat_truncW]
  exact Nat.zero_mod _

/-- Values of a width whose difference is 0 at the width are the same. -/
theorem eq_of_truncW_sub_eq_zero {a b : W32} (ha : truncW w a = a) (hb : truncW w b = b)
    (h : truncW w (a - b) = 0#32) : a = b := by
  have hn := congrArg BitVec.toNat h
  have hla := toNat_lt_of_truncW ha
  have hlb := toNat_lt_of_truncW hb
  rw [toNat_truncW, BitVec.toNat_sub] at hn
  apply BitVec.eq_of_toNat_eq
  cases w <;> simp only [Width.bits, BitVec.toNat_ofNat] at hn hla hlb <;> omega

theorem complete_compareExchange_eq (hl : s.locOf rm = some l) (hr : readLocW w l s = .ok h s1)
    (hacc : s.regs.read w .eax = h.val) (hw : writeBack w l h (s.regs.read w r) s1 = .ok () s2) :
    complete (compareExchange w rm r) s
      = .next { s2 with cc := s.cc.record .sub w 0#32 h.val, pc := s.nextpc } := by
  have hreads := afterReads_of_readLocW hr
  have hdata := hreads.data.trans (sameButData_of_writeBack hw)
  refine complete_flags (f := fun c => c.record .sub w 0#32 h.val) ?_ (by rw [hdata.cc]) hdata.nextpc
  rw [← hreads.regs] at hacc hw
  rw [compareExchange, run_bind_ok (locate_of_locOf hl), run_bind_ok hr, run_bind_readReg, run_bind_readReg, hacc,
    truncW_sub_self, beq_self_eq_true, cond_true, run_bind_ok hw]

theorem complete_compareExchange_ne (hl : s.locOf rm = some l) (hr : readLocW w l s = .ok h s1)
    (hacc : s.regs.read w .eax ≠ h.val) (hval : truncW w h.val = h.val) :
    complete (compareExchange w rm r) s = .next { s1 with
      regs := s.regs.write w .eax h.val,
      cc := s.cc.record .sub w (truncW w (s.regs.read w .eax - h.val)) h.val, pc := s.nextpc } := by
  have hreads := afterReads_of_readLocW hr
  have hne : truncW w (s.regs.read w .eax - h.val) ≠ 0#32 := fun hz =>
    hacc (eq_of_truncW_sub_eq_zero (truncW_read _ _ _) hval hz)
  refine complete_regs_flags (k := fun g => g.write w .eax h.val)
    (f := fun c => c.record .sub w (truncW w (s.regs.read w .eax - h.val)) h.val) ?_ hreads.regs (by rw [hreads.cc])
    hreads.nextpc
  rw [compareExchange, run_bind_ok (locate_of_locOf hl), run_bind_ok hr, run_bind_readReg, run_bind_readReg,
    hreads.regs, beq_false_of_ne hne, cond_false]
  rfl

end

/-- Settles O39. -/
theorem exchangesComplete : Obligations.ExchangesComplete := by
  intro s s1 s2 rm r l w h i j k hform hl hr a b acc sum
  have hexec : exec i s = complete (exchange w rm r) s ∧ exec j s = complete (exchangeAdd w rm r) s
      ∧ exec k s = complete (compareExchange w rm r) s := by
    simp only [List.mem_cons, Prod.mk.injEq, List.not_mem_nil, or_false] at hform
    rcases hform with ⟨rfl, rfl, rfl, rfl⟩ | ⟨rfl, rfl, rfl, rfl⟩
    · exact ⟨rfl, rfl, rfl⟩
    · exact ⟨rfl, rfl, rfl⟩
  obtain ⟨hi, hj, hk⟩ := hexec
  refine ⟨afterReads_of_readLocW hr, fun hw => ?_, fun q hq => ?_, fun seg off hmem hw => ?_, fun hacc hw => ?_,
    fun hacc hval => ?_⟩
  · exact ⟨hi.trans (complete_exchange hl hr hw), storedBack_of_writeBack hr hw⟩
  · subst hq
    exact hj.trans (complete_exchangeAdd_reg hl hr)
  · subst hmem
    exact ⟨hj.trans (complete_exchangeAdd_mem hl hr hw), storedBack_of_writeBack hr hw⟩
  · exact ⟨hk.trans (complete_compareExchange_eq hl hr hacc hw), storedBack_of_writeBack hr hw⟩
  · exact hk.trans (complete_compareExchange_ne hl hr hacc hval)

end Sys2Proof.Machine
end

section
/-! The decimal adjustments (R369 to R374), the flag control and miscellaneous instructions (R520 to R539), the near jumps
(R440 to R453), the software interrupts (R456 to R459), and the ports (R195 to R197). -/

namespace Sys2Proof.Machine

variable {α β : Type}

/-! ### Decimal adjustments -/

/-- The low digit is out of range, or AF says so (R369). -/
theorem lowDigit_eq (al : W32) : (9#4).ult (al.extractLsb' 0 4) = decide (9 < al.toNat % 16) := by
  rw [BitVec.ult, BitVec.extractLsb'_toNat, Nat.shiftRight_zero]
  rfl

/-- The two steps of an adjustment are one sum at the width. -/
theorem decimalSteps_add {al : W32} (hal : truncW .w8 al = al) (low high : Bool) :
    (bif high then decimalStep false (bif low then decimalStep false al 6#32 else al) 0x60#32
      else bif low then decimalStep false al 6#32 else al)
      = truncW .w8 (al + (bif low then 6#32 else 0#32) + (bif high then 0x60#32 else 0#32)) := by
  cases low <;> cases high <;> simp only [cond_true, cond_false, decimalStep, BitVec.add_zero, truncW_add_truncW, hal]

theorem decimalSteps_sub {al : W32} (hal : truncW .w8 al = al) (low high : Bool) :
    (bif high then decimalStep true (bif low then decimalStep true al 6#32 else al) 0x60#32
      else bif low then decimalStep true al 6#32 else al)
      = truncW .w8 (al - (bif low then 6#32 else 0#32) - (bif high then 0x60#32 else 0#32)) := by
  cases low <;> cases high <;> simp only [cond_true, cond_false, decimalStep, BitVec.sub_zero, truncW_sub_truncW, hal]

/-- What an adjustment ends with. -/
theorem complete_decimal {m : M Unit} {s : State} {r r' : W32} {cf cf' low : Bool}
    (hm : m s = (do writeReg .w8 .eax r'; updCc fun c => c.setImage (decimalImage r' cf' low); advance) s)
    (hr : r' = r) (hcf : cf' = cf) : complete m s = .next { s with
      regs := s.regs.write .w8 .eax r,
      cc := s.cc.setImage (atBit cf 0 ||| atBit (parity8 r) 2 ||| atBit low 4 ||| atBit (r == 0#32) 6
        ||| atBit (msbW .w8 r) 7),
      pc := s.nextpc } := by
  subst hr hcf
  exact complete_ok hm

/-- The image has no bit outside the six flags (R57). -/
theorem image_and_flags (c : CC) : c.image &&& 0x8D5#32 = c.image := by
  rw [CC.image]
  generalize c.cf = b0
  generalize c.pf = b1
  generalize c.af = b2
  generalize c.zf = b3
  generalize c.sf = b4
  generalize c.of = b5
  revert b0 b1 b2 b3 b4 b5
  decide

/-- A mask on the image is its part in the six flags. -/
theorem image_and (c : CC) (m : W32) : c.image &&& m = c.image &&& (0x8D5#32 &&& m) := by
  rw [← BitVec.and_assoc, image_and_flags]

/-- The low byte of a 16-bit write of the accumulator. -/
theorem read_w8_write_w16 (g : Regs) (v : W32) : (g.write .w16 .eax v).read .w8 .eax = truncW .w8 v := by
  refine BitVec.eq_of_getLsbD_eq fun i _ => ?_
  have hread : (g.write .w16 .eax v).read .w8 .eax = truncW .w8 ((g.eax &&& 0xFFFF0000#32) ||| truncW .w16 v) := rfl
  rw [hread, getLsbD_truncW, getLsbD_truncW]
  by_cases hi : i < Width.w8.bits
  · have hmask : ∀ k, k < 8 → (0xFFFF0000#32 : W32).getLsbD k = false := by decide
    rw [BitVec.getLsbD_or, BitVec.getLsbD_and, hmask i hi, Bool.and_false, Bool.false_or, getLsbD_truncW,
      decide_eq_true (lt_trans hi (by decide) : i < Width.w16.bits), Bool.true_and]
  · rw [decide_eq_false hi, Bool.false_and, Bool.false_and]

theorem truncW_w8_w16 (v : W32) : truncW .w8 (truncW .w16 v) = truncW .w8 v := by
  apply BitVec.eq_of_toNat_eq
  rw [toNat_truncW, toNat_truncW, toNat_truncW]
  simp only [Width.bits]
  omega

theorem write_w16_truncW (g : Regs) (r : Reg) (v : W32) : g.write .w16 r (truncW .w16 v) = g.write .w16 r v := by
  show g.set r (_ ||| truncW .w16 (truncW .w16 v)) = g.set r (_ ||| truncW .w16 v)
  rw [truncW_truncW]

/-- AAA and AAS on AX and the two flags. -/
theorem complete_asciiAdjust (sub : Bool) (s : State) {ax' : W32}
    (hax : ax' = bif (decide (9 < (s.regs.read .w8 .eax).toNat % 16) || s.cc.af) then
      truncW .w16 (bif sub then s.regs.read .w16 .eax - 0x106#32 else s.regs.read .w16 .eax + 0x106#32)
      else s.regs.read .w16 .eax) :
    complete (asciiAdjust sub) s = .next { s with
      regs := (s.regs.write .w16 .eax ax').write .w8 .eax (truncW .w8 ax' &&& 0xF#32),
      cc := s.cc.setImage ((s.cc.image &&& 0x8C4#32)
        ||| atBit (decide (9 < (s.regs.read .w8 .eax).toNat % 16) || s.cc.af) 0
        ||| atBit (decide (9 < (s.regs.read .w8 .eax).toNat % 16) || s.cc.af) 4),
      pc := s.nextpc } := by
  have himage : ∀ b : Bool, (bif b then 0x11#32 else 0#32) = atBit b 0 ||| atBit b 4 := by decide
  refine complete_ok (u := ()) ?_
  rw [asciiAdjust, run_bind_get, lowDigit_eq, run_bind_writeReg, run_bind_upd, run_bind_updCc, run_advance]
  generalize (decide (9 < (s.regs.read .w8 .eax).toNat % 16) || s.cc.af) = n at hax
  generalize (bif sub then s.regs.read .w16 .eax - 0x106#32 else s.regs.read .w16 .eax + 0x106#32) = y at hax
  have hregs : (s.regs.write .w16 .eax (bif n then y else s.regs.read .w16 .eax)).write .w8 .eax
      ((s.regs.write .w16 .eax (bif n then y else s.regs.read .w16 .eax)).read .w8 .eax &&& 0xF#32)
        = (s.regs.write .w16 .eax ax').write .w8 .eax (truncW .w8 ax' &&& 0xF#32) := by
    subst hax
    cases n with
    | true => rw [cond_true, cond_true, write_w16_truncW, truncW_w8_w16, read_w8_write_w16]
    | false => rw [cond_false, cond_false, read_w8_write_w16]
  have hcc : s.cc.setImage ((s.cc.image &&& ~~~0x11#32) ||| (bif n then 0x11#32 else 0#32))
      = s.cc.setImage ((s.cc.image &&& 0x8C4#32) ||| atBit n 0 ||| atBit n 4) := by
    rw [image_and, himage, BitVec.or_assoc]
    rfl
  rw [← hregs, ← hcc]
  rfl

/-- Settles O38. -/
theorem decimalAdjustsComplete : Obligations.DecimalAdjustsComplete := by
  intro s base al ah ax low high daa das decimal ascii
  have hal : truncW .w8 al = al := truncW_read _ _ _
  have hlow : ((9#4).ult (al.extractLsb' 0 4) || s.cc.af) = low := by rw [lowDigit_eq]
  refine ⟨?_, ?_, ?_, ?_, fun hbase => ?_, rfl, rfl⟩
  · refine complete_decimal (m := decimalAdjust false) (s := s) (low := low) ?_ (decimalSteps_add hal low high) (Bool.or_comm _ _)
    rw [decimalAdjust, run_bind_get, ← hlow]
    rfl
  · refine complete_decimal (m := decimalAdjust true) (s := s) (low := low) ?_ (decimalSteps_sub hal low high) (Bool.or_comm _ _)
    rw [decimalAdjust, run_bind_get, ← hlow]
    rfl
  · exact complete_asciiAdjust false s rfl
  · exact complete_asciiAdjust true s rfl
  · apply complete_ok
    rw [asciiMul, beq_false_of_ne hbase]
    rfl

end Sys2Proof.Machine
end

section
/-! The flag control and miscellaneous instructions (R520 to R539), the near jumps (R440 to R453), the software
interrupts (R456 to R459), and the ports (R195 to R197). -/

namespace Sys2Proof.Machine

variable {α β : Type}

/-! ### Flag control and miscellaneous -/

theorem extract_low_eq (x : BitVec 64) : x.extractLsb' 0 32 = x.setWidth 32 := by
  apply BitVec.eq_of_toNat_eq
  rw [BitVec.extractLsb'_toNat, BitVec.toNat_setWidth, Nat.shiftRight_zero]

theorem extract_high_eq (x : BitVec 64) : x.extractLsb' 32 32 = (x >>> 32).setWidth 32 := by
  apply BitVec.eq_of_toNat_eq
  rw [BitVec.extractLsb'_toNat, BitVec.toNat_setWidth, BitVec.toNat_ushiftRight]

section
variable {s : State}

/-- A privileged rule at level 0 is what follows its check. -/
theorem complete_privileged_zero {m : M Unit} {t : State} (h : s.cpl = 0#2) (hm : m s = .ok () t) :
    complete (do privileged; m) s = .next t :=
  complete_ok ((run_bind_ok (privileged_of_zero h)).trans hm)

theorem complete_ioCheck_allowed {m : M Unit} {t : State} (h : s.iopl.ult s.cpl = false) (hm : m s = .ok () t) :
    complete (do ioCheck; m) s = .next t :=
  complete_ok ((run_bind_ok (ioCheck_of_allowed h)).trans hm)

/-- An instruction with one check. -/
theorem complete_check_passes {c : Bool} {e : Exc} {m : M Unit} {t : State} (hc : c = false) (hm : m s = .ok () t) :
    complete (do raiseIf c e; m) s = .next t := by
  subst hc
  exact complete_ok hm

theorem complete_check_raises {c : Bool} {e : Exc} {m : M Unit} (hc : c = true) :
    complete (do raiseIf c e; m) s = .next (takeException e s) := by
  subst hc
  exact complete_raise rfl

end

/-- Settles O53. -/
theorem flagAndMiscInstructionsComplete : Obligations.FlagAndMiscInstructionsComplete := by
  intro s e n rm on
  refine ⟨rfl, rfl, rfl, rfl, rfl, rfl, fun hio => ⟨complete_ioCheck_allowed hio rfl, complete_ioCheck_allowed hio rfl⟩,
    fun hc => ⟨complete_privileged_zero hc rfl, complete_privileged_zero hc rfl, complete_privileged_zero hc rfl,
      complete_privileged_zero hc rfl⟩, rfl, fun h => ?_, fun h1 h2 => ?_, fun h1 h2 => ?_, fun h => ?_, fun h => ?_,
    fun h1 h2 => ?_⟩
  · rw [← extract_low_eq, ← extract_high_eq]
    refine complete_check_passes ?_ rfl
    rcases h with h | h
    · rw [h, Bool.false_and]
    · rw [h, bne_self_eq_false, Bool.and_false]
  · refine complete_check_raises ?_
    rw [h1, Bool.true_and, bne_iff_ne.mpr h2]
  · exact complete_check_passes (Bool.or_eq_false_iff.mpr ⟨h1, h2⟩) rfl
  · exact complete_check_raises (Bool.or_eq_true_iff.mpr h)
  · exact complete_check_passes (Bool.and_eq_false_iff.mpr h) rfl
  · exact complete_check_raises (Bool.and_eq_true_iff.mpr ⟨h1, h2⟩)

/-! ### Near jumps -/

/-- The counted loops: the test of the count and of ZF in either order (R450 to R452). -/
theorem complete_countLoop (test : Bool → Bool) (d : W32) (s : State) : complete (countLoop test d) s = .next { s with
    regs := s.regs.write s.asz .ecx (truncW s.asz (s.regs.read s.asz .ecx - 1#32)),
    pc := bif test s.cc.zf && truncW s.asz (s.regs.read s.asz .ecx - 1#32) != 0#32 then truncW s.osz (s.nextpc + d)
      else s.nextpc } := by
  rw [Bool.and_comm]
  rfl

/-- Settles O48. -/
theorem branchesComplete : Obligations.BranchesComplete := by
  intro s s1 cc d8 dv rm l v holds f rel short near go count loop
  have hnear : exec (.jccRelv cc dv) s = .next (go (s.cc.cond cc) near) ∧ exec (.jmpRelv dv) s = .next (go true near) := by
    cases dv <;> exact ⟨rfl, rfl⟩
  refine ⟨fun hcond => ?_, rfl, hnear.1, rfl, hnear.2, rfl, complete_countLoop (fun _ => true) _ s,
    complete_countLoop (fun z => z) _ s, complete_countLoop (fun z => !z) _ s, fun hl hr => ?_⟩
  · have hholds : f.cond cc = holds := by
      simp only [List.mem_cons, Prod.mk.injEq, List.not_mem_nil, or_false] at hcond
      rcases hcond with ⟨rfl, rfl⟩ | ⟨rfl, rfl⟩ | ⟨rfl, rfl⟩ | ⟨rfl, rfl⟩ | ⟨rfl, rfl⟩ | ⟨rfl, rfl⟩ | ⟨rfl, rfl⟩
        | ⟨rfl, rfl⟩ | ⟨rfl, rfl⟩ | ⟨rfl, rfl⟩ | ⟨rfl, rfl⟩ | ⟨rfl, rfl⟩ | ⟨rfl, rfl⟩ | ⟨rfl, rfl⟩ | ⟨rfl, rfl⟩
        | ⟨rfl, rfl⟩ <;> rfl
    exact ⟨hholds, hholds ▸ rfl, hholds ▸ hnear.1⟩
  · exact ⟨complete_jump (run_bind_ok (readRm_of_locOf hl hr)), afterReads_of_readLoc hr⟩

/-! ### Software interrupts -/

/-- An access in memory, from a state that reads have left. -/
theorem readLoc_mem_of_walk {s t : State} (h : s.sameButWalk t) (w : Width) (seg : Sreg) (off : W32) :
    readLoc w (.mem seg off) t = accRead (s.lin seg off) w.bytes t := by
  rw [← h.lin seg off]
  rfl

/-- BOUND with both bounds read ends by its check. -/
theorem boundCheck_eq {s s1 s2 : State} {w : Width} {r : Reg} {rm : Rm} {seg : Sreg} {off lo hi : W32}
    (hl : s.locOf rm = some (.mem seg off)) (h1 : readLoc w (.mem seg off) s = .ok lo s1)
    (h2 : readLoc w (.mem seg (truncW s.asz (off + BitVec.ofNat 32 w.bytes))) s1 = .ok hi s2) :
    boundCheck w r rm s = (do
      raiseIf (decide (signedW w (s.regs.read w r) < signedW w lo) || decide (signedW w hi < signedW w (s.regs.read w r)))
        .br
      advance) s2 := by
  rw [readLoc_mem_of_walk (afterReads_of_readLoc h1).1] at h2
  have h1' : accRead (s.lin seg off) w.bytes s = .ok lo s1 := h1
  rw [boundCheck, run_bind_ok (locateMem_of_mem hl)]
  dsimp only
  rw [run_bind_get, run_bind_ok h1', State.linAt, State.reduce, run_bind_ok h2]

/-- Settles O50. -/
theorem softwareInterruptsComplete : Obligations.SoftwareInterruptsComplete := by
  intro s s1 s2 ib r rm seg off lo hi w index
  refine ⟨fun h => complete_ok (m := softInterrupt ib) h, fun h => complete_ok (m := softInterrupt 3#8) h,
    fun hof h => ?_, fun hof => ?_, fun hl h1 h2 => ?_⟩
  · refine complete_ok (m := bif s.cc.of then softInterrupt 4#8 else advance) (u := ()) ?_
    rw [run_cond, hof]
    exact h
  · refine complete_ok (m := bif s.cc.of then softInterrupt 4#8 else advance) (u := ()) ?_
    rw [run_cond, hof]
    rfl
  · have hreads := (afterReads_of_readLoc h1).trans (afterReads_of_readLoc h2)
    have hrun := boundCheck_eq (r := r) hl h1 h2
    refine ⟨hreads, fun hlo hhi => ?_, fun hout => ?_⟩
    · refine complete_advance (m := boundCheck w r rm) (s := s) (t := s2) ?_ hreads.nextpc
      rw [hrun, decide_eq_false (not_lt.mpr hlo), decide_eq_false (not_lt.mpr hhi)]
      rfl
    · refine complete_raise (m := boundCheck w r rm) (s := s) (t := s2) ?_
      rw [hrun, (Bool.or_eq_true_iff.mpr (hout.imp decide_eq_true decide_eq_true))]
      rfl

/-! ### Ports -/

section
variable {s s1 s2 s3 s4 : State} {port : W16} {v : W32}

/-- The platform alone answers a port: nothing else changes. -/
def State.onlyPlatform (s t : State) : Prop := t = { s with history := t.history, irqLine := t.irqLine }

theorem State.onlyPlatform.refl (s : State) : s.onlyPlatform s := rfl

theorem State.onlyPlatform.setPlatform {s t : State} (h : s.onlyPlatform t) (x : List PlatEvent) (b : Bool) :
    s.onlyPlatform (t.setPlatform x b) := by
  rw [State.onlyPlatform, h]
  rfl

theorem keeps_onlyPlatform_readByte (s : State) (port : W16) : Keeps s.onlyPlatform (portReadByte port) :=
  keeps_get_any fun _ => keeps_cond
    (fun _ => keeps_get_any fun _ => keeps_bind (keeps_upd fun _ h => h.setPlatform _ _) fun _ => keeps_pure _)
    fun _ => keeps_pure _

theorem keeps_onlyPlatform_writeByte (s : State) (port : W16) (v : W32) :
    Keeps s.onlyPlatform (portWriteByte port v) :=
  keeps_get_any fun _ => keeps_cond
    (fun _ => keeps_get_any fun _ => keeps_upd fun _ h => h.setPlatform _ _) fun _ => keeps_pure _

theorem keeps_onlyPlatform_portRead (s : State) (port : W16) (w : Width) : Keeps s.onlyPlatform (portRead port w) := by
  refine keeps_get_any fun _ => keeps_cond
    (fun _ => keeps_get_any fun _ => keeps_bind (keeps_upd fun _ h => h.setPlatform _ _) fun _ => keeps_pure _)
    fun _ => ?_
  have hb := keeps_onlyPlatform_readByte s
  cases w with
  | w8 => exact hb _
  | w16 => exact keeps_bind (hb _) fun _ => keeps_bind (hb _) fun _ => keeps_pure _
  | w32 =>
    exact keeps_bind (hb _) fun _ => keeps_bind (hb _) fun _ => keeps_bind (hb _) fun _ => keeps_bind (hb _) fun _ =>
      keeps_pure _

theorem keeps_onlyPlatform_portWrite (s : State) (port : W16) (w : Width) (v : W32) :
    Keeps s.onlyPlatform (portWrite port w v) := by
  refine keeps_get_any fun _ => keeps_cond
    (fun _ => keeps_get_any fun _ => keeps_upd fun _ h => h.setPlatform _ _) fun _ => ?_
  have hb := keeps_onlyPlatform_writeByte s
  cases w with
  | w8 => exact hb _ _
  | w16 => exact keeps_bind (hb _ _) fun _ => hb _ _
  | w32 => exact keeps_bind (hb _ _) fun _ => keeps_bind (hb _ _) fun _ => keeps_bind (hb _ _) fun _ => hb _ _

theorem onlyPlatform_of_portRead {w : Width} (h : portRead port w s = .ok v s1) : s.onlyPlatform s1 :=
  (keeps_onlyPlatform_portRead s port w).of_ok (State.onlyPlatform.refl s) h

theorem onlyPlatform_of_portWrite {w : Width} (h : portWrite port w v s = .ok () s1) : s.onlyPlatform s1 :=
  (keeps_onlyPlatform_portWrite s port w v).of_ok (State.onlyPlatform.refl s) h

theorem State.onlyPlatform.regs (h : s.onlyPlatform s1) : s1.regs = s.regs := by rw [h]
theorem State.onlyPlatform.nextpc (h : s.onlyPlatform s1) : s1.nextpc = s.nextpc := by rw [h]; rfl

/-! #### What a port answers -/

theorem contains_of_mem {xs : List (BitVec 10)} {x : BitVec 10} (h : x ∈ xs) : xs.contains x = true := by
  rw [List.contains_iff_mem]
  exact h

theorem contains_of_not_mem {xs : List (BitVec 10)} {x : BitVec 10} (h : x ∉ xs) : xs.contains x = false :=
  Bool.eq_false_iff.mpr fun hc => h (List.contains_iff_mem.mp hc)

theorem portRead_of_handler {w : Width} (h : portSlot port ∈ s.ports.reads w) : portRead port w s
    = .ok (truncW w (Config.portAnswer s.history port w)) (s.setPlatform (.portRead port w :: s.history)
        (Config.irqAfter (.portRead port w :: s.history))) := by
  rw [portRead.eq_def, run_bind_get, run_cond, contains_of_mem h]
  rfl

theorem portWrite_of_handler {w : Width} (h : portSlot port ∈ s.ports.writes w) : portWrite port w v s
    = .ok () (s.setPlatform (.portWrite port w (truncW w v) :: s.history)
        (Config.irqAfter (.portWrite port w (truncW w v) :: s.history))) := by
  rw [portWrite.eq_def, run_bind_get, run_cond, contains_of_mem h]
  rfl

/-- The byte reads that a read without a handler of its width is made of (R197). -/
def portReadBytes (port : W16) : Width → M W32
  | .w8 => portReadByte port
  | .w16 => do
    let b0 ← portReadByte port
    let b1 ← portReadByte (port + 1#16)
    pure (b0 ||| (b1 <<< 8))
  | .w32 => do
    let b0 ← portReadByte port
    let b1 ← portReadByte (port + 1#16)
    let b2 ← portReadByte (port + 2#16)
    let b3 ← portReadByte (port + 3#16)
    pure (b0 ||| (b1 <<< 8) ||| (b2 <<< 16) ||| (b3 <<< 24))

/-- The byte writes that a write without a handler of its width is made of (R197). -/
def portWriteBytes (port : W16) (v : W32) : Width → M Unit
  | .w8 => portWriteByte port v
  | .w16 => do
    portWriteByte port v
    portWriteByte (port + 1#16) (v >>> 8)
  | .w32 => do
    portWriteByte port v
    portWriteByte (port + 1#16) (v >>> 8)
    portWriteByte (port + 2#16) (v >>> 16)
    portWriteByte (port + 3#16) (v >>> 24)

theorem portRead_of_bytes {w : Width} (h : portSlot port ∉ s.ports.reads w) :
    portRead port w s = portReadBytes port w s := by
  rw [portRead.eq_def, run_bind_get, run_cond, contains_of_not_mem h, cond_false]
  cases w <;> rfl

theorem portWrite_of_bytes {w : Width} (h : portSlot port ∉ s.ports.writes w) :
    portWrite port w v s = portWriteBytes port v w s := by
  rw [portWrite.eq_def, run_bind_get, run_cond, contains_of_not_mem h, cond_false]
  cases w <;> rfl

/-- A byte access is the access of the byte's own port. -/
theorem portRead_w8 (port : W16) (s : State) : portRead port .w8 s = portReadByte port s := by
  rw [portRead.eq_def, run_bind_get, run_cond]
  cases hc : (s.ports.reads .w8).contains (portSlot port) with
  | true =>
    rw [cond_true, portReadByte, run_bind_get, run_cond]
    rw [show s.ports.r8.contains (portSlot port) = true from hc, cond_true]
  | false => rfl

theorem portWrite_w8 (port : W16) (v : W32) (s : State) : portWrite port .w8 v s = portWriteByte port v s := by
  rw [portWrite.eq_def, run_bind_get, run_cond]
  cases hc : (s.ports.writes .w8).contains (portSlot port) with
  | true =>
    rw [cond_true, portWriteByte, run_bind_get, run_cond]
    rw [show s.ports.w8.contains (portSlot port) = true from hc, cond_true]
  | false => rfl

theorem portReadByte_of_open (h : portSlot port ∉ s.ports.r8) : portReadByte port s = .ok 0xFF#32 s := by
  rw [portReadByte, run_bind_get, run_cond, contains_of_not_mem h]
  rfl

theorem portWriteByte_of_open (h : portSlot port ∉ s.ports.w8) : portWriteByte port v s = .ok () s := by
  rw [portWriteByte, run_bind_get, run_cond, contains_of_not_mem h]
  rfl

theorem complete_portIn {w : Width} (hio : s.iopl.ult s.cpl = false) (h : portRead port w s = .ok v s1) :
    complete (portIn w port) s = .next { s1 with regs := s.regs.write w .eax v, pc := s.nextpc } := by
  have hp := onlyPlatform_of_portRead h
  refine complete_reg ?_ hp.regs hp.nextpc
  rw [portIn, run_bind_ok (ioCheck_of_allowed hio), run_bind_ok h]

theorem complete_portOut {w : Width} (hio : s.iopl.ult s.cpl = false)
    (h : portWrite port w (s.regs.read w .eax) s = .ok () s1) :
    complete (portOut w port) s = .next { s1 with pc := s.nextpc } := by
  refine complete_advance ?_ (onlyPlatform_of_portWrite h).nextpc
  rw [portOut, run_bind_ok (ioCheck_of_allowed hio), run_bind_get, run_bind_ok h]

end

/-- Settles O52. -/
theorem portsComplete : Obligations.PortsComplete := by
  intro s s1 s2 s3 s4 ib w port i o v b0 b1 b2 b3 slot called
  have hslot : slot 0 = portSlot port := by
    show (port + 0#16).extractLsb' 0 10 = _
    rw [BitVec.add_zero]
    rfl
  rw [hslot]
  refine ⟨fun hio hform => ?_, portRead_of_handler, portWrite_of_handler, fun hno hopen => ?_, fun hno hopen => ?_,
    fun h0 h1 => ⟨fun hno => ?_, fun h2 h3 hno => ?_⟩, fun h0 h1 => ⟨fun hno => ?_, fun h2 h3 hno => ?_⟩⟩
  · have hexec : exec i s = complete (portIn w port) s ∧ exec o s = complete (portOut w port) s := by
      simp only [List.mem_cons, Prod.mk.injEq, List.not_mem_nil, or_false] at hform
      rcases hform with ⟨rfl, rfl, rfl, rfl⟩ | ⟨rfl, rfl, rfl, rfl⟩ | ⟨rfl, rfl, rfl, rfl⟩ | ⟨rfl, rfl, rfl, rfl⟩
      · exact ⟨rfl, rfl⟩
      · exact ⟨rfl, rfl⟩
      · exact ⟨rfl, rfl⟩
      · exact ⟨rfl, rfl⟩
    exact ⟨fun h => ⟨hexec.1.trans (complete_portIn hio h), onlyPlatform_of_portRead h⟩,
      fun h => ⟨hexec.2.trans (complete_portOut hio h), onlyPlatform_of_portWrite h⟩⟩
  · rw [portRead_of_bytes hno]
    have hbyte : ∀ k, k < w.bytes → portReadByte (port + BitVec.ofNat 16 k) s = .ok 0xFF#32 s := fun k hk =>
      portReadByte_of_open (hopen k hk)
    have hfirst : 0 < w.bytes → portReadByte port s = .ok 0xFF#32 s := fun h0 => by
      simpa only [BitVec.ofNat_eq_ofNat, BitVec.add_zero] using hbyte 0 h0
    cases w with
    | w8 => exact hfirst (by decide)
    | w16 =>
      dsimp only [portReadBytes]
      rw [run_bind_ok (hfirst (by decide)), run_bind_ok (hbyte 1 (by decide))]
      rfl
    | w32 =>
      dsimp only [portReadBytes]
      rw [run_bind_ok (hfirst (by decide)), run_bind_ok (hbyte 1 (by decide)), run_bind_ok (hbyte 2 (by decide)),
        run_bind_ok (hbyte 3 (by decide))]
      rfl
  · rw [portWrite_of_bytes hno]
    have hbyte : ∀ k x, k < w.bytes → portWriteByte (port + BitVec.ofNat 16 k) x s = .ok () s := fun k x hk =>
      portWriteByte_of_open (hopen k hk)
    have hfirst : 0 < w.bytes → portWriteByte port v s = .ok () s := fun h0 => by
      simpa only [BitVec.ofNat_eq_ofNat, BitVec.add_zero] using hbyte 0 v h0
    cases w with
    | w8 => exact hfirst (by decide)
    | w16 =>
      dsimp only [portWriteBytes]
      rw [run_bind_ok (hfirst (by decide))]
      exact hbyte 1 _ (by decide)
    | w32 =>
      dsimp only [portWriteBytes]
      rw [run_bind_ok (hfirst (by decide)), run_bind_ok (hbyte 1 _ (by decide)), run_bind_ok (hbyte 2 _ (by decide))]
      exact hbyte 3 _ (by decide)
  · rw [portRead_w8] at h0 h1
    rw [portRead_of_bytes hno]
    dsimp only [portReadBytes]
    rw [run_bind_ok h0, run_bind_ok h1]
    rfl
  · rw [portRead_w8] at h0 h1 h2 h3
    rw [portRead_of_bytes hno]
    dsimp only [portReadBytes]
    rw [run_bind_ok h0, run_bind_ok h1, run_bind_ok h2, run_bind_ok h3]
    rfl
  · rw [portWrite_w8] at h0 h1
    rw [portWrite_of_bytes hno]
    dsimp only [portWriteBytes]
    rw [run_bind_ok h0, h1]
  · rw [portWrite_w8] at h0 h1 h2 h3
    rw [portWrite_of_bytes hno]
    dsimp only [portWriteBytes]
    rw [run_bind_ok h0, run_bind_ok h1, run_bind_ok h2, h3]

end Sys2Proof.Machine
end

section
/-! The shifts and rotations of an operand (R400), the double shifts (R408, R409), and the bit instructions (R410 to
R416). -/

namespace Sys2Proof.Machine

variable {α β : Type}

/-! ### Shifts and rotations -/

theorem shiftCount_eq (raw : W32) : shiftCount raw = raw.toNat % 32 := by
  rw [shiftCount, BitVec.toNat_and]
  exact Nat.and_two_pow_sub_one_eq_mod _ 5

/-- A count that is 0, or a whole turn of a rotation through the carry, has no effect (R403, R404, R408). -/
theorem shiftIdle_iff (k : ShiftRow) (w : Width) (n : Nat) :
    shiftIdle k.op w n = true ↔ n = 0 ∨ (k = .rcl ∨ k = .rcr) ∧ n % (w.bits + 1) = 0 := by
  have hturn : n % (w.bits + 1) = 0 ↔ n = 0 ∨ n % (w.bits + 1) = 0 := by
    refine ⟨.inr, fun h => h.elim (fun h0 => ?_) id⟩
    rw [h0, Nat.zero_mod]
  cases k with
  | rcl | rcr => simpa [ShiftRow.op, shiftIdle, rotateCount] using hturn
  | rol | ror | shl | shr | sal | sar => simp [ShiftRow.op, shiftIdle]

/-- Every form is the rule of its operation, with its count. -/
theorem exec_shiftForm {k : ShiftRow} {s : State} {rm : Rm} {i : Instr} {w : Width} {raw : W32}
    (h : ShiftForm k s rm i w raw) :
    ∃ count, exec i s = complete (shiftRm k.op w rm count) s ∧ Yields count s raw := by
  cases h with
  | rm8Imm8 ib => exact ⟨_, by cases k <;> rfl, yields_pure s _⟩
  | rmvImm8 ib => exact ⟨_, by cases k <;> rfl, yields_pure s _⟩
  | rm8One => exact ⟨_, by cases k <;> rfl, yields_pure s _⟩
  | rmvOne => exact ⟨_, by cases k <;> rfl, yields_pure s _⟩
  | rm8Cl => exact ⟨_, by cases k <;> rfl, yields_readReg s .w8 .ecx⟩
  | rmvCl => exact ⟨_, by cases k <;> rfl, yields_readReg s .w8 .ecx⟩

section
variable {s s1 s2 : State} {rm : Rm} {l : Loc} {w : Width} {h : Held} {op : ShiftOp} {count : M W32} {raw : W32}

theorem complete_shiftRm_idle (hl : s.locOf rm = some l) (hr : readLocW w l s = .ok h s1) (hc : Yields count s raw)
    (hidle : shiftIdle op w (raw.toNat % 32) = true) (hw : writeBack w l h h.val s1 = .ok () s2) :
    complete (shiftRm op w rm count) s = .next { s2 with pc := s.nextpc } := by
  have hreads := afterReads_of_readLocW hr
  refine complete_advance ?_ (hreads.data.trans (sameButData_of_writeBack hw)).nextpc
  rw [shiftRm, run_bind_ok (locate_of_locOf hl), run_bind_ok hr, run_bind_ok (hc s1 hreads), run_bind_get, run_cond,
    shiftCount_eq, hidle, cond_true, run_bind_ok hw]

theorem complete_shiftRm (hl : s.locOf rm = some l) (hr : readLocW w l s = .ok h s1) (hc : Yields count s raw)
    (hidle : shiftIdle op w (raw.toNat % 32) = false)
    (hw : writeBack w l h (shiftResult op w s.cc.cf h.val (raw.toNat % 32)) s1 = .ok () s2) :
    complete (shiftRm op w rm count) s
      = .next { s2 with cc := shiftFlags op w s.cc h.val (raw.toNat % 32), pc := s.nextpc } := by
  have hreads := afterReads_of_readLocW hr
  have hdata := hreads.data.trans (sameButData_of_writeBack hw)
  refine complete_flags (f := fun c => shiftFlags op w c h.val (raw.toNat % 32)) ?_ (by rw [hdata.cc]) hdata.nextpc
  rw [shiftRm, run_bind_ok (locate_of_locOf hl), run_bind_ok hr, run_bind_ok (hc s1 hreads), run_bind_get, run_cond,
    shiftCount_eq, hidle, cond_false, hreads.cc, run_bind_ok hw]

end

/-- Settles O40. -/
theorem shiftsComplete : Obligations.ShiftsComplete := by
  intro k s s1 s2 rm i w raw l h hform hl hr x n idle
  obtain ⟨count, hexec, hcount⟩ := exec_shiftForm hform
  refine ⟨afterReads_of_readLocW hr, fun hidle hw => ?_, fun hidle => ?_⟩
  · exact ⟨hexec.trans (complete_shiftRm_idle hl hr hcount ((shiftIdle_iff k w n).mpr hidle) hw),
      storedBack_of_writeBack hr hw⟩
  · intro r hw
    have hno : shiftIdle k.op w n = false := Bool.eq_false_iff.mpr fun hi => hidle ((shiftIdle_iff k w n).mp hi)
    exact ⟨hexec.trans (complete_shiftRm hl hr hcount hno hw), storedBack_of_writeBack hr hw⟩

/-! ### Double shifts -/

/-- The flags of a double shift. -/
theorem flags_doubleImage (c : CC) (w : Width) (a r : W32) (cf : Bool) :
    (c.setImage (doubleImage w a r cf)).flags = flagsOf w r cf false (msbW w r ^^ msbW w a) := by
  have hbit : ∀ k, k < 32 → (doubleImage w a r cf).getLsbD k = ((cf && decide (k = 0)) || (parity8 r && decide (k = 2))
      || ((r == 0#32) && decide (k = 6)) || (msbW w r && decide (k = 7))
      || ((msbW w r ^^ msbW w a) && decide (k = 11))) := by
    intro k _
    simp only [doubleImage, BitVec.getLsbD_or, getLsbD_atBit _ (by decide : 0 < 32), getLsbD_atBit _ (by decide : 2 < 32),
      getLsbD_atBit _ (by decide : 6 < 32), getLsbD_atBit _ (by decide : 7 < 32), getLsbD_atBit _ (by decide : 11 < 32)]
  rw [flags_setImage]
  refine flags_ext ?_ ?_ ?_ ?_ ?_ ?_
  all_goals exact (hbit _ (by decide)).trans (by simp [flagsOf])

section
variable {a b : W32} {n : Nat}

/-- At width 32 the two operands stand side by side (R408, R409). -/
theorem getLsbD_double_w32 (left : Bool) (a b : W32) (h32 : n < 32) {k : Nat} (hk : k < 32) :
    (doubleResult left .w32 a b n).getLsbD k
      = bif left then (bif decide (n ≤ k) then a.getLsbD (k - n) else b.getLsbD (32 + k - n))
        else (bif decide (n + k < 32) then a.getLsbD (n + k) else b.getLsbD (n + k - 32)) := by
  cases left with
  | true =>
    show ((a <<< n) ||| (b >>> (32 - n))).getLsbD k = bif decide (n ≤ k) then _ else _
    rw [BitVec.getLsbD_or, BitVec.getLsbD_shiftLeft, BitVec.getLsbD_ushiftRight, decide_eq_true hk, Bool.true_and]
    by_cases hnk : n ≤ k
    · rw [decide_eq_false (Nat.not_lt.mpr hnk), decide_eq_true hnk, BitVec.getLsbD_of_ge b _ (by omega)]
      exact Bool.or_false _
    · rw [decide_eq_true (Nat.not_le.mp hnk), decide_eq_false hnk, show 32 - n + k = 32 + k - n by omega]
      rfl
  | false =>
    show ((a >>> n) ||| (b <<< (32 - n))).getLsbD k = bif decide (n + k < 32) then _ else _
    rw [BitVec.getLsbD_or, BitVec.getLsbD_shiftLeft, BitVec.getLsbD_ushiftRight, decide_eq_true hk, Bool.true_and]
    by_cases hnk : n + k < 32
    · rw [decide_eq_true (by omega : k < 32 - n), decide_eq_true hnk]
      exact Bool.or_false _
    · rw [decide_eq_false (by omega : ¬k < 32 - n), decide_eq_false hnk, BitVec.getLsbD_of_ge a _ (by omega),
        show k - (32 - n) = n + k - 32 by omega]
      rfl

/-- Bit k of the operand, the register and the operand again, 16 bits of each (R408, R409). -/
def tripleBit (a b : W32) (k : Nat) : Bool :=
  bif decide (k < 16) then a.getLsbD k else bif decide (k < 32) then b.getLsbD (k - 16) else a.getLsbD (k - 32)

theorem getLsbD_doubleTriple (a b : W32) {k : Nat} (hk : k < 48) : (doubleTriple a b).getLsbD k = tripleBit a b k := by
  rw [doubleTriple, BitVec.getLsbD_append, BitVec.getLsbD_append, tripleBit]
  by_cases h16 : k < 16
  · simp [h16]
  · by_cases h32 : k < 32
    · simp [h16, h32, show k - 16 < 16 by omega]
    · simp [h16, h32, show ¬k - 16 < 16 by omega, show k - 16 - 16 = k - 32 by omega, show k - 32 < 16 by omega]

/-- At width 16 the bits are those of the triple (R408, R409). -/
theorem getLsbD_double_w16 (left : Bool) (a b : W32) (h32 : n < 32) (k : Nat) :
    (doubleResult left .w16 a b n).getLsbD k
      = (decide (k < 16) && tripleBit a b (bif left then 32 - n + k else n + k)) := by
  have hcut : ∀ m, (truncW .w16 ((doubleTriple a b >>> m).setWidth 32)).getLsbD k
      = (decide (k < 16) && (doubleTriple a b).getLsbD (m + k)) := by
    intro m
    rw [getLsbD_truncW]
    by_cases hk : k < 16
    · rw [BitVec.getLsbD_setWidth, decide_eq_true (by omega : k < 32), Bool.true_and, BitVec.getLsbD_ushiftRight]
      rfl
    · rw [decide_eq_false (show ¬k < Width.w16.bits from hk), decide_eq_false hk, Bool.false_and, Bool.false_and]
  by_cases hk : k < 16
  · cases left with
    | true => exact (hcut (32 - n)).trans (by rw [getLsbD_doubleTriple a b (by omega), cond_true])
    | false => exact (hcut n).trans (by rw [getLsbD_doubleTriple a b (by omega), cond_false])
  · cases left with
    | true => exact (hcut (32 - n)).trans (by rw [decide_eq_false hk, Bool.false_and, Bool.false_and])
    | false => exact (hcut n).trans (by rw [decide_eq_false hk, Bool.false_and, Bool.false_and])

theorem doubleCarry_w32 (left : Bool) (a b : W32) (n : Nat) :
    doubleCarry left .w32 a b n = a.getLsbD (bif left then 32 - n else n - 1) := by cases left <;> rfl

theorem doubleCarry_w16 (left : Bool) (a b : W32) (hn : n ≠ 0) (h32 : n < 32) :
    doubleCarry left .w16 a b n = tripleBit a b (bif left then 48 - n else n - 1) := by
  cases left with
  | true => exact getLsbD_doubleTriple a b (by omega)
  | false => exact getLsbD_doubleTriple a b (by omega)

end

section
variable {s s1 s2 : State} {rm : Rm} {r : Reg} {l : Loc} {w : Width} {h : Held} {left : Bool} {count : M W32} {raw : W32}

theorem complete_doubleShift_zero (hl : s.locOf rm = some l) (hr : readLocW w l s = .ok h s1) (hc : Yields count s raw)
    (hn : raw.toNat % 32 = 0) (hw : writeBack w l h h.val s1 = .ok () s2) :
    complete (doubleShift left w rm r count) s = .next { s2 with pc := s.nextpc } := by
  have hreads := afterReads_of_readLocW hr
  refine complete_advance ?_ (hreads.data.trans (sameButData_of_writeBack hw)).nextpc
  rw [doubleShift, run_bind_ok (hc s (.refl s)), run_bind_ok (locate_of_locOf hl), run_bind_ok hr, run_bind_readReg,
    run_cond, shiftCount_eq, hn, beq_self_eq_true, cond_true, run_bind_ok hw]

theorem complete_doubleShift (hl : s.locOf rm = some l) (hr : readLocW w l s = .ok h s1) (hc : Yields count s raw)
    (hn : raw.toNat % 32 ≠ 0)
    (hw : writeBack w l h (doubleResult left w h.val (s.regs.read w r) (raw.toNat % 32)) s1 = .ok () s2) :
    complete (doubleShift left w rm r count) s = .next { s2 with
      cc := s.cc.setImage (doubleImage w h.val (doubleResult left w h.val (s.regs.read w r) (raw.toNat % 32))
        (doubleCarry left w h.val (s.regs.read w r) (raw.toNat % 32))),
      pc := s.nextpc } := by
  have hreads := afterReads_of_readLocW hr
  have hdata := hreads.data.trans (sameButData_of_writeBack hw)
  refine complete_flags (f := fun c => c.setImage (doubleImage w h.val
    (doubleResult left w h.val (s.regs.read w r) (raw.toNat % 32))
    (doubleCarry left w h.val (s.regs.read w r) (raw.toNat % 32)))) ?_ (by rw [hdata.cc]) hdata.nextpc
  rw [doubleShift, run_bind_ok (hc s (.refl s)), run_bind_ok (locate_of_locOf hl), run_bind_ok hr, run_bind_readReg,
    run_cond, shiftCount_eq, beq_false_of_ne hn, cond_false, hreads.regs, run_bind_ok hw]

end

/-- Settles O41. -/
theorem doubleShiftsComplete : Obligations.DoubleShiftsComplete := by
  intro s s1 s2 rm r i left raw h l ib hform hl hr a b n v c t
  have hexec : ∃ count, exec i s = complete (doubleShift left s.osz rm r count) s ∧ Yields count s raw := by
    simp only [List.mem_cons, Prod.mk.injEq, List.not_mem_nil, or_false] at hform
    rcases hform with ⟨rfl, rfl, rfl⟩ | ⟨rfl, rfl, rfl⟩ | ⟨rfl, rfl, rfl⟩ | ⟨rfl, rfl, rfl⟩
    · exact ⟨_, rfl, yields_pure s _⟩
    · exact ⟨_, rfl, yields_readReg s .w8 .ecx⟩
    · exact ⟨_, rfl, yields_pure s _⟩
    · exact ⟨_, rfl, yields_readReg s .w8 .ecx⟩
  obtain ⟨count, hi, hcount⟩ := hexec
  have hlt : n < 32 := Nat.mod_lt _ (by decide)
  refine ⟨afterReads_of_readLocW hr, fun hn hw => ?_, fun hn hw => ?_, fun hn hosz => ⟨fun k hk => ?_, ?_⟩,
    fun hn hosz => ⟨fun k => ?_, ?_⟩⟩
  · exact ⟨hi.trans (complete_doubleShift_zero hl hr hcount hn hw), storedBack_of_writeBack hr hw⟩
  · exact ⟨hi.trans (complete_doubleShift hl hr hcount hn hw), storedBack_of_writeBack hr hw⟩
  · show (doubleResult left s.osz a b n).getLsbD k = _
    rw [hosz, getLsbD_double_w32 left a b hlt hk]
  · refine (flags_doubleImage s.cc s.osz a v _).trans ?_
    rw [hosz, doubleCarry_w32]
  · show (doubleResult left s.osz a b n).getLsbD k = _
    rw [hosz, getLsbD_double_w16 left a b hlt k]
    rfl
  · refine (flags_doubleImage s.cc s.osz a v _).trans ?_
    rw [hosz, doubleCarry_w16 left a b hn hlt]
    rfl

/-! ### Bit instructions -/

/-- CF alone replaced, as an image. -/
theorem bitFlags_eq (c : CC) (b : Bool) : bitFlags c b = c.setImage ((c.image &&& 0x8D4#32) ||| atBit b 0) := by
  rw [bitFlags, image_and]
  rfl

theorem toInt_sextW (w : Width) (x : W32) : (sextW w x).toInt = signedW w x := by
  rw [sextW, signedW]
  exact BitVec.toInt_signExtend_of_le (width_bits_le w)

/-- The signed bit index selects the word by its quotient (R414). -/
theorem wordIndex_eq (w : Width) (b : W32) : (sextW w b).sshiftRight (widthLog2 w) * BitVec.ofNat 32 w.bytes
    = BitVec.ofInt 32 (signedW w b / w.bits * w.bytes) := by
  have hbits : (w.bits : Int) = 2 ^ widthLog2 w := by cases w <;> rfl
  have hk : (sextW w b).sshiftRight (widthLog2 w) = BitVec.ofInt 32 (signedW w b / w.bits) := by
    rw [← BitVec.ofInt_toInt (x := (sextW w b).sshiftRight (widthLog2 w)), BitVec.toInt_sshiftRight, toInt_sextW,
      Int.shiftRight_eq_div_pow, hbits]
    rfl
  rw [hk, BitVec.ofInt_mul, BitVec.ofInt_natCast]

section
variable {s : State} {rm : Rm}

theorem bitByImm_of_locOf {l : Loc} (w : Width) (ib : Byte) (hl : s.locOf rm = some l) :
    bitByImm w rm ib s = .ok (l, ib.toNat % w.bits) s := by
  rw [bitByImm, run_bind_ok (locate_of_locOf hl)]
  rfl

theorem bitByReg_of_reg {q : Reg} (w : Width) (r : Reg) (hl : s.locOf rm = some (.reg q)) :
    bitByReg w rm r s = .ok (.reg q, (s.regs.read w r).toNat % w.bits) s := by
  rw [bitByReg, run_bind_ok (locate_of_locOf hl)]
  rfl

theorem bitByReg_of_mem {seg : Sreg} {off : W32} (w : Width) (r : Reg) (hl : s.locOf rm = some (.mem seg off)) :
    bitByReg w rm r s = .ok (.mem seg (truncW s.asz (off
      + BitVec.ofInt 32 (signedW w (s.regs.read w r) / w.bits * w.bytes))), (s.regs.read w r).toNat % w.bits) s := by
  rw [bitByReg, run_bind_ok (locate_of_locOf hl), ← wordIndex_eq]
  rfl

end

section
variable {s s1 s2 : State} {w : Width} {p : Loc} {n : Nat} {place : M (Loc × Nat)}

theorem complete_bitTest {v : W32} (hp : place s = .ok (p, n) s) (hr : readLoc w p s = .ok v s1) :
    complete (bitTest w place) s = .next { s1 with
      cc := s.cc.setImage ((s.cc.image &&& 0x8D4#32) ||| atBit (v.getLsbD n) 0), pc := s.nextpc } := by
  have hreads := afterReads_of_readLoc hr
  rw [← bitFlags_eq]
  refine complete_flags (f := fun c => bitFlags c (v.getLsbD n)) ?_ (by rw [hreads.cc]) hreads.nextpc
  rw [bitTest, run_bind_ok hp]
  dsimp only
  rw [run_bind_ok hr]

theorem complete_bitModify {h : Held} {op : BitOp} (hp : place s = .ok (p, n) s) (hr : readLocW w p s = .ok h s1)
    (hw : writeBack w p h (bitResult op h.val n) s1 = .ok () s2) :
    complete (bitModify op w place) s = .next { s2 with
      cc := s.cc.setImage ((s.cc.image &&& 0x8D4#32) ||| atBit (h.val.getLsbD n) 0), pc := s.nextpc } := by
  have hdata := (afterReads_of_readLocW hr).data.trans (sameButData_of_writeBack hw)
  rw [← bitFlags_eq]
  refine complete_flags (f := fun c => bitFlags c (h.val.getLsbD n)) ?_ (by rw [hdata.cc]) hdata.nextpc
  rw [bitModify, run_bind_ok hp]
  dsimp only
  rw [run_bind_ok hr, run_bind_ok hw]

end

/-! #### Bit scans -/

theorem lowestFrom_eq {v : W32} {n : Nat} (hv : v.getLsbD n = true) : ∀ {k i : Nat}, i ≤ n → n ≤ i + k →
    (∀ j, i ≤ j → j < n → v.getLsbD j = false) → lowestFrom v k i = n
  | 0, i, hi, hn, _ => Nat.le_antisymm hi hn
  | k + 1, i, hi, hn, hbelow => by
    rw [lowestFrom]
    by_cases hin : i = n
    · rw [hin, hv, cond_true]
    · rw [hbelow i (le_refl i) (by omega), cond_false]
      exact lowestFrom_eq hv (by omega) (by omega) fun j hj => hbelow j (by omega)

theorem highestFrom_eq {v : W32} {n : Nat} (hv : v.getLsbD n = true) (habove : ∀ k, n < k → v.getLsbD k = false) :
    ∀ {k : Nat}, n ≤ k → highestFrom v k = n
  | 0, hn => (Nat.le_zero.mp hn).symm
  | k + 1, hn => by
    rw [highestFrom]
    by_cases hkn : n = k + 1
    · rw [← hkn, hv, cond_true]
    · rw [habove (k + 1) (by omega), cond_false]
      exact highestFrom_eq hv habove (by omega)

section
variable {s s1 : State} {w : Width} {r : Reg} {rm : Rm} {l : Loc} {v : W32} {pick : W32 → Nat}

theorem complete_bitScan_zero (hl : s.locOf rm = some l) (hr : readLoc w l s = .ok v s1) (hv : v = 0#32) :
    complete (bitScan pick w r rm) s
      = .next { s1 with cc := s.cc.setImage (s.cc.image ||| 0x40#32), pc := s.nextpc } := by
  have hreads := afterReads_of_readLoc hr
  refine complete_flags (f := fun c => c.setImage (c.image ||| 0x40#32)) ?_ (by rw [hreads.cc]) hreads.nextpc
  rw [bitScan, run_bind_ok (readRm_of_locOf hl hr), run_cond, hv, beq_self_eq_true, cond_true]

theorem complete_bitScan {n : Nat} (hl : s.locOf rm = some l) (hr : readLoc w l s = .ok v s1)
    (hn : v.getLsbD n = true) (hpick : pick v = n) : complete (bitScan pick w r rm) s = .next { s1 with
      regs := s.regs.write w r (BitVec.ofNat 32 n), cc := s.cc.setImage (s.cc.image &&& ~~~0x40#32),
      pc := s.nextpc } := by
  have hreads := afterReads_of_readLoc hr
  have hv : v ≠ 0#32 := fun h0 => by
    rw [h0, BitVec.getLsbD_zero] at hn
    cases hn
  refine complete_regs_flags (k := fun g => g.write w r (BitVec.ofNat 32 n))
    (f := fun c => c.setImage (c.image &&& ~~~0x40#32)) ?_ hreads.regs (by rw [hreads.cc]) hreads.nextpc
  rw [bitScan, run_bind_ok (readRm_of_locOf hl hr), run_cond, beq_false_of_ne hv, cond_false, hpick]
  rfl

end

/-- Settles O42. -/
theorem bitInstructionsComplete : Obligations.BitInstructionsComplete := by
  intro s s1 s2 rm r ib l v hl w b word flags
  have hword : bitByReg w rm r s = .ok (word, b.toNat % w.bits) s := by
    cases l with
    | reg q => exact bitByReg_of_reg w r hl
    | mem seg off => exact bitByReg_of_mem w r hl
  refine ⟨fun p n t bts btr btc hform => ?_, fun hr => ⟨afterReads_of_readLoc hr, fun hv i hi => ?_,
    fun n hn hbit => ⟨fun hbelow => ?_, fun habove => ?_⟩⟩⟩
  · have hplace : ∃ place : M (Loc × Nat), place s = .ok (p, n) s ∧ exec t s = complete (bitTest w place) s
        ∧ exec bts s = complete (bitModify .put w place) s ∧ exec btr s = complete (bitModify .clear w place) s
        ∧ exec btc s = complete (bitModify .flip w place) s := by
      simp only [List.mem_cons, Prod.mk.injEq, List.not_mem_nil, or_false] at hform
      rcases hform with ⟨rfl, rfl, rfl, rfl, rfl, rfl⟩ | ⟨rfl, rfl, rfl, rfl, rfl, rfl⟩
      · exact ⟨_, bitByImm_of_locOf w ib hl, rfl, rfl, rfl, rfl⟩
      · exact ⟨_, hword, rfl, rfl, rfl, rfl⟩
    obtain ⟨place, hp, ht, hput, hclear, hflip⟩ := hplace
    refine ⟨fun hr => ⟨ht.trans (complete_bitTest hp hr), afterReads_of_readLoc hr⟩, fun h hr hv i x hi hw => ?_⟩
    subst hv
    refine ⟨?_, afterReads_of_readLocW hr, storedBack_of_writeBack hr hw⟩
    simp only [List.mem_cons, Prod.mk.injEq, List.not_mem_nil, or_false] at hi
    rcases hi with ⟨rfl, rfl⟩ | ⟨rfl, rfl⟩ | ⟨rfl, rfl⟩
    · exact hput.trans (complete_bitModify hp hr hw)
    · exact hclear.trans (complete_bitModify hp hr hw)
    · exact hflip.trans (complete_bitModify hp hr hw)
  · simp only [List.mem_cons, List.not_mem_nil, or_false] at hi
    rcases hi with rfl | rfl
    · exact complete_bitScan_zero hl hr hv
    · exact complete_bitScan_zero hl hr hv
  · exact complete_bitScan hl hr hbit (lowestFrom_eq hbit (Nat.zero_le n) (by omega) fun j _ hj => hbelow j hj)
  · exact complete_bitScan hl hr hbit (highestFrom_eq hbit habove (by omega))

end Sys2Proof.Machine
end

section
/-! The moves to and from memory (R301 to R315, R325, R326), and the address of each form (R231 to R239). -/

namespace Sys2Proof.Machine

variable {α β : Type}

/-! ### Storing moves -/

section
variable {s s1 : State} {rm : Rm} {l : Loc} {w : Width} {v : W32}

theorem complete_moveTo {src : M W32} (hl : s.locOf rm = some l) (hsrc : Yields src s v)
    (hw : writeLoc w l v s = .ok () s1) : complete (moveTo w rm src) s = .next { s1 with pc := s.nextpc } := by
  refine complete_advance ?_ (sameButData_of_writeLoc hw).nextpc
  rw [moveTo, run_bind_ok (hsrc s (.refl s)), run_bind_ok (writeRm_of_locOf hl hw)]

theorem complete_condSet {c : Cond} (hl : s.locOf rm = some l)
    (hw : writeLoc .w8 l (bif s.cc.cond c then 1#32 else 0#32) s = .ok () s1) :
    complete (condSet c rm) s = .next { s1 with pc := s.nextpc } := by
  refine complete_advance ?_ (sameButData_of_writeLoc hw).nextpc
  have hbit : atBit (s.cc.cond c) 0 = bif s.cc.cond c then 1#32 else 0#32 := by cases s.cc.cond c <;> rfl
  rw [condSet, run_bind_get, hbit, run_bind_ok (writeRm_of_locOf hl hw)]

theorem complete_storeMoffs {ia : ImmV}
    (hw : writeLoc w (.mem (s.dec.segOvr.getD .ds) ia.val) (s.regs.read w .eax) s = .ok () s1) :
    complete (storeMoffs w ia) s = .next { s1 with pc := s.nextpc } := by
  refine complete_advance ?_ (sameButData_of_writeLoc hw).nextpc
  exact run_bind_ok (m := accWrite (s.lin (s.eseg .ds) ia.val) w.bytes (s.regs.read w .eax)) hw

end

/-- Settles O43. -/
theorem storingMovesComplete : Obligations.StoringMovesComplete := by
  intro s s1 rm r ib iv ia cc n l i w v hw hform
  refine ⟨?_, stored_of_writeLoc hw⟩
  rcases hform with ⟨hl, hform⟩ | ⟨rfl, hform⟩
  · simp only [List.mem_cons, Prod.mk.injEq, List.not_mem_nil, or_false] at hform
    rcases hform with ⟨rfl, rfl, rfl⟩ | ⟨rfl, rfl, rfl⟩ | ⟨rfl, rfl, rfl⟩ | ⟨rfl, rfl, rfl⟩ | ⟨rfl, rfl, rfl⟩
    · exact complete_moveTo hl (yields_readReg s .w8 r) hw
    · exact complete_moveTo hl (yields_readReg s s.osz r) hw
    · exact complete_moveTo hl (yields_pure s _) hw
    · exact complete_moveTo hl (yields_pure s _) hw
    · exact complete_condSet hl hw
  · simp only [List.mem_cons, Prod.mk.injEq, List.not_mem_nil, or_false] at hform
    rcases hform with ⟨rfl, rfl, rfl⟩ | ⟨rfl, rfl, rfl⟩
    · exact complete_storeMoffs hw
    · exact complete_storeMoffs hw

/-! ### Loading moves -/

section
variable {s s1 : State} {rm : Rm} {r : Reg} {l : Loc} {w : Width} {v : W32}

theorem complete_moveFrom {wd : Width} {conv : W32 → W32} (hl : s.locOf rm = some l) (hr : readLoc w l s = .ok v s1) :
    complete (moveFrom wd r w rm conv) s
      = .next { s1 with regs := s.regs.write wd r (conv v), pc := s.nextpc } := by
  have hreads := afterReads_of_readLoc hr
  refine complete_reg ?_ hreads.regs hreads.nextpc
  rw [moveFrom, run_bind_ok (readRm_of_locOf hl hr)]

theorem complete_loadMoffs {ia : ImmV} (hr : readLoc w (.mem (s.dec.segOvr.getD .ds) ia.val) s = .ok v s1) :
    complete (loadMoffs w ia) s = .next { s1 with regs := s.regs.write w .eax v, pc := s.nextpc } := by
  have hreads := afterReads_of_readLoc hr
  refine complete_reg ?_ hreads.regs hreads.nextpc
  exact run_bind_ok (m := accRead (s.lin (s.eseg .ds) ia.val) w.bytes) hr

theorem complete_translateByte
    (hr : readLoc .w8 (.mem (s.dec.segOvr.getD .ds) (truncW s.asz (s.regs.ebx + s.regs.read .w8 .eax))) s = .ok v s1) :
    complete translateByte s = .next { s1 with regs := s.regs.write .w8 .eax v, pc := s.nextpc } := by
  have hreads := afterReads_of_readLoc hr
  refine complete_reg ?_ hreads.regs hreads.nextpc
  exact run_bind_ok (m := accRead (s.lin (s.eseg .ds) (s.reduce (s.regs.ebx + s.regs.read .w8 .eax))) 1) hr

theorem complete_condMove {c : Cond} (hl : s.locOf rm = some l) (hr : readLoc w l s = .ok v s1) :
    complete (condMove w c r rm) s
      = .next { s1 with regs := bif s.cc.cond c then s.regs.write w r v else s.regs, pc := s.nextpc } := by
  have hreads := afterReads_of_readLoc hr
  refine complete_ok (u := ()) ?_
  rw [condMove, run_bind_ok (readRm_of_locOf hl hr), run_bind_upd]
  have hcond : s1.cc.cond c = s.cc.cond c := by rw [hreads.cc]
  rw [hcond, ← hreads.regs, ← hreads.nextpc]
  cases s.cc.cond c <;> rfl

end

/-- BSWAP by shifts and masks (R315). -/
theorem swapBytes_eq (y : W32) : swapBytes y
    = (y <<< 24) ||| ((y &&& 0xFF00#32) <<< 8) ||| ((y >>> 8) &&& 0xFF00#32) ||| (y >>> 24) := by
  refine BitVec.eq_of_getLsbD_eq fun i hi => ?_
  rw [swapBytes, BitVec.getLsbD_append, BitVec.getLsbD_append, BitVec.getLsbD_append]
  interval_cases i <;> simp

/-! ### Addresses -/

section
variable {g : Regs} {seg : Sreg} {x y : W32}

theorem dispVal16_eq {d : Disp 16} (h : DispVal d y) : dispVal16 d = y := by cases h <;> rfl

theorem dispVal32_eq {d : Disp 32} (h : DispVal d y) : dispVal32 d = y := by
  cases h with
  | none | d8 => rfl
  | dn v => exact (BitVec.setWidth_eq v).symm

theorem base16_eq {b : Base16}
    (h : (b, seg, x) ∈ [(.bxsi, .ds, g.ebx + g.esi), (.bxdi, .ds, g.ebx + g.edi), (.bpsi, .ss, g.ebp + g.esi),
      (.bpdi, .ss, g.ebp + g.edi), (.si, .ds, g.esi), (.di, .ds, g.edi), (.bp, .ss, g.ebp), (.bx, .ds, g.ebx)]) :
    base16Val g b = x ∧ base16Seg b = seg := by
  simp only [List.mem_cons, Prod.mk.injEq, List.not_mem_nil, or_false] at h
  rcases h with ⟨rfl, rfl, rfl⟩ | ⟨rfl, rfl, rfl⟩ | ⟨rfl, rfl, rfl⟩ | ⟨rfl, rfl, rfl⟩ | ⟨rfl, rfl, rfl⟩
    | ⟨rfl, rfl, rfl⟩ | ⟨rfl, rfl, rfl⟩ | ⟨rfl, rfl, rfl⟩ <;> exact ⟨rfl, rfl⟩

theorem base32_eq {b : Reg}
    (h : (b, seg, x) ∈ [(.eax, .ds, g.eax), (.ecx, .ds, g.ecx), (.edx, .ds, g.edx), (.ebx, .ds, g.ebx),
      (.esp, .ss, g.esp), (.ebp, .ss, g.ebp), (.esi, .ds, g.esi), (.edi, .ds, g.edi)]) :
    g.get b = x ∧ base32Seg b = seg := by
  simp only [List.mem_cons, Prod.mk.injEq, List.not_mem_nil, or_false] at h
  rcases h with ⟨rfl, rfl, rfl⟩ | ⟨rfl, rfl, rfl⟩ | ⟨rfl, rfl, rfl⟩ | ⟨rfl, rfl, rfl⟩ | ⟨rfl, rfl, rfl⟩
    | ⟨rfl, rfl, rfl⟩ | ⟨rfl, rfl, rfl⟩ | ⟨rfl, rfl, rfl⟩ <;> exact ⟨rfl, rfl⟩

/-- The scaled index; the number of ESP is no index (R232). -/
theorem sibIndex_eq {index : Reg} {k : W32} (scale : BitVec 2)
    (h : (index, k) ∈ [(.eax, g.eax), (.ecx, g.ecx), (.edx, g.edx), (.ebx, g.ebx), (.esp, 0#32), (.ebp, g.ebp),
      (.esi, g.esi), (.edi, g.edi)]) : sibIndex g scale index = k <<< scale.toNat := by
  simp only [List.mem_cons, Prod.mk.injEq, List.not_mem_nil, or_false] at h
  rcases h with ⟨rfl, rfl⟩ | ⟨rfl, rfl⟩ | ⟨rfl, rfl⟩ | ⟨rfl, rfl⟩ | ⟨rfl, rfl⟩ | ⟨rfl, rfl⟩ | ⟨rfl, rfl⟩ | ⟨rfl, rfl⟩
  case inr.inr.inr.inr.inl => exact (BitVec.zero_shiftLeft _).symm
  all_goals rfl

/-- The rows of R231 to R233 are the effective address and the default segment. -/
theorem effAddr_of_addressed {rm : Rm} {off : W32} (h : Addressed g rm seg off) : effAddr g rm = some (off, seg) := by
  cases h with
  | abs16 d => rfl
  | abs32 d => rfl
  | ind16 b d seg x y hb hd =>
    obtain ⟨hx, hseg⟩ := base16_eq hb
    rw [effAddr, hx, hseg, dispVal16_eq hd, truncW_eq_and .w16]
    rfl
  | ind32 b d seg x y hb hd =>
    have hb' : g.get b = x ∧ base32Seg b = seg := by
      refine base32_eq ?_
      simp only [List.mem_cons, Prod.mk.injEq, List.not_mem_nil, or_false] at hb ⊢
      rcases hb with hb | hb | hb | hb | hb | hb | hb
      iterate 4 simp only [hb, true_and, and_true, true_or, or_true]
      all_goals simp only [hb, true_and, and_true, true_or, or_true]
    rw [effAddr, hb'.1, hb'.2, dispVal32_eq hd]
  | sib scale index b d seg k x y hk hb hd =>
    obtain ⟨hx, hseg⟩ := base32_eq hb
    rw [effAddr, hx, hseg, sibIndex_eq scale hk, dispVal32_eq hd]
  | sibAbs scale index d k hk => rw [effAddr, sibIndex_eq scale hk]

theorem locOf_of_addressed {s : State} {rm : Rm} {off : W32} (h : Addressed s.regs rm seg off) :
    s.locOf rm = some (.mem (s.dec.segOvr.getD seg) off) := by
  have heff := effAddr_of_addressed h
  cases rm with
  | reg r => cases h
  | abs16 | ind16 | abs32 | ind32 | sib | sibAbs | cut | absent =>
    rw [State.locOf, heff]
    · rfl
    · exact nofun

end

/-- Settles O44. -/
theorem loadingMovesComplete : Obligations.LoadingMovesComplete := by
  intro s s1 rm r q ia cc l i w wd v x sg off y
  refine ⟨?_, fun hr => ⟨fun hform => ⟨?_, afterReads_of_readLoc hr⟩, fun hl hw => ?_⟩, rfl, fun _ haddr => ?_⟩
  · rw [← swapBytes_eq]
    rfl
  · rcases hform with ⟨hl, hform⟩ | ⟨rfl, hform⟩ | ⟨rfl, hform⟩
    · simp only [List.mem_cons, Prod.mk.injEq, List.not_mem_nil, or_false] at hform
      rcases hform with ⟨rfl, rfl, rfl, rfl, rfl⟩ | ⟨rfl, rfl, rfl, rfl, rfl⟩ | ⟨rfl, rfl, rfl, rfl, rfl⟩
        | ⟨rfl, rfl, rfl, rfl, rfl⟩ | ⟨rfl, rfl, rfl, rfl, rfl⟩ | ⟨rfl, rfl, rfl, rfl, rfl⟩
      iterate 6 exact complete_moveFrom hl hr
    · simp only [List.mem_cons, Prod.mk.injEq, List.not_mem_nil, or_false] at hform
      rcases hform with ⟨rfl, rfl, rfl, rfl, rfl⟩ | ⟨rfl, rfl, rfl, rfl, rfl⟩
      · exact complete_loadMoffs hr
      · exact complete_loadMoffs hr
    · simp only [Prod.mk.injEq] at hform
      obtain ⟨rfl, rfl, rfl, rfl, rfl⟩ := hform
      exact complete_translateByte hr
  · subst hw
    exact ⟨complete_condMove hl hr, afterReads_of_readLoc hr⟩
  · have hl := locOf_of_addressed haddr
    refine ⟨hl, complete_writeReg_advance (loadEffAddr_of_mem s.osz r hl), fun hr => ?_⟩
    have hr' : readLoc s.osz (.mem (s.dec.segOvr.getD sg) off) s = .ok v s1 := hr
    exact ⟨complete_moveFrom (conv := id) hl hr', afterReads_of_readLoc hr'⟩

end Sys2Proof.Machine
end

section
/-! The stack (R316 to R324, R446 to R449, R454, R455, R527, R530, R563, R564) and what a selector load leaves
(R560). -/

namespace Sys2Proof.Machine

variable {α β : Type}

/-! ### Sequences of accesses -/

section
variable {s t u : State}

theorem Touch.left_of_run {a : Touch} (h : a.run s t) : a.left s t := by
  cases a with
  | read w l v => exact afterReads_of_readLoc h
  | write w l v => exact stored_of_writeLoc h

theorem frames_of_accesses {xs : List Touch} : ∀ {s t : State}, accesses xs s t → frames xs s t := by
  induction xs with
  | nil => exact id
  | cons a rest ih => exact fun ⟨u, hrun, hrest⟩ => ⟨u, hrun, Touch.left_of_run hrun, ih hrest⟩

theorem accesses_append {xs ys : List Touch} : ∀ {s t : State},
    accesses (xs ++ ys) s t ↔ ∃ u, accesses xs s u ∧ accesses ys u t := by
  induction xs with
  | nil => exact ⟨fun h => ⟨_, rfl, h⟩, fun ⟨u, hu, h⟩ => by subst hu; exact h⟩
  | cons a rest ih =>
    intro s t
    constructor
    · rintro ⟨u, hrun, hrest⟩
      obtain ⟨v, h1, h2⟩ := ih.mp hrest
      exact ⟨v, ⟨u, hrun, h1⟩, h2⟩
    · rintro ⟨v, ⟨u, hrun, h1⟩, h2⟩
      exact ⟨u, hrun, ih.mpr ⟨v, h1, h2⟩⟩

theorem sameButWalk_of_onStack {w : Width} {items : List (W32 × W32)} : ∀ {s t : State},
    accesses (onStack w items) s t → s.sameButWalk t := by
  induction items with
  | nil => exact fun h => by cases h; exact .refl _
  | cons p rest ih => exact fun ⟨u, hrun, hrest⟩ => (sameButWalk_of_writeLoc_mem hrun).trans (ih hrest)

theorem afterReads_of_offStack {w : Width} {items : List (W32 × W32)} : ∀ {s t : State},
    accesses (offStack w items) s t → s.afterReads t := by
  induction items with
  | nil => exact fun h => by cases h; exact .refl _
  | cons p rest ih => exact fun ⟨u, hrun, hrest⟩ => (afterReads_of_readLoc hrun).trans (ih hrest)

end

/-! ### The stack pointer -/

section
variable {s t : State}

theorem State.sameButWalk.espAt (h : s.sameButWalk t) (v : W32) : t.espAt v = s.espAt v := by
  rw [State.espAt, h.regs, h.stackMask]; rfl

theorem State.sameButWalk.below (h : s.sameButWalk t) (w : Width) (k : Nat) : t.below w k = s.below w k := by
  rw [State.below, h.regs, h.stackMask]; rfl

theorem State.sameButWalk.stackLin (h : s.sameButWalk t) (off : W32) : t.stackLin off = s.stackLin off := by
  rw [State.stackLin, h.lin, h.stackMask]; rfl

theorem and_mask_mask (v m : W32) : (v &&& m) &&& m = v &&& m := by rw [BitVec.and_assoc, BitVec.and_self]

/-- The bits outside the stack mask are not asked for. -/
theorem espAt_masked (s : State) (v : W32) : s.espAt (v &&& s.stackMask) = s.espAt v := by
  rw [State.espAt, and_mask_mask]; rfl

theorem setReg_esp_masked (h : s.sameButWalk t) (v : W32) :
    t.setReg .w32 .esp (maskedInto s.stackMask s.regs.esp v) = { t with regs := s.espAt v } := by
  rw [State.espAt, ← h.regs]; rfl

theorem below_one (s : State) (w : Width) : s.below w 1 = (s.regs.esp - BitVec.ofNat 32 w.bytes) &&& s.stackMask := by
  rw [State.below, Nat.one_mul]

theorem above_zero (s : State) (w : Width) : s.above w 0 = s.regs.esp &&& s.stackMask := by
  rw [State.above, Nat.zero_mul, BitVec.add_zero]

theorem sub_items_succ (p : W32) (w : Width) (k : Nat) :
    p - BitVec.ofNat 32 (k * w.bytes) - BitVec.ofNat 32 w.bytes = p - BitVec.ofNat 32 ((k + 1) * w.bytes) := by
  rw [Nat.succ_mul, BitVec.ofNat_add, BitVec.sub_sub]

theorem add_items_succ (p : W32) (w : Width) (k : Nat) :
    p + BitVec.ofNat 32 (k * w.bytes) + BitVec.ofNat 32 w.bytes = p + BitVec.ofNat 32 ((k + 1) * w.bytes) := by
  rw [Nat.succ_mul, BitVec.ofNat_add, BitVec.add_assoc]

theorem espAt_above_one (s : State) (w : Width) : s.espAt (s.above w 1) = s.espAt (s.regs.esp + BitVec.ofNat 32 w.bytes) := by
  rw [State.above, espAt_masked, Nat.one_mul]

end

/-! ### Pushes -/

section
variable {s s1 t u : State} {w : Width} {v : W32}

theorem run_push (h : writeLoc w (.mem .ss (s.below w 1)) v s = .ok () s1) :
    push w v s = .ok () { s1 with regs := s.espAt (s.below w 1) } := by
  have hsame := sameButWalk_of_writeLoc_mem h
  rw [below_one] at h ⊢
  have hacc : accWrite (s.lin .ss ((s.regs.esp - BitVec.ofNat 32 w.bytes) &&& s.stackMask)) w.bytes v s = .ok () s1 := h
  rw [← setReg_esp_masked hsame, push, run_bind_get]
  exact run_bind_ok hacc

/-- A push that reads of operands come before. -/
theorem run_push_after (hreads : s.afterReads t) (h : writeLoc w (.mem .ss (s.below w 1)) v t = .ok () s1) :
    push w v t = .ok () { s1 with regs := s.espAt (s.below w 1) } := by
  rw [← hreads.1.below] at h
  rw [run_push h, hreads.1.below, hreads.1.espAt]

theorem complete_push {m : M Unit} (hm : m s = (do push w v; advance) t) (hreads : s.afterReads t)
    (h : writeLoc w (.mem .ss (s.below w 1)) v t = .ok () s1) :
    complete m s = .next { s1 with regs := s.espAt (s.below w 1), pc := s.nextpc } := by
  refine complete_advance (t := { s1 with regs := s.espAt (s.below w 1) }) ?_ ?_
  · rw [hm, run_bind_ok (run_push_after hreads h)]
  · exact (hreads.1.trans (sameButWalk_of_writeLoc_mem h)).nextpc

/-- The items of PUSHA from the k-th one on. -/
def pushItems (s : State) (w : Width) : List Reg → Nat → List (W32 × W32)
  | [], _ => []
  | r :: rs, k => (s.below w k, s.regs.read w r) :: pushItems s w rs (k + 1)

theorem run_pushRegs (s : State) (w : Width) (rs : List Reg) : ∀ (k : Nat) (u t : State), s.sameButWalk u →
    accesses (onStack w (pushItems s w rs k)) u t →
    pushRegs w rs (s.regs.esp - BitVec.ofNat 32 (k * w.bytes)) u = .ok () t := by
  induction rs with
  | nil => exact fun k u t _ h => by cases h; rfl
  | cons r rs ih =>
    rintro k u t hu ⟨u1, hrun, hrest⟩
    rw [pushRegs, run_bind_get, hu.stackLin, hu.regs, sub_items_succ]
    refine (run_bind_ok (a := ()) ?_).trans (ih (k + 1) u1 t (hu.trans (sameButWalk_of_writeLoc_mem hrun)) hrest)
    rw [State.stackLin, ← hu.lin]
    exact hrun

theorem complete_pushAll (h : accesses (onStack w (pushItems s w pushaOrder 1)) s s1) :
    complete (pushAll w) s = .next { s1 with regs := s.espAt (s.below w 8), pc := s.nextpc } := by
  have hsame := sameButWalk_of_onStack h
  refine complete_advance (t := { s1 with regs := s.espAt (s.below w 8) }) ?_ hsame.nextpc
  have hrun := run_pushRegs s w pushaOrder 1 s s1 (.refl s) h
  rw [Nat.one_mul] at hrun
  rw [pushAll, run_bind_get, run_bind_ok hrun, run_bind_upd, setReg_esp_masked hsame, State.below, espAt_masked]

end

/-- Settles O46. -/
theorem pushesComplete : Obligations.PushesComplete := by
  intro s s1 s2 r rm ib iv l i v w g slot
  refine ⟨rfl, fun hw hform => ⟨?_, stored_of_writeLoc hw⟩, fun hl hr hw => ?_, fun items hitems h => ?_⟩
  · simp only [List.mem_cons, Prod.mk.injEq, List.not_mem_nil, or_false] at hform
    rcases hform with ⟨rfl, rfl⟩ | ⟨rfl, rfl⟩ | ⟨rfl, rfl⟩ | ⟨rfl, rfl⟩ | ⟨rfl, rfl⟩ | ⟨rfl, rfl⟩ | ⟨rfl, rfl⟩
      | ⟨rfl, rfl⟩ | ⟨rfl, rfl⟩ | ⟨rfl, rfl⟩
    iterate 10 exact complete_push rfl (.refl s) hw
  · have hreads := afterReads_of_readLoc hr
    exact ⟨complete_push (run_bind_ok (readRm_of_locOf hl hr)) hreads hw, hreads, stored_of_writeLoc hw⟩
  · subst hitems
    exact ⟨complete_pushAll h, frames_of_accesses h⟩

/-! ### What a selector load leaves -/

/-- The rule, where it completes, changes only the segment register and what the marking of its descriptor may
touch. -/
def LoadsOnly (n : Sreg) (m : M α) : Prop := ∀ s a t, m s = .ok a t → s.onlySegment n t

section
variable {n : Sreg} {s t u : State}

theorem onlySegment_of_stored (h : t = { s with tlb := t.tlb, tlbList := t.tlbList, mem := t.mem }) :
    s.onlySegment n t := by
  have hset : s.segs.set n (s.segs.get n) = s.segs := by cases n <;> rfl
  rw [State.onlySegment, h, hset]

theorem onlySegment_trans (h1 : s.onlySegment n t) (h2 : t.onlySegment n u) : s.onlySegment n u := by
  have hset : ∀ (g : Segs) (x y : SegReg), (g.set n x).set n y = g.set n y := by
    intro g x y; cases n <;> rfl
  rw [State.onlySegment] at *
  rw [h2, h1, hset]
  cases n <;> rfl

theorem onlySegment_of_setSegReg (n : Sreg) (x : SegReg) (s : State) : s.onlySegment n (s.setSegReg n x) := by
  cases n <;> rfl

theorem loadsOnly_bind {m : M α} {f : α → M β} (hm : LoadsOnly n m) (hf : ∀ a, LoadsOnly n (f a)) :
    LoadsOnly n (m >>= f) := by
  intro s b t h
  obtain ⟨a, u, h1, h2⟩ := bind_ok_iff.mp h
  exact onlySegment_trans (hm s a u h1) (hf a u b t h2)

theorem loadsOnly_reading {m : M α} (hm : Reading m) : LoadsOnly n m := fun _ _ _ h =>
  onlySegment_of_stored (hm.of_ok h).eq

theorem loadsOnly_get {f : State → M β} (hf : ∀ s, LoadsOnly n (f s)) : LoadsOnly n ((get : M State) >>= f) :=
  fun s => hf s s

theorem loadsOnly_cond {c : Bool} {x y : M α} (hx : LoadsOnly n x) (hy : LoadsOnly n y) :
    LoadsOnly n (bif c then x else y) := by
  cases c
  · exact hy
  · exact hx

theorem reading_raiseIf (c : Bool) (e : Exc) : Reading (raiseIf c e) := reading_cond (reading_raise e) (reading_pure ())

theorem reading_descReadOr (sel : W16) (e : Exc) : Reading (descReadOr sel e) := by
  refine reading_bind (reading_descRead sel) fun d => ?_
  cases d with
  | some d => exact reading_pure d
  | none => exact reading_raise e

theorem stored_of_linWrite {la v : W32} {k : Nat} {user : Bool} (h : linWrite la k v user s = .ok () t) :
    t = { s with tlb := t.tlb, tlbList := t.tlbList, mem := t.mem } := by
  obtain ⟨as, u, hspan, _, ht⟩ := linWrite_ok_iff.mp h
  have hu := ((reading_translateSpan _ _ _ _).of_ok hspan).eq
  rw [ht, storeBytes_eq_setMem, hu]
  rfl

theorem loadsOnly_markAccessed (d : Desc) : LoadsOnly n (markAccessed d) := by
  refine loadsOnly_cond (fun s a t h => ?_) (loadsOnly_reading (reading_pure ()))
  exact onlySegment_of_stored (stored_of_linWrite h)

theorem loadsOnly_setSegFrom (sel : W16) (d : Desc) : LoadsOnly n (setSegFrom n sel d) := fun s a t h => by
  cases h
  exact onlySegment_of_setSegReg n _ s

theorem loadsOnly_setSeg (sel : W16) (b l r : W32) : LoadsOnly n (setSeg n sel b l r) := fun s a t h => by
  cases h
  exact onlySegment_of_setSegReg n _ s

theorem loadsOnly_raiseIf {c : Bool} {e : Exc} {m : Unit → M α} (h : LoadsOnly n (m ())) :
    LoadsOnly n (raiseIf c e >>= m) :=
  loadsOnly_bind (loadsOnly_reading (reading_raiseIf c e)) fun _ => h

theorem loadsOnly_loadSegData (n : Sreg) (sel : W16) : LoadsOnly n (loadSegData n sel) :=
  loadsOnly_cond (loadsOnly_setSeg _ _ _ _) <| loadsOnly_get fun _ =>
    loadsOnly_bind (loadsOnly_reading (reading_descReadOr _ _)) fun d =>
    loadsOnly_raiseIf <| loadsOnly_raiseIf <| loadsOnly_raiseIf <| loadsOnly_raiseIf <|
    loadsOnly_bind (loadsOnly_markAccessed d) fun _ => loadsOnly_setSegFrom sel d

theorem loadsOnly_loadSegStack (sel : W16) : LoadsOnly .ss (loadSegStack sel) :=
  loadsOnly_raiseIf <| loadsOnly_get fun _ =>
    loadsOnly_bind (loadsOnly_reading (reading_descReadOr _ _)) fun d =>
    loadsOnly_raiseIf <| loadsOnly_raiseIf <| loadsOnly_raiseIf <| loadsOnly_raiseIf <|
    loadsOnly_bind (loadsOnly_markAccessed d) fun _ => loadsOnly_setSegFrom sel d

theorem onlySegment_of_loadSeg {sel : W16} (h : loadSeg n sel s = .ok () t) : s.onlySegment n t := by
  rw [loadSeg, run_bind_get] at h
  by_cases hn : n = .ss
  · subst hn
    exact loadsOnly_cond (loadsOnly_setSeg _ _ _ _)
      (loadsOnly_cond (loadsOnly_loadSegStack sel) (loadsOnly_loadSegData .ss sel)) s () t h
  · rw [beq_false_of_ne hn] at h
    exact loadsOnly_cond (loadsOnly_setSeg _ _ _ _) (loadsOnly_loadSegData n sel) s () t h

theorem State.onlySegment.regs (h : s.onlySegment n t) : t.regs = s.regs := by rw [h]
theorem State.onlySegment.nextpc (h : s.onlySegment n t) : t.nextpc = s.nextpc := by rw [h]; rfl

end

/-! ### Pops -/

section
variable {s s1 s2 t u : State} {w : Width} {v : W32} {r : Reg} {rm : Rm}

theorem run_pop (h : readLoc w (.mem .ss (s.above w 0)) s = .ok v s1) :
    pop w s = .ok v { s1 with regs := s.espAt (s.above w 1) } := by
  have hreads := afterReads_of_readLoc h
  rw [above_zero] at h
  have hacc : accRead (s.stackLin s.regs.esp) w.bytes s = .ok v s1 := h
  rw [espAt_above_one, ← setReg_esp_masked hreads.1, pop, run_bind_get, run_bind_ok hacc, run_bind_upd]
  rfl

theorem complete_popReg (h : readLoc w (.mem .ss (s.above w 0)) s = .ok v s1) (r : Reg) :
    complete (popReg w r) s
      = .next { s1 with regs := (s.espAt (s.above w 1)).write w r v, pc := s.nextpc } := by
  refine complete_reg (t := { s1 with regs := s.espAt (s.above w 1) }) ?_ rfl (afterReads_of_readLoc h).nextpc
  rw [popReg, run_bind_ok (run_pop h)]

theorem locate_of_moved {g : Regs} {l : Loc} (h : State.locOf { s with regs := g } rm = some l) :
    ∃ l', locate rm s = .ok l' s := by
  cases rm with
  | reg r => exact ⟨_, rfl⟩
  | cut | absent => cases h
  | abs16 | ind16 | abs32 | ind32 | sib | sibAbs => exact ⟨_, rfl⟩

theorem complete_popRm_reg (h : readLoc w (.mem .ss (s.above w 0)) s = .ok v s1) (q : Reg) :
    complete (popRm w (.reg q)) s
      = .next { s1 with regs := (s.espAt (s.above w 1)).write w q v, pc := s.nextpc } := by
  have hreads := afterReads_of_readLoc h
  rw [above_zero] at h
  have hacc : accRead (s.stackLin s.regs.esp) w.bytes s = .ok v s1 := h
  refine complete_reg (t := { s1 with regs := s.espAt (s.above w 1) }) ?_ rfl hreads.nextpc
  rw [espAt_above_one, ← setReg_esp_masked hreads.1]
  exact run_bind_ok hacc

theorem complete_popRm_mem {seg : Sreg} {off : W32} (h : readLoc w (.mem .ss (s.above w 0)) s = .ok v s1)
    (hl : State.locOf { s with regs := s.espAt (s.above w 1) } rm = some (.mem seg off))
    (hw : writeLoc w (.mem seg off) v s1 = .ok () s2) :
    complete (popRm w rm) s = .next { s2 with regs := s.espAt (s.above w 1), pc := s.nextpc } := by
  have hreads := afterReads_of_readLoc h
  have hsame := hreads.1.trans (sameButWalk_of_writeLoc_mem hw)
  obtain ⟨l, hlocate⟩ := locate_of_moved hl
  rw [above_zero] at h
  have hacc : accRead (s.stackLin s.regs.esp) w.bytes s = .ok v s1 := h
  refine complete_advance (t := { s2 with regs := s.espAt (s.above w 1) }) ?_ hsame.nextpc
  rw [espAt_above_one, ← setReg_esp_masked (.refl s)] at hl
  rw [popRm, run_bind_ok hlocate, run_bind_get, run_bind_ok hacc, hl]
  dsimp only
  rw [run_bind_ok hw, run_bind_upd, setReg_esp_masked hsame, espAt_above_one]

/-- A mask of system flags at the operand size (R530, R592). -/
theorem cutMask_eq (c : Bool) (m : W32) :
    (bif c then m &&& 0x0000FFFF#32 else m) = m &&& (bif c then 0x0000FFFF#32 else 0xFFFFFFFF#32) := by
  cases c with
  | true => rfl
  | false => exact (BitVec.and_allOnes (x := m)).symm

/-- The system flags that POPF takes (R530). -/
theorem popfMask_eq (s : State) : popfMask s
    = (bif s.cr0.getLsbD 0 && s.cpl != 0#2 then
        bif (s.eflagsSys.extractLsb' 12 2 : BitVec 2).ult s.cpl then 0x00244100#32 else 0x00244300#32
      else 0x00247300#32) &&& (bif s.osz == .w16 then 0x0000FFFF#32 else 0xFFFFFFFF#32) := by
  rw [popfMask, cutMask_eq, State.pe, State.iopl, bne]
  cases s.cr0.getLsbD 0 with
  | false => rfl
  | true => cases s.cpl == 0#2 <;> rfl

theorem complete_popFlags (h : readLoc w (.mem .ss (s.above w 0)) s = .ok v s1) (mask : W32) :
    complete (do
      let v ← pop w
      upd fun t => flagsWrite t v mask
      advance) s = .next { s1 with
        regs := s.espAt (s.above w 1), cc := s.cc.setImage v, df := v.getLsbD 10,
        eflagsSys := (s.eflagsSys &&& ~~~mask) ||| (v &&& mask), pc := s.nextpc } := by
  have hreads := afterReads_of_readLoc h
  refine complete_ok (u := ()) ?_
  rw [run_bind_ok (run_pop h), run_bind_upd, ← hreads.cc, ← hreads.1.eflagsSys, ← hreads.nextpc]
  rfl

theorem complete_popSelector {n : Sreg} (h : readLoc w (.mem .ss (s.above w 0)) s = .ok v s1)
    (hload : loadSeg n (v.setWidth 16) s1 = .ok () s2) :
    complete (popSelector w n) s = .next { s2 with regs := s.espAt (s.above w 1), pc := s.nextpc } := by
  have hreads := afterReads_of_readLoc h
  have honly := onlySegment_of_loadSeg hload
  rw [above_zero] at h
  have hacc : accRead (s.stackLin s.regs.esp) w.bytes s = .ok v s1 := h
  refine complete_advance (t := { s2 with regs := s.espAt (s.above w 1) }) ?_ (honly.nextpc.trans hreads.nextpc)
  rw [popSelector, run_bind_get, run_bind_ok hacc, run_bind_ok hload, run_bind_upd, espAt_above_one, State.espAt,
    ← hreads.regs, ← honly.regs]
  rfl

/-- The items from the k-th one above the stack pointer on, with their values. -/
def itemsAbove (s : State) (w : Width) : Nat → List W32 → List (W32 × W32)
  | _, [] => []
  | k, v :: vs => (s.above w k, v) :: itemsAbove s w (k + 1) vs

theorem run_popItems (s : State) (w : Width) (vs : List W32) : ∀ (k : Nat) (u t : State), s.sameButWalk u →
    accesses (offStack w (itemsAbove s w k vs)) u t →
    popItems w vs.length (s.regs.esp + BitVec.ofNat 32 (k * w.bytes)) u = .ok vs t := by
  induction vs with
  | nil => exact fun k u t _ h => by cases h; rfl
  | cons v vs ih =>
    rintro k u t hu ⟨u1, hrun, hrest⟩
    have hacc : accRead (s.stackLin (s.regs.esp + BitVec.ofNat 32 (k * w.bytes))) w.bytes u = .ok v u1 := by
      rw [State.stackLin, ← hu.lin]
      exact hrun
    have hreads := afterReads_of_readLoc (l := .mem .ss (s.above w k)) hrun
    rw [List.length_cons, popItems, run_bind_get, hu.stackLin, run_bind_ok hacc, add_items_succ,
      run_bind_ok (ih (k + 1) u1 t (hu.trans hreads.1) hrest)]
    rfl

/-- The registers that POPA leaves: the stacked stack pointer is discarded (R324). -/
theorem writeRegs_popa (g : Regs) (w : Width) (p edi esi ebp esp ebx edx ecx eax : W32) :
    (writeRegs w [.ebx, .edx, .ecx, .eax] [ebx, edx, ecx, eax]
        (writeRegs w [.edi, .esi, .ebp] [edi, esi, ebp, esp, ebx, edx, ecx, eax] g)).set .esp p
      = (((((((g.set .esp p).write w .edi edi).write w .esi esi).write w .ebp ebp).write w .ebx
          ebx).write w .edx edx).write w .ecx ecx).write w .eax eax := by
  cases w <;> rfl

theorem complete_popAll {edi esi ebp esp ebx edx ecx eax : W32}
    (h : accesses (offStack w (itemsAbove s w 0 [edi, esi, ebp, esp, ebx, edx, ecx, eax])) s s1) :
    complete (popAll w) s = .next { s1 with
      regs := (((((((s.espAt (s.above w 8)).write w .edi edi).write w .esi esi).write w .ebp ebp).write w .ebx
          ebx).write w .edx edx).write w .ecx ecx).write w .eax eax, pc := s.nextpc } := by
  have hreads := afterReads_of_offStack h
  have hrun : popItems w 8 (s.regs.esp + BitVec.ofNat 32 (0 * w.bytes)) s
      = .ok [edi, esi, ebp, esp, ebx, edx, ecx, eax] s1 := run_popItems s w _ 0 s s1 (.refl s) h
  rw [Nat.zero_mul, BitVec.add_zero] at hrun
  refine complete_ok (u := ()) ?_
  rw [State.above, espAt_masked, State.espAt, ← writeRegs_popa (esp := esp), popAll, run_bind_get, run_bind_ok hrun, run_bind_upd,
    run_bind_upd, run_bind_upd, ← hreads.regs, ← hreads.nextpc]
  rfl

end

/-- Settles O47. -/
theorem popsComplete : Obligations.PopsComplete := by
  intro s s1 s2 r rm v i n w moved mask
  refine ⟨fun hr => ⟨afterReads_of_readLoc hr, complete_popReg hr r, ?_, ?_, ?_, ?_⟩, ?_⟩
  · rintro q rfl
    exact complete_popRm_reg hr q
  · exact fun seg off hl hw => ⟨complete_popRm_mem hr hl hw, stored_of_writeLoc hw⟩
  · exact (complete_popFlags hr (popfMask s)).trans (by rw [popfMask_eq])
  · intro hform hload
    refine ⟨?_, onlySegment_of_loadSeg hload⟩
    simp only [List.mem_cons, Prod.mk.injEq, List.not_mem_nil, or_false] at hform
    rcases hform with ⟨rfl, rfl⟩ | ⟨rfl, rfl⟩ | ⟨rfl, rfl⟩ | ⟨rfl, rfl⟩ | ⟨rfl, rfl⟩
    iterate 5 exact complete_popSelector hr hload
  · exact fun edi esi ebp esp ebx edx ecx eax h => ⟨afterReads_of_offStack h, _, complete_popAll h, rfl, rfl⟩

end Sys2Proof.Machine
end

section
/-! The near calls and returns and the stack frames (R446 to R449, R454, R455). -/

namespace Sys2Proof.Machine

variable {α β : Type}

section
variable {s s1 s2 t u : State} {w : Width} {v : W32}

theorem complete_callNear {target : M W32} (ht : target s = .ok v t) (hreads : s.afterReads t)
    (h : writeLoc w (.mem .ss (s.below w 1)) s.nextpc t = .ok () s1) :
    complete (callNear w target) s = .next { s1 with regs := s.espAt (s.below w 1), pc := v } := by
  refine complete_jump (t := { s1 with regs := s.espAt (s.below w 1) }) ?_
  rw [callNear, run_bind_ok ht, run_bind_get, hreads.nextpc, run_bind_ok (run_push_after hreads h)]

theorem complete_retNear (h : readLoc w (.mem .ss (s.above w 0)) s = .ok v s1) (imm : W32) :
    complete (retNear w imm) s
      = .next { s1 with regs := s.espAt (s.regs.esp + BitVec.ofNat 32 w.bytes + imm), pc := v } := by
  have hreads := afterReads_of_readLoc h
  rw [above_zero] at h
  have hacc : accRead (s.stackLin s.regs.esp) w.bytes s = .ok v s1 := h
  refine complete_jump (t := { s1 with regs := s.espAt (s.regs.esp + BitVec.ofNat 32 w.bytes + imm) }) ?_
  rw [retNear, run_bind_get, run_bind_ok hacc, run_bind_upd, setReg_esp_masked hreads.1]

theorem complete_leaveFrame (h : readLoc w (.mem .ss (s.regs.ebp &&& s.stackMask)) s = .ok v s1) :
    complete (leaveFrame w) s
      = .next { s1 with regs := (s.espAt (s.regs.ebp + BitVec.ofNat 32 w.bytes)).write w .ebp v, pc := s.nextpc } := by
  have hreads := afterReads_of_readLoc h
  have hacc : accRead (s.stackLin s.regs.ebp) w.bytes s = .ok v s1 := h
  refine complete_reg (t := { s1 with regs := s.espAt (s.regs.ebp + BitVec.ofNat 32 w.bytes) }) ?_ rfl hreads.nextpc
  rw [leaveFrame, run_bind_get, run_bind_ok hacc, run_bind_upd, setReg_esp_masked hreads.1]

/-- The display copies of ENTER run as the accesses that the statement lists (R454). -/
theorem run_enterCopies (s : State) (w : Width) (vs : List W32) : ∀ (bp sp : W32) (u t : State), s.sameButWalk u →
    accesses (displayCopies w s.stackMask bp sp vs) u t →
    enterCopies w vs.length bp sp u = .ok (sp - BitVec.ofNat 32 (vs.length * w.bytes)) t ∧ s.sameButWalk t := by
  induction vs with
  | nil =>
    intro bp sp u t hu h
    cases h
    refine ⟨?_, hu⟩
    rw [List.length_nil, Nat.zero_mul, BitVec.sub_zero]
    rfl
  | cons v vs ih =>
    rintro bp sp u t hu ⟨u1, hread, u2, hwrite, hrest⟩
    have hu1 : s.sameButWalk u1 := hu.trans (afterReads_of_readLoc hread).1
    have hu2 : s.sameButWalk u2 := hu1.trans (sameButWalk_of_writeLoc_mem hwrite)
    have hr : accRead (u.stackLin (bp - BitVec.ofNat 32 w.bytes)) w.bytes u = .ok v u1 := by
      rw [State.stackLin, hu.stackMask]
      exact hread
    have hw : accWrite (u.stackLin (sp - BitVec.ofNat 32 w.bytes)) w.bytes v u1 = .ok () u2 := by
      rw [hu.stackLin, ← hu1.stackLin, State.stackLin, hu1.stackMask]
      exact hwrite
    obtain ⟨hcopies, hsame⟩ := ih _ _ u2 t hu2 hrest
    refine ⟨?_, hsame⟩
    rw [List.length_cons, enterCopies, run_bind_get, run_bind_ok hr, run_bind_ok hw, hcopies, Nat.succ_mul, BitVec.ofNat_add, BitVec.sub_sub, BitVec.add_comm]

/-- The state in which ENTER ends: the frame pointer and the stack pointer below the frame (R454). -/
def State.framed (s : State) (w : Width) (size sp : W32) (u : State) : State :=
  { u with
    regs := (s.regs.write w .ebp (s.below w 1)).set .esp
              ((((s.regs.write w .ebp (s.below w 1)).get .esp) &&& ~~~s.stackMask) ||| ((sp - size) &&& s.stackMask)),
    pc := s.nextpc }

/-- What ENTER does after the stores of the frame pointer and of its display (R454). -/
def enterEnd (s : State) (w : Width) (size sp : W32) : M Unit := do
  upd fun s' => s'.setReg w .ebp (s.below w 1)
  upd fun s' => s'.setReg .w32 .esp (maskedInto s.stackMask s.regs.esp (sp - size))
  advance

theorem run_enterEnd (hu : s.sameButWalk u) (size sp : W32) :
    enterEnd s w size sp u = .ok () (s.framed w size sp u) := by
  have hesp : (s.regs.write w .ebp (s.below w 1)).get .esp = s.regs.esp := by cases w <;> rfl
  rw [State.framed, hesp, enterEnd, ← hu.regs, ← hu.nextpc]
  rfl

theorem enterFrame_eq (hw : writeLoc w (.mem .ss (s.below w 1)) (s.regs.read w .ebp) s = .ok () s1) (size : W32)
    (lvl : Byte) : enterFrame w size lvl s = (do
      let sp ← bif lvl.toNat % 32 == 0 then pure (s.below w 1)
        else do
          let sp ← enterCopies w (lvl.toNat % 32 - 1) s.regs.ebp (s.below w 1)
          accWrite (s.stackLin (sp - BitVec.ofNat 32 w.bytes)) w.bytes (s.below w 1)
          pure (sp - BitVec.ofNat 32 w.bytes)
      enterEnd s w size sp) s1 := by
  have hacc : accWrite (s.stackLin (s.below w 1)) w.bytes (s.regs.read w .ebp) s = .ok () s1 := by
    rw [State.stackLin, State.below, and_mask_mask]
    exact hw
  rw [below_one] at hacc
  rw [enterFrame, run_bind_get]
  simp only [enterEnd, below_one]
  exact run_bind_ok hacc

theorem complete_enterFrame_flat (hw : writeLoc w (.mem .ss (s.below w 1)) (s.regs.read w .ebp) s = .ok () s1)
    (size : W32) {lvl : Byte} (hlvl : lvl.toNat % 32 = 0) :
    complete (enterFrame w size lvl) s = .next (s.framed w size (s.below w 1) s1) := by
  refine complete_ok (u := ()) ?_
  rw [enterFrame_eq hw, hlvl]
  exact run_enterEnd (sameButWalk_of_writeLoc_mem hw) _ _

theorem complete_enterFrame_nested {vs : List W32} (size : W32) {lvl : Byte} (hlvl : 0 < lvl.toNat % 32)
    (hlen : vs.length = lvl.toNat % 32 - 1)
    (h : accesses (.write w (.mem .ss (s.below w 1)) (s.regs.read w .ebp)
      :: (displayCopies w s.stackMask s.regs.ebp (s.below w 1) vs
        ++ [.write w (.mem .ss ((s.below w 1 - BitVec.ofNat 32 (lvl.toNat % 32 * w.bytes)) &&& s.stackMask))
              (s.below w 1)])) s t) :
    complete (enterFrame w size lvl) s
      = .next (s.framed w size (s.below w 1 - BitVec.ofNat 32 (lvl.toNat % 32 * w.bytes)) t) := by
  obtain ⟨s1, hw, hrest⟩ := h
  obtain ⟨s2, hcopies, s3, hlast, rfl⟩ := accesses_append.mp hrest
  have h1 : s.sameButWalk s1 := sameButWalk_of_writeLoc_mem hw
  obtain ⟨hrun, h2⟩ := run_enterCopies s w vs _ _ s1 s2 h1 hcopies
  have h3 : s.sameButWalk t := h2.trans (sameButWalk_of_writeLoc_mem hlast)
  have hsp : s.below w 1 - BitVec.ofNat 32 (vs.length * w.bytes) - BitVec.ofNat 32 w.bytes
      = s.below w 1 - BitVec.ofNat 32 (lvl.toNat % 32 * w.bytes) := by
    rw [sub_items_succ, hlen, Nat.sub_add_cancel hlvl]
  have hstore : accWrite (s.stackLin (s.below w 1 - BitVec.ofNat 32 (lvl.toNat % 32 * w.bytes))) w.bytes (s.below w 1) s2
      = .ok () t := by
    rw [← h2.stackLin, State.stackLin, h2.stackMask]
    exact hlast
  rw [hlen] at hrun
  rw [hlen] at hsp
  refine complete_ok (u := ()) ?_
  rw [enterFrame_eq hw, beq_false_of_ne (Nat.ne_of_gt hlvl), cond_false, run_bind_assoc, run_bind_ok hrun, hsp,
    run_bind_assoc, run_bind_ok hstore]
  exact run_enterEnd h3 _ _

end

/-- Settles O49. -/
theorem callsAndFramesComplete : Obligations.CallsAndFramesComplete := by
  intro s s1 s2 dv rm l v iw lvl w n rel slot frame framed
  refine ⟨fun hw => ⟨?_, stored_of_writeLoc hw⟩, fun hl hr hw => ?_, fun hr => ⟨?_, ?_, afterReads_of_readLoc hr⟩,
    fun hw hlvl => ⟨complete_enterFrame_flat hw _ hlvl, stored_of_writeLoc hw⟩, ?_,
    fun hr => ⟨complete_leaveFrame hr, afterReads_of_readLoc hr⟩⟩
  · refine (complete_callNear (target := pure (s.relTarget (relVal dv))) rfl (.refl s) hw).trans ?_
    cases dv <;> rfl
  · have hreads := afterReads_of_readLoc hr
    exact ⟨complete_callNear (readRm_of_locOf hl hr) hreads hw, hreads, stored_of_writeLoc hw⟩
  · refine (complete_retNear hr 0#32).trans ?_
    rw [BitVec.add_zero, ← espAt_above_one]
  · exact complete_retNear hr _
  · intro hlvl vs hlen sp all h
    exact ⟨complete_enterFrame_nested _ hlvl hlen h, frames_of_accesses h⟩

end Sys2Proof.Machine
end

section
/-! One element of a string instruction (R480 to R486, R504, R505), and the moves of segment registers (R561, R562,
R565). -/

namespace Sys2Proof.Machine

variable {α β : Type}

/-! ### The index registers -/

/-- The states agree on what the movement of an index register and the repetition go by. -/
structure State.sameIndex (s t : State) : Prop where
  regs : t.regs = s.regs
  df : t.df = s.df
  asz : t.asz = s.asz
  nextpc : t.nextpc = s.nextpc

section
variable {s t u : State} {w : Width}

theorem State.sameIndex.trans (h1 : s.sameIndex t) (h2 : t.sameIndex u) : s.sameIndex u :=
  ⟨h2.regs.trans h1.regs, h2.df.trans h1.df, h2.asz.trans h1.asz, h2.nextpc.trans h1.nextpc⟩

theorem State.sameButWalk.index (h : s.sameButWalk t) : s.sameIndex t :=
  ⟨h.regs, h.df, by rw [h]; rfl, h.nextpc⟩

theorem State.onlyPlatform.index (h : s.onlyPlatform t) : s.sameIndex t :=
  ⟨h.regs, by rw [h], by rw [h]; rfl, h.nextpc⟩

theorem State.sameIndex.setCc (h : s.sameIndex t) (c : CC) : s.sameIndex (t.setCc c) :=
  ⟨h.regs, h.df, h.asz, h.nextpc⟩

theorem asz_cases (s : State) : s.asz = .w16 ∨ s.asz = .w32 := by
  rw [State.asz]
  cases s.defaultSize32 ^^ s.dec.addrsizeOvr
  · exact .inl rfl
  · exact .inr rfl

theorem moved_eq (s : State) (w : Width) (r : Reg) :
    s.moved w r = s.regs.write s.asz r (s.regs.read s.asz r + s.strDelta w) := by
  rw [State.moved, State.strDelta]
  cases s.df with
  | false => rfl
  | true => rw [cond_true, cond_true, BitVec.zero_sub, ← BitVec.sub_eq_add_neg]

theorem strAdvance_eq (h : s.sameIndex t) (w : Width) (r : Reg) :
    t.strAdvance w r = { t with regs := s.moved w r } := by
  rw [moved_eq, State.strDelta, ← h.df, ← h.asz, ← h.regs]
  rfl

theorem strAdvance_strAdvance_eq (h : s.sameIndex t) (w : Width) :
    (t.strAdvance w .esi).strAdvance w .edi = { t with regs := s.movedBoth w } := by
  rw [strAdvance_eq h, State.strAdvance]
  have hasz : State.asz { t with regs := s.moved w .esi } = s.asz := h.asz
  have hdelta : State.strDelta { t with regs := s.moved w .esi } w = s.strDelta w := by
    rw [State.strDelta, State.strDelta, ← h.df]
  rw [hasz, hdelta, State.movedBoth, moved_eq, moved_eq]
  rcases asz_cases s with h16 | h32
  · rw [h16]; rfl
  · rw [h32]; rfl

/-- LODS writes the accumulator before its index register moves (R485). -/
theorem strAdvance_after_eax (h : s.sameIndex t) (v : W32) :
    (t.setReg w .eax v).strAdvance w .esi = { t with regs := (s.moved w .esi).write w .eax v } := by
  have hread : ∀ a, (s.regs.write w .eax v).read a .esi = s.regs.read a .esi := by
    intro a; cases w <;> cases a <;> rfl
  have hcomm : ∀ a x, (s.regs.write w .eax v).write a .esi x = (s.regs.write a .esi x).write w .eax v := by
    intro a x; cases w <;> cases a <;> rfl
  have hasz : (t.setReg w .eax v).asz = s.asz := h.asz
  have hdelta : (t.setReg w .eax v).strDelta w = s.strDelta w := by
    rw [State.strDelta, State.strDelta, ← h.df]; rfl
  have hregs : (t.setReg w .eax v).regs = s.regs.write w .eax v := by rw [← h.regs]; rfl
  rw [State.strAdvance, hasz, hdelta, hregs, hread, moved_eq, ← hcomm, State.setReg, hregs]
  rfl

end

/-! ### The elements -/

section
variable {s s1 s2 s3 t : State} {w : Width} {v x : W32} {e : M Unit} {b : Bool}

/-- An element that completes, repeated or not (R481). -/
theorem complete_repeated (hgo : s.dec.rep = none ∨ s.regs.read s.asz .ecx ≠ 0#32) (he : e s = .ok () t)
    (hp : t.nextpc = s.nextpc) : complete (repeated b e) s = .next (s.afterElement b t) := by
  cases hr : s.dec.rep with
  | none =>
    rw [State.afterElement, hr]
    refine complete_advance ?_ hp
    rw [repeated_of_none hr, run_bind_ok he]
  | some rp =>
    have hdone : ∀ c zf, repeatDone b rp c zf = (c == 0#32 || (b && (bif rp == .repe then !zf else zf))) := by
      intro c zf
      cases rp <;> rfl
    refine complete_ok (u := ()) ?_
    rw [repeated_of_some hr (hgo.resolve_left (by rw [hr]; exact nofun)), run_bind_ok he, run_bind_writeReg,
      run_bind_get, run_cond, hdone, State.afterElement, hr, ← hp]
    have hcc : (t.setReg s.asz .ecx (truncW s.asz (s.regs.read s.asz .ecx - 1#32))).cc = t.cc := rfl
    rw [hcc]
    dsimp only
    cases truncW s.asz (s.regs.read s.asz .ecx - 1#32) == 0#32
        || (b && (bif rp == .repe then !t.cc.zf else t.cc.zf)) with
    | true => rfl
    | false => rfl

theorem run_movsElem (hr : readLoc w (.mem (s.dec.segOvr.getD .ds) (s.regs.read s.asz .esi)) s = .ok v s1)
    (hw : writeLoc w (.mem .es (s.regs.read s.asz .edi)) v s1 = .ok () s2) :
    movsElem w s = .ok () { s2 with regs := s.movedBoth w } := by
  have hreads := afterReads_of_readLoc hr
  have hr' : accRead s.strSrc w.bytes s = .ok v s1 := hr
  have hw' : accWrite s.strDst w.bytes v s1 = .ok () s2 := by
    rw [State.strDst, ← hreads.1.lin]
    exact hw
  rw [← strAdvance_strAdvance_eq (hreads.1.trans (sameButWalk_of_writeLoc_mem hw)).index, movsElem, run_bind_get,
    run_bind_ok hr', run_bind_ok hw']
  rfl

theorem run_cmpsElem (hr : readLoc w (.mem (s.dec.segOvr.getD .ds) (s.regs.read s.asz .esi)) s = .ok v s1)
    (hx : readLoc w (.mem .es (s.regs.read s.asz .edi)) s1 = .ok x s2) :
    cmpsElem w s = .ok () { s2 with
      regs := s.movedBoth w, cc := s.cc.record .sub w (truncW w (v - x)) x } := by
  have hreads := afterReads_of_readLoc hr
  have hr' : accRead s.strSrc w.bytes s = .ok v s1 := hr
  have hx' : accRead s.strDst w.bytes s1 = .ok x s2 := by
    rw [State.strDst, ← hreads.1.lin]
    exact hx
  have hidx := (hreads.1.trans (afterReads_of_readLoc hx).1).index
  have hcc : s2.cc = s.cc := (hreads.trans (afterReads_of_readLoc hx)).cc
  rw [← hcc, cmpsElem, run_bind_get, run_bind_ok hr', run_bind_ok hx', run_bind_updCc]
  exact congrArg (EStateM.Result.ok ()) (strAdvance_strAdvance_eq (hidx.setCc _) w)

theorem run_stosElem (hw : writeLoc w (.mem .es (s.regs.read s.asz .edi)) (s.regs.read w .eax) s = .ok () s1) :
    stosElem w s = .ok () { s1 with regs := s.moved w .edi } := by
  have hw' : accWrite s.strDst w.bytes (s.regs.read w .eax) s = .ok () s1 := hw
  rw [← strAdvance_eq (sameButWalk_of_writeLoc_mem hw).index, stosElem, run_bind_get, run_bind_ok hw']
  rfl

theorem run_lodsElem (hr : readLoc w (.mem (s.dec.segOvr.getD .ds) (s.regs.read s.asz .esi)) s = .ok v s1) :
    lodsElem w s = .ok () { s1 with regs := (s.moved w .esi).write w .eax v } := by
  have hr' : accRead s.strSrc w.bytes s = .ok v s1 := hr
  rw [← strAdvance_after_eax (afterReads_of_readLoc hr).1.index, lodsElem, run_bind_get, run_bind_ok hr',
    run_bind_writeReg]
  rfl

theorem run_scasElem (hx : readLoc w (.mem .es (s.regs.read s.asz .edi)) s = .ok x s1) :
    scasElem w s = .ok () { s1 with
      regs := s.moved w .edi, cc := s.cc.record .sub w (truncW w (s.regs.read w .eax - x)) x } := by
  have hx' : accRead s.strDst w.bytes s = .ok x s1 := hx
  have hreads := afterReads_of_readLoc hx
  rw [← hreads.cc, scasElem, run_bind_get, run_bind_ok hx', run_bind_updCc]
  exact congrArg (EStateM.Result.ok ()) (strAdvance_eq (hreads.1.index.setCc _) w .edi)

theorem run_insElem {h : Held} (hio : s.iopl.ult s.cpl = false)
    (hspan : translateSpan (s.segs.es.base + s.regs.read s.asz .edi) w.bytes .write (s.cpl == 3#2) s = .ok h.places s1)
    (hport : portRead (s.regs.edx.setWidth 16) w s1 = .ok v s2)
    (hw : writeBack w (.mem .es (s.regs.read s.asz .edi)) h v s2 = .ok () s3) :
    insElem w s = .ok () { s3 with regs := s.moved w .edi } ∧ s.sameIndex s3 := by
  have hprobe : accProbe s.strDst w.bytes s = .ok h.places s1 := hspan
  have h1 : s.sameButWalk s1 := ((reading_translateSpan _ _ _ _).of_ok hspan).1
  have h2 := onlyPlatform_of_portRead hport
  have hidx : s.sameIndex s3 :=
    (h1.index.trans h2.index).trans (sameButWalk_of_ok (quiet_writeBack_mem w _ _ h v) hw).index
  have hlin : s2.lin .es (s.regs.read s.asz .edi) = s.strDst := by
    rw [State.strDst, ← h1.lin, h2]
    rfl
  have hw' : accWriteProbed s.strDst w.bytes h.places v s2 = .ok () s3 := hlin ▸ hw
  refine ⟨?_, hidx⟩
  rw [← strAdvance_eq hidx, insElem, run_bind_ok (ioCheck_of_allowed hio), run_bind_get, run_bind_ok hprobe,
    run_bind_ok hport, run_bind_ok hw']
  rfl

theorem run_outsElem (hio : s.iopl.ult s.cpl = false)
    (hr : readLoc w (.mem (s.dec.segOvr.getD .ds) (s.regs.read s.asz .esi)) s = .ok v s1)
    (hport : portWrite (s.regs.edx.setWidth 16) w v s1 = .ok () s2) :
    outsElem w s = .ok () { s2 with regs := s.moved w .esi } ∧ s.sameIndex s2 := by
  have hr' : accRead s.strSrc w.bytes s = .ok v s1 := hr
  have hidx := (afterReads_of_readLoc hr).1.index.trans (onlyPlatform_of_portWrite hport).index
  refine ⟨?_, hidx⟩
  rw [← strAdvance_eq hidx, outsElem, run_bind_ok (ioCheck_of_allowed hio), run_bind_get, run_bind_ok hr',
    run_bind_ok hport]
  rfl

theorem exec_string_of_one {i j k : Instr} {m : Width → M Unit} (hj : exec j s = complete (repeated b (m .w8)) s)
    (hk : exec k s = complete (repeated b (m s.osz)) s) (h : (i, w) ∈ [(j, .w8), (k, s.osz)]) :
    exec i s = complete (repeated b (m w)) s := by
  simp only [List.mem_cons, Prod.mk.injEq, List.not_mem_nil, or_false] at h
  rcases h with ⟨rfl, rfl⟩ | ⟨rfl, rfl⟩
  · exact hj
  · exact hk

end

/-- Settles O51. -/
theorem stringElementsComplete : Obligations.StringElementsComplete := by
  intro s s1 s2 s3 w i v x g src dst one
  refine ⟨fun hrep hcount hi => ?_, fun hgo => ⟨fun hone hr hw => ?_, fun hone hr hx => ?_, fun hone hw => ?_,
    fun hone hr => ?_, fun hone hx => ?_, fun hio => ⟨fun hone h hspan hport hw => ?_, fun hone hr hport => ?_⟩⟩⟩
  · simp only [List.mem_cons, List.not_mem_nil, or_false] at hi
    rcases hi with rfl | rfl | rfl | rfl | rfl | rfl | rfl | rfl | rfl | rfl | rfl | rfl | rfl | rfl
    iterate 14 exact complete_ok (repeated_of_zero hrep hcount)
  · have hreads := afterReads_of_readLoc hr
    refine ⟨?_, hreads, stored_of_writeLoc hw⟩
    rw [exec_string_of_one (m := movsElem) (b := false) rfl rfl hone]
    exact complete_repeated hgo (run_movsElem hr hw) (hreads.1.trans (sameButWalk_of_writeLoc_mem hw)).nextpc
  · have hreads := (afterReads_of_readLoc hr).trans (afterReads_of_readLoc hx)
    refine ⟨?_, hreads⟩
    rw [exec_string_of_one (m := cmpsElem) (b := true) rfl rfl hone]
    exact complete_repeated hgo (run_cmpsElem hr hx) hreads.nextpc
  · refine ⟨?_, stored_of_writeLoc hw⟩
    rw [exec_string_of_one (m := stosElem) (b := false) rfl rfl hone]
    exact complete_repeated hgo (run_stosElem hw) (sameButWalk_of_writeLoc_mem hw).nextpc
  · have hreads := afterReads_of_readLoc hr
    refine ⟨?_, hreads⟩
    rw [exec_string_of_one (m := lodsElem) (b := false) rfl rfl hone]
    exact complete_repeated hgo (run_lodsElem hr) hreads.nextpc
  · have hreads := afterReads_of_readLoc hx
    refine ⟨?_, hreads⟩
    rw [exec_string_of_one (m := scasElem) (b := true) rfl rfl hone]
    exact complete_repeated hgo (run_scasElem hx) hreads.nextpc
  · obtain ⟨hrun, hidx⟩ := run_insElem hio hspan hport hw
    refine ⟨?_, (reading_translateSpan _ _ _ _).of_ok hspan, onlyPlatform_of_portRead hport,
      storedBack_of_probed (fun _ _ _ => probed_of_span hspan) hw⟩
    rw [exec_string_of_one (m := insElem) (b := false) rfl rfl hone]
    exact complete_repeated hgo hrun hidx.nextpc
  · obtain ⟨hrun, hidx⟩ := run_outsElem hio hr hport
    refine ⟨?_, afterReads_of_readLoc hr, onlyPlatform_of_portWrite hport⟩
    rw [exec_string_of_one (m := outsElem) (b := false) rfl rfl hone]
    exact complete_repeated hgo hrun hidx.nextpc

/-! ### Moves of segment registers -/

section
variable {s s1 s2 s3 : State} {rm : Rm} {l : Loc} {w : Width} {v x : W32} {n : Sreg} {r : Reg}

theorem run_storeWord_reg {q : Reg} (hl : s.locOf rm = some (.reg q)) (w : Width) (v : W32) :
    storeWord w rm v s = .ok () (s.setReg w q v) := run_bind_ok (locate_of_locOf hl)

theorem run_storeWord_mem {seg : Sreg} {off : W32} (hl : s.locOf rm = some (.mem seg off))
    (hw : writeLoc .w16 (.mem seg off) v s = .ok () s1) (w : Width) : storeWord w rm v s = .ok () s1 :=
  (run_bind_ok (locate_of_locOf hl)).trans hw

theorem complete_storeSelector_reg {q : Reg} (hl : s.locOf rm = some (.reg q)) (w : Width) (n : Sreg) :
    complete (storeSelector w rm n) s
      = .next { s with regs := s.regs.write w q ((s.segs.get n).sel.setWidth 32), pc := s.nextpc } := by
  refine complete_ok (u := ()) ?_
  rw [storeSelector, run_bind_get, run_bind_ok (run_storeWord_reg hl _ _)]
  rfl

theorem complete_storeSelector_mem {seg : Sreg} {off : W32} (hl : s.locOf rm = some (.mem seg off))
    (hw : writeLoc .w16 (.mem seg off) ((s.segs.get n).sel.setWidth 32) s = .ok () s1) (w : Width) :
    complete (storeSelector w rm n) s = .next { s1 with pc := s.nextpc } := by
  refine complete_advance ?_ (sameButWalk_of_writeLoc_mem hw).nextpc
  rw [storeSelector, run_bind_get, run_bind_ok (run_storeWord_mem hl hw _)]

theorem complete_loadSelector (hl : s.locOf rm = some l) (hr : readLoc .w16 l s = .ok v s1)
    (hload : loadSeg n (v.setWidth 16) s1 = .ok () s2) :
    complete (do
      let v ← readRm .w16 rm
      loadSeg n (v.setWidth 16)
      advance) s = .next { s2 with pc := s.nextpc } := by
  refine complete_advance ?_ ((onlySegment_of_loadSeg hload).nextpc.trans (afterReads_of_readLoc hr).nextpc)
  rw [run_bind_ok (readRm_of_locOf hl hr), run_bind_ok hload]

/-- A far pointer in memory: the offset, then the selector above it (R560). -/
theorem run_readFarPointer {seg : Sreg} {off : W32} (hl : s.locOf rm = some (.mem seg off))
    (hr : readLoc w (.mem seg off) s = .ok v s1)
    (hx : readLoc .w16 (.mem seg (truncW s.asz (off + BitVec.ofNat 32 w.bytes))) s1 = .ok x s2) :
    readFarPointer w rm s = .ok (x.setWidth 16, v) s2 := by
  have hr' : accRead (s.lin seg off) w.bytes s = .ok v s1 := hr
  have hx' : accRead (s.linAt seg (off + BitVec.ofNat 32 w.bytes)) 2 s1 = .ok x s2 := by
    rw [State.linAt, ← (afterReads_of_readLoc hr).1.lin]
    exact hx
  rw [readFarPointer, run_bind_ok (locateMem_of_mem hl)]
  dsimp only
  rw [run_bind_get, run_bind_ok hr', run_bind_ok hx']
  rfl

theorem complete_loadFarPointer {p : W16 × W32} (hp : readFarPointer w rm s = .ok p s2) (hreads : s.afterReads s2)
    (hload : loadSeg n p.1 s2 = .ok () s3) (r : Reg) :
    complete (loadFarPointer w n r rm) s = .next { s3 with regs := s.regs.write w r p.2, pc := s.nextpc } := by
  have honly := onlySegment_of_loadSeg hload
  refine complete_reg ?_ (honly.regs.trans hreads.regs) (honly.nextpc.trans hreads.nextpc)
  rw [loadFarPointer, run_bind_ok hp, run_bind_ok hload]

theorem eq_cut_of_isCut (h : rm.isCut = true) : ∃ a b, rm = .cut a b := by
  cases rm with
  | cut a b => exact ⟨a, b, rfl⟩
  | reg | abs16 | ind16 | abs32 | ind32 | sib | sibAbs | absent => cases h

end

/-- Settles O54. -/
theorem segmentMovesComplete : Obligations.SegmentMovesComplete := by
  intro s s1 s2 s3 rm r n m l v x i sel
  refine ⟨fun hn => ?_, fun hn hl hr hload => ⟨?_, afterReads_of_readLoc hr, onlySegment_of_loadSeg hload⟩,
    fun seg off hl hi hr hx hload => ?_, fun hwf hi => ?_⟩
  · have hnum : Sreg.ofNum n = m := by
      simp only [List.mem_cons, Prod.mk.injEq, List.not_mem_nil, or_false] at hn
      rcases hn with ⟨rfl, rfl⟩ | ⟨rfl, rfl⟩ | ⟨rfl, rfl⟩ | ⟨rfl, rfl⟩ | ⟨rfl, rfl⟩ | ⟨rfl, rfl⟩
      iterate 6 rfl
    subst hnum
    exact ⟨fun q hl => complete_storeSelector_reg hl _ _,
      fun seg off hl hw => ⟨complete_storeSelector_mem hl hw _, stored_of_writeLoc hw⟩⟩
  · have hnum : Sreg.ofNum n = m := by
      simp only [List.mem_cons, Prod.mk.injEq, List.not_mem_nil, or_false] at hn
      rcases hn with ⟨rfl, rfl⟩ | ⟨rfl, rfl⟩ | ⟨rfl, rfl⟩ | ⟨rfl, rfl⟩ | ⟨rfl, rfl⟩
      iterate 5 rfl
    subst hnum
    exact complete_loadSelector hl hr hload
  · have hreads := (afterReads_of_readLoc hr).trans (afterReads_of_readLoc hx)
    have hp := run_readFarPointer hl hr hx
    refine ⟨?_, hreads, onlySegment_of_loadSeg hload⟩
    simp only [List.mem_cons, Prod.mk.injEq, List.not_mem_nil, or_false] at hi
    rcases hi with ⟨rfl, rfl⟩ | ⟨rfl, rfl⟩ | ⟨rfl, rfl⟩ | ⟨rfl, rfl⟩ | ⟨rfl, rfl⟩
    iterate 5 exact complete_loadFarPointer hp hreads hload r
  · rcases hi with ⟨hn, rfl⟩ | ⟨hn, rfl⟩ | ⟨hreg, hi⟩
    · have hcut : rm.isCut = true := by rcases hn with rfl | rfl <;> exact hwf
      obtain ⟨a, b, rfl⟩ := eq_cut_of_isCut hcut
      rfl
    · have hcut : rm.isCut = true := by rcases hn with rfl | rfl | rfl <;> exact hwf
      obtain ⟨a, b, rfl⟩ := eq_cut_of_isCut hcut
      rfl
    · simp only [List.mem_cons, List.not_mem_nil, or_false] at hi
      rcases hi with rfl | rfl | rfl | rfl | rfl
      iterate 5 exact complete_no_pointer (.inl hreg)

end Sys2Proof.Machine
end

section
/-! The far transfers in real-address mode (R568 to R573, R577, R581, R591). -/

namespace Sys2Proof.Machine

variable {α β : Type}

/-! ### The operand of a far jump or call -/

section
variable {s s1 s2 s3 t u : State} {w : Width} {v x off : W32} {sel : W16} {jump call : Instr} {rm : Rm}

/-- The jump and the call of one form run the same procedure from the state after the operand (R568 to R571). -/
theorem exec_of_farForm (h : FarForm s jump call sel off u) : s.afterReads u
    ∧ (∃ m, exec jump s = complete m s ∧ m s = farJump sel off u)
    ∧ ∃ m, exec call s = complete m s ∧ m s = farCall s.osz sel off u := by
  cases h with
  | ptr off sel => exact ⟨.refl s, ⟨_, rfl, rfl⟩, ⟨_, rfl, rfl⟩⟩
  | mem rm seg ea off sel t u hl hr hx =>
    have hp := run_readFarPointer hl hr hx
    exact ⟨(afterReads_of_readLoc hr).trans (afterReads_of_readLoc hx), ⟨_, rfl, run_bind_ok hp⟩,
      ⟨_, rfl, run_bind_ok hp⟩⟩

theorem exec_jump_ok (h : FarForm s jump call sel off u) (hk : farJump sel off u = .ok () t) :
    exec jump s = .next t := by
  obtain ⟨m, hexec, hm⟩ := (exec_of_farForm h).2.1
  exact hexec.trans (complete_ok (hm.trans hk))

theorem exec_call_ok (h : FarForm s jump call sel off u) (hk : farCall s.osz sel off u = .ok () t) :
    exec call s = .next t := by
  obtain ⟨m, hexec, hm⟩ := (exec_of_farForm h).2.2
  exact hexec.trans (complete_ok (hm.trans hk))

/-! ### The return address on the stack -/

theorem sub_two_items (p : W32) (w : Width) :
    p - BitVec.ofNat 32 w.bytes - BitVec.ofNat 32 w.bytes = p - BitVec.ofNat 32 (2 * w.bytes) := by
  have h := sub_items_succ p w 1
  rwa [Nat.one_mul] at h

theorem add_two_items (p : W32) (w : Width) :
    p + BitVec.ofNat 32 w.bytes + BitVec.ofNat 32 w.bytes = p + BitVec.ofNat 32 (2 * w.bytes) := by
  have h := add_items_succ p w 1
  rwa [Nat.one_mul] at h

theorem below_eq (s : State) (w : Width) (k : Nat) :
    s.below w k = (s.regs.esp - BitVec.ofNat 32 (k * w.bytes)) &&& s.stackMask := rfl

theorem above_eq (s : State) (w : Width) (k : Nat) :
    s.above w k = (s.regs.esp + BitVec.ofNat 32 (k * w.bytes)) &&& s.stackMask := rfl

/-- The two pushes of a far call (R577 to R579). -/
theorem run_pushReturn (hu : s.sameButWalk u)
    (h : accesses (onStack w [(s.below w 1, s.segs.cs.sel.setWidth 32), (s.below w 2, s.nextpc)]) u t) :
    pushReturn w u = .ok () { t with regs := s.espAt (s.below w 2) } := by
  obtain ⟨u1, h1, u2, h2, rfl⟩ := h
  have hs1 := hu.trans (sameButWalk_of_writeLoc_mem h1)
  have hst := hs1.trans (sameButWalk_of_writeLoc_mem h2)
  have hw1 : accWrite (s.stackLin (s.regs.esp - BitVec.ofNat 32 w.bytes)) w.bytes (s.segs.cs.sel.setWidth 32) u
      = .ok () u1 := by
    rw [State.stackLin, ← hu.lin, ← below_one]
    exact h1
  have hw2 : accWrite (s.stackLin (s.regs.esp - BitVec.ofNat 32 (2 * w.bytes))) w.bytes s.nextpc u1 = .ok () t := by
    rw [State.stackLin, ← hs1.lin, ← below_eq]
    exact h2
  rw [pushReturn, run_bind_get, hu.stackLin, hu.stackLin, hu.segs, hu.regs, hu.nextpc, hu.stackMask, sub_two_items,
    run_bind_ok hw1, run_bind_ok hw2, below_eq, espAt_masked, ← setReg_esp_masked hst]
  rfl

/-! ### Real-address mode -/

/-- The code segment of real-address mode (R181). -/
def realCode (sel : W16) : SegReg :=
  { sel := sel, base := sel.setWidth 32 <<< 4, limit := 0x0000FFFF#32, rights := 0x00009300#32 }

theorem run_farJump_real (hpe : u.pe = false) (sel : W16) (off : W32) :
    farJump sel off u = .ok () { u with segs := u.segs.set .cs (realCode sel), pc := off } := by
  rw [farJump, run_bind_get, run_cond, hpe]
  rfl

theorem run_farCall_real (hpe : s.pe = false) (hu : s.sameButWalk u)
    (h : accesses (onStack w [(s.below w 1, s.segs.cs.sel.setWidth 32), (s.below w 2, s.nextpc)]) u t) (sel : W16)
    (off : W32) : farCall w sel off u
      = .ok () { t with regs := s.espAt (s.below w 2), segs := s.segs.set .cs (realCode sel), pc := off } := by
  rw [farCall, run_bind_get, run_cond, hu.pe, hpe, Bool.not_false, cond_true, run_bind_ok (run_pushReturn hu h),
    ← (hu.trans (sameButWalk_of_onStack h)).segs]
  rfl

/-- The first two items of a far return (R572). -/
theorem reads_of_offStack {xs : List (W32 × W32)} {o c : W32}
    (h : accesses (offStack w ((s.above w 0, o) :: (s.above w 1, c) :: xs)) s t) : ∃ s1 s2,
      accRead (s.stackLin s.regs.esp) w.bytes s = .ok o s1
        ∧ accRead (s.stackLin (s.regs.esp + BitVec.ofNat 32 w.bytes)) w.bytes s1 = .ok c s2
        ∧ accesses (offStack w xs) s2 t ∧ s.afterReads s2 := by
  obtain ⟨s1, hrun1, s2, hrun2, hrest⟩ := h
  have h1 : readLoc w (.mem .ss (s.above w 0)) s = .ok o s1 := hrun1
  have h2 : readLoc w (.mem .ss (s.above w 1)) s1 = .ok c s2 := hrun2
  have hs1 := afterReads_of_readLoc h1
  refine ⟨s1, s2, ?_, ?_, hrest, hs1.trans (afterReads_of_readLoc h2)⟩
  · rw [State.stackLin, ← above_zero s w]
    exact h1
  · rw [State.stackLin, ← hs1.1.lin]
    rw [above_eq, Nat.one_mul] at h2
    exact h2

theorem complete_farReturn_real (hpe : s.pe = false) {o c : W32}
    (h : accesses (offStack w [(s.above w 0, o), (s.above w 1, c)]) s t) (imm : W32) :
    complete (farReturn w imm) s = .next { t with
      regs := s.espAt (s.regs.esp + BitVec.ofNat 32 w.bytes + BitVec.ofNat 32 w.bytes + imm),
      segs := s.segs.set .cs (realCode (c.setWidth 16)), pc := o } := by
  obtain ⟨s1, s2, h1, h2, rfl, hreads⟩ := reads_of_offStack h
  refine complete_ok (u := ()) ?_
  rw [farReturn, run_bind_get, run_cond, hpe, Bool.not_false, cond_true, run_bind_ok h1, run_bind_ok h2, run_bind_upd,
    setReg_esp_masked hreads.1, ← hreads.1.segs]
  rfl

theorem readThird_of_offStack {f : W32} (hreads : s.afterReads u) (h : accesses (offStack w [(s.above w 2, f)]) u t) :
    accRead (s.stackLin (s.regs.esp + BitVec.ofNat 32 w.bytes + BitVec.ofNat 32 w.bytes)) w.bytes u = .ok f t
      ∧ s.afterReads t := by
  obtain ⟨u1, hrun, rfl⟩ := h
  have h1 : readLoc w (.mem .ss (s.above w 2)) u = .ok f t := hrun
  refine ⟨?_, hreads.trans (afterReads_of_readLoc h1)⟩
  rw [State.stackLin, ← hreads.1.lin, add_two_items, ← above_eq]
  exact h1

/-- What IRET in real-address mode does after its pops (R591). -/
theorem run_returnReal (hpe : s.pe = false) {o c f : W32}
    (h : accesses (offStack s.osz [(s.above s.osz 0, o), (s.above s.osz 1, c), (s.above s.osz 2, f)]) s t) :
    returnFromException s = (bif s.entersVm86 f then abort .unsupportedVm86
      else do
        upd fun s' => s'.setReg .w32 .esp (maskedInto s.stackMask s.regs.esp (s.regs.esp + BitVec.ofNat 32 (3 * s.osz.bytes)))
        loadSegReal .cs (c.setWidth 16)
        upd fun s' => s'.setPc o
        upd fun s' => flagsWrite s' f (bif s.osz == .w32 then 0x00247300#32 else 0x00007300#32)) t := by
  obtain ⟨s1, s2, h1, h2, hrest, hreads⟩ := reads_of_offStack h
  obtain ⟨h3, -⟩ := readThird_of_offStack hreads hrest
  have hthree := add_items_succ s.regs.esp s.osz 2
  rw [← add_two_items] at hthree
  rw [returnFromException, run_bind_get, run_cond, hpe, Bool.not_false, cond_true, returnReal, run_bind_get,
    run_bind_ok h1, run_bind_ok h2, run_bind_ok h3, hthree]

theorem entersVm86_eq (s : State) (f : W32) : s.entersVm86 f = (s.osz == .w32 && s.cpl == 0#2 && f.getLsbD 17) := by
  rw [State.entersVm86, Bool.and_right_comm]

end

/-- Settles O55. -/
theorem realModeFarTransfersComplete : Obligations.RealModeFarTransfersComplete := by
  intro s s1 s2 s3 rm seg off sel o c f ov sv iw hpe w n code cs items
  refine ⟨exec_jump_ok (.ptr ov sv) (run_farJump_real hpe sv ov.val), fun h => ⟨?_, frames_of_accesses h⟩,
    fun hl hr hx => ?_, fun h => ?_, fun h => ?_⟩
  · exact exec_call_ok (.ptr ov sv) (run_farCall_real hpe (.refl s) h sv ov.val)
  · have hform := FarForm.mem rm seg off o sel s1 s2 hl hr hx
    have hreads := (exec_of_farForm hform).1
    refine ⟨?_, hreads, fun h => ⟨exec_call_ok hform (run_farCall_real hpe hreads.1 h _ o), frames_of_accesses h⟩⟩
    have hjump := exec_jump_ok hform (run_farJump_real (hreads.1.pe.trans hpe) _ o)
    rw [hreads.1.segs] at hjump
    exact hjump
  · refine ⟨?_, complete_farReturn_real hpe h _, afterReads_of_offStack h⟩
    refine (complete_farReturn_real hpe h 0#32).trans ?_
    rw [BitVec.add_zero, add_two_items, above_eq, espAt_masked]
    rfl
  · intro mask vm86
    have hreads := afterReads_of_offStack h
    have hcode : code (c.setWidth 16) = s1.segs.set .cs (realCode (c.setWidth 16)) := by
      rw [hreads.1.segs]
      rfl
    have hvm86 : s.entersVm86 f = vm86 := entersVm86_eq s f
    refine ⟨fun hvm => complete_abort ?_, fun hvm => complete_ok (u := ()) ?_, hreads⟩
    · rw [run_returnReal hpe h, hvm86.trans hvm]
      rfl
    · rw [run_returnReal hpe h, hvm86.trans hvm, cond_false, run_bind_upd, setReg_esp_masked hreads.1, above_eq,
        espAt_masked, hcode, ← hreads.cc, ← hreads.1.eflagsSys]
      rfl

end Sys2Proof.Machine
end

section
/-! The far transfers in protected mode: jumps and calls to a code segment (R574 to R576, R578), returns to the same and
to an outer level (R582 to R587, R590, R592). -/

namespace Sys2Proof.Machine

variable {α β : Type}

/-! ### A far jump or call by the descriptor -/

/-- What a far JMP and a far CALL share: the checks of the selector and its descriptor; `gate` is what a call gate does,
`enter` what the transfer does to a code segment that its checks let pass (R574, R575). -/
def farProt (sel : W16) (off : W32) (gate : Desc → M Unit) (enter : BitVec 2 → Desc → M Unit) : M Unit := do
  let s ← get
  raiseIf (selNull sel) (.gp 0#32)
  let d ← descReadOr sel (.gp (ecSel sel))
  bif !d.e2.getLsbD 12 then
    (bif sysTypeOf d.e2 == 4#4 || sysTypeOf d.e2 == 12#4 then gate d else farSystem sel d.e2)
  else do
    farCodeChecks sel off d
    markAccessed d
    enter s.cpl d

theorem farJumpProt_eq (sel : W16) (off : W32) : farJumpProt sel off
    = farProt sel off (fun _ => abort .unsupportedGateJump) (fun cpl d => do
        setSegFrom .cs (selWithRpl sel cpl) d
        jumpTo off) := rfl

theorem farCallProt_eq (w : Width) (sel : W16) (off : W32) : farCallProt w sel off
    = farProt sel off (callGate sel) (fun cpl d => do
        pushReturn w
        setSegFrom .cs (selWithRpl sel cpl) d
        jumpTo off) := rfl

section
variable {s t u : State} {sel : W16} {off : W32} {d : Desc} {gate : Desc → M Unit} {enter : BitVec 2 → Desc → M Unit}

theorem farProt_of_null (h : selNull sel = true) : farProt sel off gate enter u = .error (.raise (.gp 0#32)) u := by
  rw [farProt, run_bind_get, h]
  rfl

theorem farProt_of_none (h : selNull sel = false) (hd : descRead sel u = .ok none t) :
    farProt sel off gate enter u = .error (.raise (.gp (ecSel sel))) t := by
  rw [farProt, run_bind_get, h, run_bind_raiseIf_false, run_bind_error (descReadOr_of_none hd)]

theorem farProt_of_system (h : selNull sel = false) (hd : descRead sel u = .ok (some d) t) (hs : d.e2.getLsbD 12 = false) :
    farProt sel off gate enter u
      = (bif sysTypeOf d.e2 == 4#4 || sysTypeOf d.e2 == 12#4 then gate d else farSystem sel d.e2) t := by
  rw [farProt, run_bind_get, h, run_bind_raiseIf_false, run_bind_ok (descReadOr_of_some hd), run_cond, hs]
  rfl

/-- A code segment that may not be entered at this level by name (R574). -/
def badCode (cpl : BitVec 2) (sel : W16) (e2 : W32) : Bool :=
  !e2.getLsbD 11 || (bif e2.getLsbD 10 then cpl.ult (dplOf e2) else cpl.ult (selRpl sel) || dplOf e2 != cpl)

theorem farProt_of_code (h : selNull sel = false) (hd : descRead sel u = .ok (some d) t) (hs : d.e2.getLsbD 12 = true) :
    farProt sel off gate enter u = (do
      raiseIf (badCode u.cpl sel d.e2) (.gp (ecSel sel))
      raiseIf (!d.e2.getLsbD 15) (.np (ecSel sel))
      raiseIf ((descLimit d.e1 d.e2).ult off) (.gp 0#32)
      markAccessed d
      enter u.cpl d) t := by
  have hcpl : t.cpl = u.cpl := ((reading_descRead sel).of_ok hd).1.cpl
  rw [farProt, run_bind_get, h, run_bind_raiseIf_false, run_bind_ok (descReadOr_of_some hd), run_cond, hs,
    Bool.not_true, cond_false, farCodeChecks, run_bind_assoc, run_bind_get, hcpl]
  simp only [bind_assoc]
  rw [run_raiseIf_raiseIf]
  rfl

/-! ### The two instructions of a form -/

variable {jump call : Instr} {x : Exc} {r : AbortReason}

theorem farJump_of_pe (hpe : u.pe = true) : farJump sel off u = farJumpProt sel off u := by
  rw [farJump, run_bind_get, run_cond, hpe]
  rfl

theorem farCall_of_pe {w : Width} (hpe : u.pe = true) : farCall w sel off u = farCallProt w sel off u := by
  rw [farCall, run_bind_get, run_cond, hpe]
  rfl

/-- Both instructions raise what their common checks raise. -/
theorem exec_far_raise (h : FarForm s jump call sel off u) (hpe : s.pe = true)
    (hk : ∀ gate enter, farProt sel off gate enter u = .error (.raise x) t) :
    exec jump s = .next (takeException x t) ∧ exec call s = .next (takeException x t) := by
  obtain ⟨hreads, ⟨mj, hj, hmj⟩, mc, hc, hmc⟩ := exec_of_farForm h
  have hpe' : u.pe = true := hreads.1.pe.trans hpe
  rw [farJump_of_pe hpe', farJumpProt_eq, hk] at hmj
  rw [farCall_of_pe hpe', farCallProt_eq, hk] at hmc
  exact ⟨hj.trans (complete_raise hmj), hc.trans (complete_raise hmc)⟩

theorem exec_far_abort (h : FarForm s jump call sel off u) (hpe : s.pe = true)
    (hk : ∀ gate enter, farProt sel off gate enter u = .error (.abort r) t) :
    exec jump s = .next (t.setAborted r) ∧ exec call s = .next (t.setAborted r) := by
  obtain ⟨hreads, ⟨mj, hj, hmj⟩, mc, hc, hmc⟩ := exec_of_farForm h
  have hpe' : u.pe = true := hreads.1.pe.trans hpe
  rw [farJump_of_pe hpe', farJumpProt_eq, hk] at hmj
  rw [farCall_of_pe hpe', farCallProt_eq, hk] at hmc
  exact ⟨hj.trans (complete_abort hmj), hc.trans (complete_abort hmc)⟩

end

section
variable {s t u s0 s1 s2 s3 : State} {sel : W16} {off : W32} {d : Desc} {jump call : Instr}

theorem exec_far_null (h : FarForm s jump call sel off u) (hpe : s.pe = true) (hnull : ecSel sel = 0#32) :
    exec jump s = .next (takeException (.gp 0#32) u) ∧ exec call s = .next (takeException (.gp 0#32) u) :=
  exec_far_raise h hpe fun _ _ => farProt_of_null ((selNull_iff sel).mpr hnull)

theorem exec_far_none (h : FarForm s jump call sel off u) (hpe : s.pe = true) (hnull : ecSel sel ≠ 0#32)
    (hd : descRead sel u = .ok none t) :
    exec jump s = .next (takeException (.gp (ecSel sel)) t) ∧ exec call s = .next (takeException (.gp (ecSel sel)) t) :=
  exec_far_raise h hpe fun _ _ => farProt_of_none (selNull_of_ne hnull) hd

theorem farSystem_of_task (h : sysTypeOf d.e2 = 5#4) :
    (farSystem sel d.e2 : M Unit) t = .error (.abort .unsupportedTaskGate) t := by
  rw [farSystem, h]
  rfl

theorem farSystem_of_tss (h : sysTypeOf d.e2 ∈ [1#4, 3#4, 9#4, 11#4]) :
    (farSystem sel d.e2 : M Unit) t = .error (.abort .unsupportedTaskSwitch) t := by
  have hchecks : ∀ ty : BitVec 4, ty ∈ [1#4, 3#4, 9#4, 11#4] →
      (ty == 5#4) = false ∧ (ty == 1#4 || ty == 3#4 || ty == 9#4 || ty == 11#4) = true := by decide
  obtain ⟨h5, hyes⟩ := hchecks _ h
  rw [farSystem]
  rw [h5, hyes]
  rfl

theorem farSystem_of_other (h : sysTypeOf d.e2 ∉ [1#4, 3#4, 5#4, 9#4, 11#4]) :
    (farSystem sel d.e2 : M Unit) t = .error (.raise (.gp (ecSel sel))) t := by
  have hchecks : ∀ ty : BitVec 4, ty ∉ [1#4, 3#4, 5#4, 9#4, 11#4] →
      (ty == 5#4) = false ∧ (ty == 1#4 || ty == 3#4 || ty == 9#4 || ty == 11#4) = false := by decide
  obtain ⟨h5, hno⟩ := hchecks _ h
  rw [farSystem]
  rw [h5, hno]
  rfl

/-- A system descriptor other than a call gate (R575). -/
theorem farProt_of_noGate {gate : Desc → M Unit} {enter : BitVec 2 → Desc → M Unit} (hnull : ecSel sel ≠ 0#32)
    (hd : descRead sel u = .ok (some d) t) (hs : d.e2.getLsbD 12 = false) (hty : sysTypeOf d.e2 ∉ [4#4, 12#4]) :
    farProt sel off gate enter u = (farSystem sel d.e2 : M Unit) t := by
  have hchecks : ∀ ty : BitVec 4, ty ∉ [4#4, 12#4] → (ty == 4#4 || ty == 12#4) = false := by decide
  rw [farProt_of_system (selNull_of_ne hnull) hd hs, run_cond, hchecks _ hty]
  rfl

theorem farProt_of_gate {gate : Desc → M Unit} {enter : BitVec 2 → Desc → M Unit} (hnull : ecSel sel ≠ 0#32)
    (hd : descRead sel u = .ok (some d) t) (hs : d.e2.getLsbD 12 = false) (hty : sysTypeOf d.e2 ∈ [4#4, 12#4]) :
    farProt sel off gate enter u = gate d t := by
  have hchecks : ∀ ty : BitVec 4, ty ∈ [4#4, 12#4] → (ty == 4#4 || ty == 12#4) = true := by decide
  rw [farProt_of_system (selNull_of_ne hnull) hd hs, run_cond, hchecks _ hty]
  rfl

/-- The segment register a transfer loads from a descriptor that it marked accessed (R180). -/
def codeReg (x : W16) (d : Desc) : SegReg :=
  { sel := x, base := descBase d.e1 d.e2, limit := descLimit d.e1 d.e2, rights := d.e2 ||| 0x100#32 }

theorem run_enterJump (hs2 : s.sameButWalk s2) (x : W16) (d : Desc) (off : W32) :
    (do setSegFrom .cs x d; jumpTo off) s2
      = .ok () { s2 with segs := s.segs.set .cs (codeReg x d), pc := off } := by
  rw [← hs2.segs]
  rfl

theorem run_enterCall {w : Width} (hs2 : s.sameButWalk s2)
    (h : accesses (onStack w [(s.below w 1, s.segs.cs.sel.setWidth 32), (s.below w 2, s.nextpc)]) s2 s3) (x : W16)
    (d : Desc) (off : W32) : (do pushReturn w; setSegFrom .cs x d; jumpTo off) s2
      = .ok () { s3 with regs := s.espAt (s.below w 2), segs := s.segs.set .cs (codeReg x d), pc := off } := by
  rw [run_bind_ok (run_pushReturn hs2 h), ← (hs2.trans (sameButWalk_of_onStack h)).segs]
  rfl

/-- A code segment whose checks pass (R576, R578). -/
theorem farProt_of_entered {gate : Desc → M Unit} {enter : BitVec 2 → Desc → M Unit} (hnull : ecSel sel ≠ 0#32)
    (hd : descRead sel u = .ok (some d) t) (hs : d.e2.getLsbD 12 = true) (hbad : badCode u.cpl sel d.e2 = false)
    (hp : d.e2.getLsbD 15 = true) (hlim : (descLimit d.e1 d.e2).ult off = false) (hm : markAccessed d t = .ok () s2) :
    farProt sel off gate enter u = enter u.cpl d s2 := by
  rw [farProt_of_code (selNull_of_ne hnull) hd hs, hbad, hp, hlim]
  exact run_bind_ok hm

end

/-! ### The checks of a return -/

section
variable {u t : State} {y : W16} {d : Desc} {lvl : BitVec 2}

theorem returnTarget_of_some (h : selNull y = false) (hd : descRead y u = .ok (some d) t) :
    returnTarget y u = (do
      raiseIf (!d.e2.getLsbD 12 || !d.e2.getLsbD 11 || (selRpl y).ult u.cpl
        || (bif d.e2.getLsbD 10 then (selRpl y).ult (dplOf d.e2) else dplOf d.e2 != selRpl y)) (.gp (ecSel y))
      raiseIf (!d.e2.getLsbD 15) (.np (ecSel y))
      pure d) t := by
  rw [returnTarget, run_bind_get, h, run_bind_raiseIf_false, run_bind_ok (descReadOr_of_some hd), run_raiseIf_raiseIf,
    run_raiseIf_raiseIf]

theorem returnTarget_of_null (h : selNull y = true) : returnTarget y u = .error (.raise (.gp 0#32)) u := by
  rw [returnTarget, run_bind_get, h]
  rfl

theorem returnTarget_of_none (h : selNull y = false) (hd : descRead y u = .ok none t) :
    returnTarget y u = .error (.raise (.gp (ecSel y))) t := by
  rw [returnTarget, run_bind_get, h, run_bind_raiseIf_false, run_bind_error (descReadOr_of_none hd)]

theorem returnStack_of_some (h : selNull y = false) (hd : descRead y u = .ok (some d) t) :
    returnStack y lvl u = (do
      raiseIf (selRpl y != lvl || !d.e2.getLsbD 12 || d.e2.getLsbD 11 || !d.e2.getLsbD 9 || dplOf d.e2 != lvl)
        (.gp (ecSel y))
      raiseIf (!d.e2.getLsbD 15) (.ss (ecSel y))
      pure d) t := by
  rw [returnStack, h, run_bind_raiseIf_false, run_bind_ok (descReadOr_of_some hd), run_raiseIf_raiseIf,
    run_raiseIf_raiseIf]
  simp only [Bool.or_assoc]

theorem returnStack_of_null (h : selNull y = true) : returnStack y lvl u = .error (.raise (.gp 0#32)) u := by
  rw [returnStack, h]
  rfl

theorem returnStack_of_none (h : selNull y = false) (hd : descRead y u = .ok none t) :
    returnStack y lvl u = .error (.raise (.gp (ecSel y))) t := by
  rw [returnStack, h, run_bind_raiseIf_false, run_bind_error (descReadOr_of_none hd)]

end

/-! ### What a return does -/

theorem clearIfInner_eq (s : State) (n : Sreg) : s.clearIfInner n = s.setSegReg n ((s.segs.get n).outer s.cpl) := by
  rw [State.clearIfInner, SegReg.outer, dplOf]
  cases (!(s.segs.get n).rights.getLsbD 11 || !(s.segs.get n).rights.getLsbD 10)
      && ((s.segs.get n).rights.extractLsb' 13 2).ult s.cpl with
  | true => rfl
  | false => cases n <;> rfl

theorem clearDataSegs_eq (s : State) : s.clearDataSegs = { s with segs := { s.segs with
    es := s.segs.es.outer s.cpl, ds := s.segs.ds.outer s.cpl, fs := s.segs.fs.outer s.cpl,
    gs := s.segs.gs.outer s.cpl } } := by
  rw [State.clearDataSegs, clearIfInner_eq, clearIfInner_eq, clearIfInner_eq, clearIfInner_eq]
  rfl

/-- The stack pointer after the items that a return pops (R583). -/
def returnSp (s : State) (iret : Bool) (imm : W32) : W32 :=
  s.regs.esp + BitVec.ofNat 32 s.osz.bytes + BitVec.ofNat 32 s.osz.bytes
    + (bif iret then BitVec.ofNat 32 s.osz.bytes else 0#32) + imm

theorem returnSp_eq (s : State) (iret : Bool) (imm : W32) :
    returnSp s iret imm = s.regs.esp + BitVec.ofNat 32 ((bif iret then 3 else 2) * s.osz.bytes) + imm := by
  rw [returnSp, add_two_items]
  cases iret with
  | false => rw [cond_false, BitVec.add_zero]; rfl
  | true => rw [cond_true, add_items_succ]; rfl

/-- A return to the same level, its target checked (R584). -/
def returnSame (s : State) (iret : Bool) (imm off fl : W32) (csel : W16) (d : Desc) : M Unit := do
  markAccessed d
  upd fun s' => s'.setReg .w32 .esp (maskedInto s.stackMask s.regs.esp (returnSp s iret imm))
  setSegFrom .cs csel d
  upd fun s' => s'.setPc off
  upd fun s' => bif iret then flagsWrite s' fl (iretMask s) else s'

/-- A return to an outer level, its target checked (R585 to R587). -/
def returnOuter (s : State) (iret : Bool) (imm off fl : W32) (csel : W16) (d : Desc) : M Unit := do
  let nesp ← accRead (s.stackLin (returnSp s iret imm)) s.osz.bytes
  let nss32 ← accRead (s.stackLin (returnSp s iret imm + BitVec.ofNat 32 s.osz.bytes)) s.osz.bytes
  let nss : W16 := nss32.setWidth 16
  let sd ← returnStack nss (selRpl csel)
  markAccessed d
  markAccessed sd
  setSegFrom .ss nss sd
  setSegFrom .cs csel d
  upd fun s' => s'.setCpl (selRpl csel)
  upd fun s' => s'.setReg .w32 .esp (maskedInto (maskOfRights sd.e2) s.regs.esp (nesp + imm))
  upd fun s' => s'.setPc off
  upd fun s' => bif iret then flagsWrite s' fl (iretMask s) else s'
  upd State.clearDataSegs

section
variable {s t u s1 s2 s3 s4 s5 s6 : State} {iret : Bool} {imm o c f : W32} {d e : Desc} {csel : W16}

/-- The items that a return pops: the flags are one only for IRET (R582). -/
theorem run_returnProt (h : accesses (offStack s.osz ([(s.above s.osz 0, o), (s.above s.osz 1, c)]
      ++ bif iret then [(s.above s.osz 2, f)] else [])) s t) : returnProt iret imm s
      = (bif iret && s.entersVm86 f then abort .unsupportedVm86
        else do
          let d ← returnTarget (c.setWidth 16)
          bif selRpl (c.setWidth 16) == s.cpl then returnSame s iret imm o f (c.setWidth 16) d
          else returnOuter s iret imm o f (c.setWidth 16) d) t := by
  obtain ⟨s1, s2, h1, h2, hrest, hreads⟩ := reads_of_offStack h
  cases iret with
  | false =>
    cases hrest
    rw [returnProt, run_bind_get, run_bind_ok h1, run_bind_ok h2]
    rfl
  | true =>
    obtain ⟨h3, -⟩ := readThird_of_offStack hreads hrest
    rw [returnProt, run_bind_get, run_bind_ok h1, run_bind_ok h2, cond_true, run_bind_ok h3]
    rfl

/-- The flags that IRET takes from the image it pops (R592). -/
theorem iretMask_eq (s : State) : iretMask s
    = (0x00244100#32 ||| (bif s.cpl == 0#2 then 0x00003000#32 else 0#32)
      ||| (bif (s.eflagsSys.extractLsb' 12 2 : BitVec 2).ult s.cpl then 0#32 else 0x00000200#32))
      &&& (bif s.osz == .w16 then 0x0000FFFF#32 else 0xFFFFFFFF#32) := cutMask_eq _ _

/-- The state of a return with the flags that IRET pops (R592). -/
def State.returned (s : State) (iret : Bool) (f : W32) (u : State) : State :=
  bif iret then
    { u with cc := s.cc.setImage f, df := f.getLsbD 10,
             eflagsSys := (s.eflagsSys &&& ~~~(iretMask s)) ||| (f &&& iretMask s) }
  else u

theorem run_returnSame (hu : s.sameButWalk u) (hm : markAccessed d u = .ok () s3) :
    returnSame s iret imm o f csel d u = .ok () (s.returned iret f { s3 with
      regs := s.espAt (returnSp s iret imm), segs := s.segs.set .cs (codeReg csel d), pc := o }) := by
  have hs3 := hu.trans (sameButWalk_of_ok (quiet_markAccessed d) hm)
  rw [returnSame, run_bind_ok hm, run_bind_upd, setReg_esp_masked hs3, State.returned, ← hs3.segs, ← hs3.cc,
    ← hs3.eflagsSys]
  cases iret <;> rfl

/-- A return to an outer level, the stack segment checked (R585 to R587). -/
theorem run_returnOuter_ok {nesp nss : W32} (h4 : s.sameButWalk s4)
    (h1 : accRead (s.stackLin (returnSp s iret imm)) s.osz.bytes u = .ok nesp s3)
    (h2 : accRead (s.stackLin (returnSp s iret imm + BitVec.ofNat 32 s.osz.bytes)) s.osz.bytes s3 = .ok nss s4)
    (he : returnStack (nss.setWidth 16) (selRpl csel) s4 = .ok e s5)
    (hm : (do markAccessed d; markAccessed e) s5 = .ok () s6) :
    returnOuter s iret imm o f csel d u = .ok () (s.returned iret f { s6 with
      regs := s.regs.set .esp ((s.regs.esp &&& ~~~maskOfRights e.e2) ||| ((nesp + imm) &&& maskOfRights e.e2)),
      segs := { s.segs with
        ss := codeReg (nss.setWidth 16) e, cs := codeReg csel d,
        es := s.segs.es.outer (selRpl csel), ds := s.segs.ds.outer (selRpl csel),
        fs := s.segs.fs.outer (selRpl csel), gs := s.segs.gs.outer (selRpl csel) },
      cpl := selRpl csel, pc := o }) := by
  obtain ⟨_, v, hmd, hme⟩ := bind_ok_iff.mp hm
  have hs6 : s.sameButWalk s6 := ((h4.trans (sameButWalk_of_ok (quiet_returnStack _ _) he)).trans
    (sameButWalk_of_ok (quiet_markAccessed d) hmd)).trans (sameButWalk_of_ok (quiet_markAccessed e) hme)
  rw [returnOuter, run_bind_ok h1, run_bind_ok h2, run_bind_ok he, run_bind_ok hmd, run_bind_ok hme, State.returned,
    ← hs6.segs, ← hs6.cc, ← hs6.eflagsSys, ← hs6.regs]
  cases iret
  · exact congrArg (EStateM.Result.ok ()) (clearDataSegs_eq _)
  · exact congrArg (EStateM.Result.ok ()) (clearDataSegs_eq _)

theorem run_returnOuter_error {nesp nss : W32} {x : Exc}
    (h1 : accRead (s.stackLin (returnSp s iret imm)) s.osz.bytes u = .ok nesp s3)
    (h2 : accRead (s.stackLin (returnSp s iret imm + BitVec.ofNat 32 s.osz.bytes)) s.osz.bytes s3 = .ok nss s4)
    (he : returnStack (nss.setWidth 16) (selRpl csel) s4 = .error (.raise x) s5) :
    returnOuter s iret imm o f csel d u = .error (.raise x) s5 := by
  rw [returnOuter, run_bind_ok h1, run_bind_ok h2, run_bind_error he]

end

/-! ### The forms of a return -/

section
variable {s t : State} {iw : W16} {i : Instr} {iret : Bool} {imm o c f : W32}

theorem exec_return (hpe : s.pe = true)
    (hi : (i, iret, imm) ∈ [(.iret, true, 0#32), (.retf, false, 0#32), (.retfImm16 iw, false, iw.setWidth 32)])
    (hnt : iret = true → s.eflagsSys.getLsbD 14 = false) :
    ∃ m, exec i s = complete m s ∧ m s = returnProt iret imm s := by
  simp only [List.mem_cons, Prod.mk.injEq, List.not_mem_nil, or_false] at hi
  rcases hi with ⟨rfl, rfl, rfl⟩ | ⟨rfl, rfl, rfl⟩ | ⟨rfl, rfl, rfl⟩
  · refine ⟨_, rfl, ?_⟩
    rw [returnFromException, run_bind_get, run_cond, hpe, Bool.not_true, cond_false, run_cond, hnt rfl]
    rfl
  · refine ⟨_, rfl, ?_⟩
    rw [farReturn, run_bind_get, run_cond, hpe]
    rfl
  · refine ⟨_, rfl, ?_⟩
    rw [farReturn, run_bind_get, run_cond, hpe]
    rfl

theorem complete_iret_nested (hpe : s.pe = true) (hnt : s.eflagsSys.getLsbD 14 = true) :
    exec .iret s = .next (s.setAborted .unsupportedTaskSwitch) := by
  refine complete_abort (m := returnFromException) ?_
  rw [returnFromException, run_bind_get, run_cond, hpe, Bool.not_true, cond_false, run_cond, hnt]
  rfl

theorem selRpl_setWidth (c : W32) : selRpl (c.setWidth 16) = c.extractLsb' 0 2 := by
  refine BitVec.eq_of_getLsbD_eq fun i hi => ?_
  have hi16 : i < 16 := by omega
  simp [selRpl, hi16]

end

section
variable {s s0 s1 s2 s3 t : State} {sel : W16} {off : W32} {d : Desc} {jump call : Instr}

/-- A far jump or call to a system descriptor (R575). -/
theorem exec_far_system (hform : FarForm s jump call sel off s0) (hpe : s.pe = true) (hnull : ecSel sel ≠ 0#32)
    (hd : descRead sel s0 = .ok (some d) s1) (hs : d.e2.getLsbD 12 = false) :
    (sysTypeOf d.e2 = 5#4 → exec jump s = .next (s1.setAborted .unsupportedTaskGate)
        ∧ exec call s = .next (s1.setAborted .unsupportedTaskGate))
      ∧ (sysTypeOf d.e2 ∈ [1#4, 3#4, 9#4, 11#4] → exec jump s = .next (s1.setAborted .unsupportedTaskSwitch)
        ∧ exec call s = .next (s1.setAborted .unsupportedTaskSwitch))
      ∧ (sysTypeOf d.e2 ∈ [4#4, 12#4] → exec jump s = .next (s1.setAborted .unsupportedGateJump))
      ∧ (sysTypeOf d.e2 ∈ [0#4, 2#4, 6#4, 7#4, 8#4, 10#4, 13#4, 14#4, 15#4] →
        exec jump s = .next (takeException (.gp (ecSel sel)) s1)
          ∧ exec call s = .next (takeException (.gp (ecSel sel)) s1)) := by
  have htss : ∀ ty : BitVec 4, ty ∈ [1#4, 3#4, 9#4, 11#4] → ty ∉ [4#4, 12#4] := by decide
  have hother : ∀ ty : BitVec 4, ty ∈ [0#4, 2#4, 6#4, 7#4, 8#4, 10#4, 13#4, 14#4, 15#4] →
      ty ∉ [4#4, 12#4] ∧ ty ∉ [1#4, 3#4, 5#4, 9#4, 11#4] := by decide
  refine ⟨fun hty => exec_far_abort hform hpe fun gate enter => ?_,
    fun hty => exec_far_abort hform hpe fun gate enter => ?_, fun hty => ?_,
    fun hty => exec_far_raise hform hpe fun gate enter => ?_⟩
  · rw [farProt_of_noGate hnull hd hs (by rw [hty]; decide), farSystem_of_task hty]
  · rw [farProt_of_noGate hnull hd hs (htss _ hty), farSystem_of_tss hty]
  · obtain ⟨hreads, ⟨m, hexec, hm⟩, -⟩ := exec_of_farForm hform
    refine hexec.trans (complete_abort ?_)
    rw [hm, farJump_of_pe (hreads.1.pe.trans hpe), farJumpProt_eq, farProt_of_gate hnull hd hs hty]
    rfl
  · obtain ⟨hno, hbad⟩ := hother _ hty
    rw [farProt_of_noGate hnull hd hs hno, farSystem_of_other hbad]

/-- A far jump or call to a code segment (R574, R576, R578). -/
theorem exec_far_code (hform : FarForm s jump call sel off s0) (hpe : s.pe = true) (hnull : ecSel sel ≠ 0#32)
    (hd : descRead sel s0 = .ok (some d) s1) (hs : d.e2.getLsbD 12 = true) :
    (badCode s.cpl sel d.e2 = true → exec jump s = .next (takeException (.gp (ecSel sel)) s1)
        ∧ exec call s = .next (takeException (.gp (ecSel sel)) s1))
      ∧ (badCode s.cpl sel d.e2 = false → d.e2.getLsbD 15 = false →
        exec jump s = .next (takeException (.np (ecSel sel)) s1)
          ∧ exec call s = .next (takeException (.np (ecSel sel)) s1))
      ∧ (badCode s.cpl sel d.e2 = false → d.e2.getLsbD 15 = true → (descLimit d.e1 d.e2).ult off = true →
        exec jump s = .next (takeException (.gp 0#32) s1) ∧ exec call s = .next (takeException (.gp 0#32) s1))
      ∧ (badCode s.cpl sel d.e2 = false → d.e2.getLsbD 15 = true → (descLimit d.e1 d.e2).ult off = false →
        markAccessed d s1 = .ok () s2 →
        exec jump s = .next { s2 with segs := s.segs.set .cs (codeReg (selWithRpl sel s.cpl) d), pc := off }
          ∧ (accesses (onStack s.osz [(s.below s.osz 1, s.segs.cs.sel.setWidth 32), (s.below s.osz 2, s.nextpc)]) s2 s3 →
            exec call s = .next { s3 with
              regs := s.espAt (s.below s.osz 2), segs := s.segs.set .cs (codeReg (selWithRpl sel s.cpl) d),
              pc := off })) := by
  have hreads := (exec_of_farForm hform).1
  have hcpl : s0.cpl = s.cpl := hreads.1.cpl
  have hpe0 : s0.pe = true := hreads.1.pe.trans hpe
  have hcode := fun gate enter =>
    farProt_of_code (off := off) (gate := gate) (enter := enter) (selNull_of_ne hnull) hd hs
  rw [← hcpl]
  refine ⟨fun hbad => exec_far_raise hform hpe fun gate enter => ?_,
    fun hbad hp => exec_far_raise hform hpe fun gate enter => ?_,
    fun hbad hp hlim => exec_far_raise hform hpe fun gate enter => ?_, fun hbad hp hlim hm => ?_⟩
  · rw [hcode, hbad]
    rfl
  · rw [hcode, hbad, hp]
    rfl
  · rw [hcode, hbad, hp, hlim]
    rfl
  · have hs2 := (hreads.1.trans (sameButWalk_of_ok (quiet_descRead sel) hd)).trans
      (sameButWalk_of_ok (quiet_markAccessed d) hm)
    refine ⟨exec_jump_ok hform ?_, fun hpush => exec_call_ok hform ?_⟩
    · rw [farJump_of_pe hpe0, farJumpProt_eq, farProt_of_entered hnull hd hs hbad hp hlim hm, run_enterJump hs2]
    · rw [farCall_of_pe hpe0, farCallProt_eq, farProt_of_entered hnull hd hs hbad hp hlim hm, run_enterCall hs2 hpush]

end

/-- Settles O56. -/
theorem protectedFarTransfersComplete : Obligations.ProtectedFarTransfersComplete := by
  intro s s0 s1 s2 s3 s4 s5 s6 sel iw off o c f imm iret d e i jump call x hpe w n ec dpl seg items target ty denied both
    mask flags sp rpl
  refine ⟨fun hform => ?_, fun y u t => ?_, fun y lvl u t => ?_, fun hi hnt hacc => ?_, complete_iret_nested hpe⟩
  · refine ⟨(exec_of_farForm hform).1, exec_far_null hform hpe, exec_far_none hform hpe, exec_far_system hform hpe,
      fun hnull hd hs => ?_⟩
    obtain ⟨hdenied, habsent, hlimit, henter⟩ := exec_far_code (s2 := s2) (s3 := s3) hform hpe hnull hd hs
    refine ⟨hdenied, habsent, hlimit, fun hb hp hl hm => ?_⟩
    obtain ⟨hjump, hcall⟩ := henter hb hp hl hm
    exact ⟨hjump, fun hpush => ⟨hcall hpush, frames_of_accesses hpush⟩⟩
  · intro stops
    refine ⟨fun h => returnTarget_of_null ((selNull_iff y).mpr h),
      fun h hd => returnTarget_of_none (selNull_of_ne h) hd, fun h hd => ?_⟩
    intro lvl bad
    obtain ⟨hbad, habsent, hgo⟩ := checkedValue_ends (bad := bad) (present := d.e2.getLsbD 15) (e := .gp (ec y))
      (x := .np (ec y)) (a := d) (t := t)
    have hchecks := returnTarget_of_some (selNull_of_ne h) hd
    exact ⟨fun hb => hchecks.trans (hbad hb), fun hb hp => hchecks.trans (habsent hb hp),
      fun hb hp => hchecks.trans (hgo hb hp)⟩
  · intro stops
    refine ⟨fun h => returnStack_of_null ((selNull_iff y).mpr h),
      fun h hd => returnStack_of_none (selNull_of_ne h) hd, fun h hd => ?_⟩
    intro bad
    obtain ⟨hbad, habsent, hgo⟩ := checkedValue_ends (bad := bad) (present := d.e2.getLsbD 15) (e := .gp (ec y))
      (x := .ss (ec y)) (a := d) (t := t)
    have hchecks := returnStack_of_some (lvl := lvl) (selNull_of_ne h) hd
    exact ⟨fun hb => hchecks.trans (hbad hb), fun hb hp => hchecks.trans (habsent hb hp),
      fun hb hp => hchecks.trans (hgo hb hp)⟩
  · intro vm86
    obtain ⟨m, hexec, hm⟩ := exec_return hpe hi hnt
    have hrun := hm.trans (run_returnProt (imm := imm) hacc)
    have hvm : (iret && s.entersVm86 f) = vm86 := by
      rw [entersVm86_eq, ← Bool.and_assoc, ← Bool.and_assoc]
    have hmask : iretMask s = mask := iretMask_eq s
    have hsp : returnSp s iret imm = sp := returnSp_eq s iret imm
    have hrpl : selRpl (c.setWidth 16) = rpl := selRpl_setWidth c
    have hreads := afterReads_of_offStack hacc
    rw [hvm, hrpl] at hrun
    refine ⟨hreads, fun hv => ?_, fun hv ht => ?_, fun hv ht hlvl hmark => ?_, fun hv ht hlvl nesp nss hr1 hr2 => ?_⟩
    · exact hexec.trans (complete_abort (hrun.trans (by rw [hv]; rfl)))
    · refine hexec.trans (complete_raise (hrun.trans ?_))
      rw [hv, cond_false, run_bind_error ht]
    · have hs2 := hreads.1.trans (sameButWalk_of_ok (quiet_returnTarget _) ht)
      refine hexec.trans (complete_ok (u := ()) (hrun.trans ?_))
      rw [hv, cond_false, run_bind_ok ht, run_cond, beq_iff_eq.mpr hlvl, cond_true, run_returnSame hs2 hmark,
        State.returned, hmask, hsp]
      rfl
    · have hs2 := hreads.1.trans (sameButWalk_of_ok (quiet_returnTarget _) ht)
      have h3 := afterReads_of_readLoc hr1
      have hs4 := (hs2.trans h3.1).trans (afterReads_of_readLoc hr2).1
      have h1 : accRead (s.stackLin (returnSp s iret imm)) w.bytes s2 = .ok nesp s3 := by
        rw [hsp, State.stackLin, ← hs2.lin]
        exact hr1
      have h2 : accRead (s.stackLin (returnSp s iret imm + n)) w.bytes s3 = .ok nss s4 := by
        rw [hsp, State.stackLin, ← (hs2.trans h3.1).lin]
        exact hr2
      rw [hv, cond_false, run_bind_ok ht, run_cond, beq_false_of_ne hlvl, cond_false] at hrun
      refine ⟨fun he => ?_, fun he hmarks => ?_⟩
      · exact hexec.trans (complete_raise (hrun.trans (run_returnOuter_error h1 h2 (hrpl ▸ he))))
      · have hout := run_returnOuter_ok (f := f) (o := o) hs4 h1 h2 (hrpl ▸ he) hmarks
        refine hexec.trans (complete_ok (u := ()) (hrun.trans (hout.trans ?_)))
        rw [State.returned, hmask, hrpl]
        rfl

end Sys2Proof.Machine
end

section
/-! The far call through a call gate (R576, R579, R580). -/

namespace Sys2Proof.Machine

variable {α β : Type}

/-- The operand width a call gate gives (R579). -/
def gateWidth (g : Desc) : Width := bif sysTypeOf g.e2 == 12#4 then .w32 else .w16

/-- The offset of a call gate's target (R579). -/
def gateOffset (g : Desc) : W32 :=
  bif sysTypeOf g.e2 == 12#4 then g.e2.extractLsb' 16 16 ++ g.e1.extractLsb' 0 16 else g.e1 &&& 0xFFFF#32

theorem gateOffset_eq (g : Desc) : (bif gateWidth g == .w32 then (g.e2.extractLsb' 16 16 ++ g.e1.extractLsb' 0 16)
    else truncW .w16 g.e1) = gateOffset g := by
  rw [gateWidth, gateOffset, truncW_eq_and .w16]
  cases sysTypeOf g.e2 == 12#4 <;> rfl

/-- What a call gate that may be used does with its target (R579). -/
def throughGate (cpl : BitVec 2) (g d : Desc) : M Unit := do
  raiseIf ((descLimit d.e1 d.e2).ult (gateOffset g)) (.gp 0#32)
  markAccessed d
  pushReturn (gateWidth g)
  setSegFrom .cs (selWithRpl (g.e1.extractLsb' 16 16) cpl) d
  jumpTo (gateOffset g)

section
variable {s t u : State} {sel : W16} {g d : Desc}

theorem callGate_eq (sel : W16) (g : Desc) (u : State) : callGate sel g u = (do
    raiseIf ((dplOf g.e2).ult u.cpl || (dplOf g.e2).ult (selRpl sel)) (.gp (ecSel sel))
    raiseIf (!g.e2.getLsbD 15) (.np (ecSel sel))
    let d ← gateTarget (g.e1.extractLsb' 16 16)
    bif goesInner u d then
      callGateInner (gateWidth g) (g.e1.extractLsb' 16 16) (gateOffset g) (g.e2.extractLsb' 0 5).toNat d
    else throughGate u.cpl g d) u := by
  rw [callGate, run_bind_get, ← gateOffset_eq]
  simp only [throughGate, ← gateOffset_eq]
  rfl

/-- The parameters of a call gate are copied as the statement lists them (R580). -/
theorem run_copyParams {w : Width} {nb nm : W32} (s : State) : ∀ (k : Nat) (p q : W32) (u t : State), s.sameButWalk u →
    gateParams w nb nm s k p u q t → copyParams w s.regs.esp nb nm k p u = .ok q t ∧ s.sameButWalk t := by
  intro k
  induction k with
  | zero =>
    rintro p q u t hu ⟨rfl, rfl⟩
    exact ⟨rfl, hu⟩
  | succ k ih =>
    rintro p q u t hu ⟨v, u1, u2, hr, hw, hrest⟩
    have hu1 := hu.trans (sameButWalk_of_ok (quiet_accRead _ _) hr)
    have hu2 := hu1.trans (sameButWalk_of_ok (quiet_sysWrite _ _ _) hw)
    obtain ⟨hrun, ht⟩ := ih _ q u2 t hu2 hrest
    have hpush : pushList true nb nm w.bytes p [v] u1 = .ok ((p - BitVec.ofNat 32 w.bytes) &&& nm) u2 :=
      pushList_of_framePushes ⟨u2, hw, rfl, rfl⟩
    refine ⟨?_, ht⟩
    rw [copyParams, run_bind_get, hu.stackLin, State.stackLin, run_bind_ok hr, run_bind_ok hpush, hrun]

/-- A call to an inner level: the old stack pointer, the parameters and the return address on the new stack (R580). -/
theorem run_callGateInner {w : Width} {tsel : W16} {toff p q r : W32} {k : Nat} {i : InnerSS} {s3 s4 s5 s6 s7 : State}
    (hu : s.sameButWalk u) (hi : innerStack (dplOf d.e2) u = .ok i s3)
    (hlim : (descLimit d.e1 d.e2).ult toff = false) (hm : (do markAccessed i.desc; markAccessed d) s3 = .ok () s4)
    (hp : framePushes true (descBase i.desc.e1 i.desc.e2) (maskOfRights i.desc.e2) w.bytes
      (i.nesp &&& maskOfRights i.desc.e2) [s.segs.ss.sel.setWidth 32, s.regs.esp] s4 p s5)
    (hq : gateParams w (descBase i.desc.e1 i.desc.e2) (maskOfRights i.desc.e2) s k p s5 q s6)
    (hr : framePushes true (descBase i.desc.e1 i.desc.e2) (maskOfRights i.desc.e2) w.bytes q
      [s.segs.cs.sel.setWidth 32, s.nextpc] s6 r s7) :
    callGateInner w tsel toff k d u = .ok () { s7 with
      cpl := dplOf d.e2,
      regs := s.regs.set .esp (maskedInto (maskOfRights i.desc.e2) s.regs.esp r),
      segs := (s.segs.set .ss (codeReg (selWithRpl i.nss (dplOf d.e2)) i.desc)).set .cs
        (codeReg (selWithRpl tsel (dplOf d.e2)) d),
      pc := toff } := by
  obtain ⟨_, v, hm1, hm2⟩ := bind_ok_iff.mp hm
  have hpush1 := pushList_of_framePushes hp
  have hpush2 := pushList_of_framePushes hr
  have hs3 : s.sameButWalk s3 := hu.trans (sameButWalk_of_ok (quiet_innerStack _) hi)
  have hs5 : s.sameButWalk s5 := ((hs3.trans (sameButWalk_of_ok (quiet_markAccessed _) hm1)).trans
    (sameButWalk_of_ok (quiet_markAccessed _) hm2)).trans (sameButWalk_of_ok (quiet_pushList _ _ _ _ _ _) hpush1)
  obtain ⟨hcopy, hs6⟩ := run_copyParams s k p q s5 s6 hs5 hq
  have hs7 := hs6.trans (sameButWalk_of_ok (quiet_pushList _ _ _ _ _ _) hpush2)
  rw [callGateInner, run_bind_get, run_bind_ok hi, hlim, run_bind_raiseIf_false, run_bind_ok hm1, run_bind_ok hm2,
    hu.segs, hu.regs, hu.nextpc, run_bind_ok hpush1, run_bind_ok hcopy, run_bind_ok hpush2, ← hs7.segs, ← hs7.regs]
  rfl

end

section
variable {s s0 s1 t : State} {sel : W16} {off : W32} {g : Desc} {jump call : Instr}

/-- A far call to a call gate runs the gate from the state after its descriptor is read (R575). -/
theorem exec_call_gate (hpe : s.pe = true) (hform : FarForm s jump call sel off s0) (hnull : ecSel sel ≠ 0#32)
    (hd : descRead sel s0 = .ok (some g) s1) (hs : g.e2.getLsbD 12 = false) (hty : sysTypeOf g.e2 ∈ [4#4, 12#4]) :
    ∃ m, exec call s = complete m s ∧ m s = callGate sel g s1 := by
  obtain ⟨hreads, -, m, hexec, hm⟩ := exec_of_farForm hform
  refine ⟨m, hexec, ?_⟩
  rw [hm, farCall_of_pe (hreads.1.pe.trans hpe), farCallProt_eq, farProt_of_gate hnull hd hs hty]

end

/-- Settles O57. -/
theorem callGateCompletes : Obligations.CallGateCompletes := by
  intro s s0 s1 sel off g d jump call hpe hform hnull hd hs ty w tsel toff ec dpl denied seg cs items inner hty
  have hec : ecSel sel ≠ 0#32 := fun h => Bool.eq_false_iff.mp (beq_false_of_ne hnull) ((selNull_iff sel).mpr h)
  have hmem : ty ∈ [4#4, 12#4] := by
    rcases hty with h | h
    · rw [h]; decide
    · rw [h]; decide
  obtain ⟨m, hexec, hm⟩ := exec_call_gate hpe hform hec hd hs hmem
  have hs1 : s.sameButWalk s1 := (exec_of_farForm hform).1.1.trans (sameButWalk_of_ok (quiet_descRead sel) hd)
  have hrun := hm.trans (callGate_eq sel g s1)
  have hdenied : ((dplOf g.e2).ult s.cpl || (dplOf g.e2).ult (selRpl sel)) = denied := rfl
  rw [hs1.cpl, hdenied] at hrun
  refine ⟨fun hden => ?_, fun hden hp => ?_, fun hden hp => ⟨fun x t ht => ?_, fun s2 ht => ?_⟩⟩
  · refine hexec.trans (complete_raise (hrun.trans ?_))
    rw [hden]
    rfl
  · refine hexec.trans (complete_raise (hrun.trans ?_))
    rw [hden, hp]
    rfl
  · rw [hden, hp, Bool.not_true,
      run_bind_raiseIf_false, run_bind_raiseIf_false, run_bind_error ht] at hrun
    exact hexec.trans (complete_raise hrun)
  · have hs2 := hs1.trans (sameButWalk_of_ok (quiet_gateTarget _) ht)
    have hover : ∀ {b}, (descLimit d.e1 d.e2).ult toff = b → (descLimit d.e1 d.e2).ult (gateOffset g) = b := id
    have hinner : goesInner s1 d = inner := by
      rw [goesInner, hs1.cpl]
      rfl
    rw [hden, hp, Bool.not_true,
      run_bind_raiseIf_false, run_bind_raiseIf_false, run_bind_ok ht, run_cond, hinner] at hrun
    refine ⟨fun hin hlim => ?_, fun hin hlim s3 s4 hmark hpush => ⟨?_, frames_of_accesses hpush⟩,
      fun hin x t hx => ?_, fun hin i s3 hi => ?_⟩
    · refine hexec.trans (complete_raise (hrun.trans ?_))
      rw [hin, cond_false, throughGate, hover hlim]
      rfl
    · have hs3 := hs2.trans (sameButWalk_of_ok (quiet_markAccessed d) hmark)
      refine hexec.trans (complete_ok (u := ()) (hrun.trans ?_))
      rw [hin, cond_false, throughGate, hover hlim,
        run_bind_raiseIf_false, run_bind_ok hmark]
      exact run_enterCall hs3 hpush _ d _
    · refine hexec.trans (complete_raise (hrun.trans ?_))
      rw [hin, cond_true, callGateInner, run_bind_get]
      exact run_bind_error hx
    · intro nb nm
      refine ⟨fun hlim => ?_, fun hlim p q r s4 s5 s6 s7 hmark hp1 hp2 hp3 => ?_⟩
      · refine hexec.trans (complete_raise (hrun.trans ?_))
        rw [hin, cond_true, callGateInner, run_bind_get]
        refine (run_bind_ok hi).trans ?_
        rw [hover hlim]
        rfl
      · refine hexec.trans (complete_ok (u := ()) (hrun.trans ?_))
        rw [hin, cond_true]
        exact run_callGateInner hs2 hi hlim hmark hp1 hp2 hp3

end Sys2Proof.Machine
end

section
/-! The system registers (R601 to R604, R610 to R613, R617 to R623) and the queries of a descriptor (R614 to R616, R625,
R626). -/

namespace Sys2Proof.Machine

variable {α β : Type}

/-- Two rules that run alike in a state end an instruction alike. -/
theorem complete_congr {m m' : M Unit} {s : State} (h : m s = m' s) : complete m s = complete m' s := by
  rw [complete, complete, h]

theorem complete_protected {m : M Unit} {s : State} (hpe : s.pe = true) :
    complete (do protectedOnly; m) s = complete m s := complete_congr (run_bind_ok (protectedOnly_of_pe hpe))

theorem complete_at_zero {m : M Unit} {s : State} (hc : s.cpl = 0#2) :
    complete (do privileged; m) s = complete m s := complete_congr (run_bind_ok (privileged_of_zero hc))

/-! ### The table registers -/

section
variable {s s1 s2 s3 t : State} {rm : Rm} {seg : Sreg} {off lim b v : W32} {w : Width}

theorem complete_storeTable (hl : s.locOf rm = some (.mem seg off)) {x : TableReg}
    (h1 : writeLoc .w16 (.mem seg off) x.limit s = .ok () s1)
    (h2 : writeLoc .w32 (.mem seg (truncW s.asz (off + 2#32))) x.base s1 = .ok () s2) :
    complete (storeTable rm x) s = .next { s2 with pc := s.nextpc } := by
  have hs1 := sameButWalk_of_writeLoc_mem h1
  have h1' : accWrite (s.lin seg off) 2 x.limit s = .ok () s1 := h1
  have h2' : accWrite (s.linAt seg (off + 2#32)) 4 x.base s1 = .ok () s2 := by
    rw [State.linAt, ← hs1.lin]
    exact h2
  refine complete_advance ?_ (hs1.trans (sameButWalk_of_writeLoc_mem h2)).nextpc
  rw [storeTable, run_bind_ok (locateMem_of_mem hl)]
  dsimp only
  rw [run_bind_get, run_bind_ok h1', run_bind_ok h2']

theorem complete_loadTable (hc : s.cpl = 0#2) (hl : s.locOf rm = some (.mem seg off))
    (h1 : readLoc .w16 (.mem seg off) s = .ok lim s1)
    (h2 : readLoc .w32 (.mem seg (truncW s.asz (off + 2#32))) s1 = .ok b s2) (put : State → TableReg → State) :
    complete (loadTable w rm put) s = complete (do
      upd fun t => put t { base := bif w == .w16 then b &&& 0x00FFFFFF#32 else b, limit := lim }
      advance) s2 := by
  have hs1 := afterReads_of_readLoc h1
  have h1' : accRead (s.lin seg off) 2 s = .ok lim s1 := h1
  have h2' : accRead (s.linAt seg (off + 2#32)) 4 s1 = .ok b s2 := by
    rw [State.linAt, ← hs1.1.lin]
    exact h2
  have hrun : loadTable w rm put s = (do
      upd fun t => put t { base := bif w == .w16 then b &&& 0x00FFFFFF#32 else b, limit := lim }
      advance : M Unit) s2 := by
    rw [loadTable, run_bind_ok (locateMem_of_mem hl)]
    dsimp only
    rw [run_bind_ok (privileged_of_zero hc), run_bind_get, run_bind_ok h1', run_bind_ok h2']
  rw [complete, complete, hrun]

theorem complete_invlpg (hc : s.cpl = 0#2) (hl : s.locOf rm = some (.mem seg off)) :
    exec (.invlpgM rm) s
      = .next { s.tlbFlushPage (vpnOf ((s.segs.get seg).base + off)) with pc := s.nextpc } := by
  refine complete_ok (u := ()) ?_
  rw [run_bind_ok (locateMem_of_mem hl)]
  dsimp only
  rw [run_bind_ok (privileged_of_zero hc)]
  rfl

/-! ### Reading a system register as a word -/

theorem complete_storeWord_reg {q : Reg} (hl : s.locOf rm = some (.reg q)) (w : Width) (x : W32) :
    complete (do storeWord w rm x; advance) s = .next { s with regs := s.regs.write w q x, pc := s.nextpc } := by
  refine complete_ok (u := ()) ?_
  rw [run_bind_ok (run_storeWord_reg hl w x)]
  rfl

theorem complete_storeWord_mem {x : W32} (hl : s.locOf rm = some (.mem seg off))
    (hw : writeLoc .w16 (.mem seg off) x s = .ok () s1) (w : Width) :
    complete (do storeWord w rm x; advance) s = .next { s1 with pc := s.nextpc } := by
  refine complete_advance ?_ (sameButWalk_of_writeLoc_mem hw).nextpc
  rw [run_bind_ok (run_storeWord_mem hl hw w)]

/-- SLDT, STR and SMSW store a word of the state (R610, R611, R617). -/
theorem exec_storeWord {i : Instr} {x : W32}
    (hi : (i, x) ∈ [(.sldtRm16 rm, s.segs.ldtr.sel.setWidth 32), (.strRm16 rm, s.segs.tr.sel.setWidth 32),
      (.smswRm16 rm, s.cr0)]) (hpe : s.pe = true ∨ i = .smswRm16 rm) :
    exec i s = complete (do storeWord s.osz rm x; advance) s := by
  simp only [List.mem_cons, Prod.mk.injEq, List.not_mem_nil, or_false] at hi
  rcases hi with ⟨rfl, rfl⟩ | ⟨rfl, rfl⟩ | ⟨rfl, rfl⟩
  · exact complete_protected (m := storeSelector s.osz rm .ldtr) (hpe.resolve_right nofun)
  · exact complete_protected (m := storeSelector s.osz rm .tr) (hpe.resolve_right nofun)
  · rfl

/-! ### The control registers -/

/-- WriteCR0 as the state it leaves: a change of PG, WP or PE flushes the TLB (R621, R172). -/
theorem writeCr0_eq (u : State) (x : W32) : u.writeCr0 x
    = bif ((x ||| 0x10#32) ^^^ u.cr0) &&& 0x80010001#32 == 0#32 then { u with cr0 := x ||| 0x10#32 }
      else { u.tlbFlushAll with cr0 := x ||| 0x10#32 } := by
  rw [State.writeCr0]
  cases ((x ||| 0x10#32) ^^^ u.cr0) &&& 0x80010001#32 == 0#32 <;> rfl

theorem nextpc_writeCr0 (u : State) (x : W32) : (u.writeCr0 x).nextpc = u.nextpc := by
  rw [writeCr0_eq]
  cases ((x ||| 0x10#32) ^^^ u.cr0) &&& 0x80010001#32 == 0#32 <;> rfl

theorem locateReg_of_locOf {q : Reg} (hl : s.locOf rm = some (.reg q)) : locateReg rm s = .ok q s := by
  rw [locateReg, run_bind_ok (locate_of_locOf hl)]
  rfl

theorem complete_readControl {q : Reg} (hc : s.cpl = 0#2) (hl : s.locOf rm = some (.reg q)) {n : BitVec 3}
    (hn : controlExists n = true) :
    complete (readControl rm n) s = .next { s with regs := s.regs.set q (s.readCr n), pc := s.nextpc } := by
  refine complete_ok (u := ()) ?_
  rw [readControl, run_bind_ok (locateReg_of_locOf hl), hn, Bool.not_true, run_bind_raiseIf_false,
    run_bind_ok (privileged_of_zero hc)]
  rfl

theorem complete_writeControl {q : Reg} (hc : s.cpl = 0#2) (hl : s.locOf rm = some (.reg q)) {n : BitVec 3}
    (hn : controlExists n = true) :
    complete (writeControl rm n) s
      = .next { s.writeCr n (s.regs.get q) with pc := (s.writeCr n (s.regs.get q)).nextpc } := by
  refine complete_ok (u := ()) ?_
  rw [writeControl, run_bind_ok (locateReg_of_locOf hl), hn, Bool.not_true, run_bind_raiseIf_false,
    run_bind_ok (privileged_of_zero hc)]
  rfl

theorem complete_movToDr {q : Reg} (hc : s.cpl = 0#2) (hl : s.locOf rm = some (.reg q)) (n : BitVec 3) :
    exec (.movDrR32 n rm) s = .next { s with pc := s.nextpc } := by
  refine complete_ok (u := ()) ?_
  rw [run_bind_ok (locateReg_of_locOf hl), run_bind_ok (privileged_of_zero hc)]
  rfl

theorem complete_loadMsw {l : Loc} (hc : s.cpl = 0#2) (hl : s.locOf rm = some l) (hr : readLoc .w16 l s = .ok v s1) :
    exec (.lmswRm16 rm) s = .next { s1.writeCr0 ((s.cr0 &&& 0xFFFFFFF0#32) ||| (v &&& 0xE#32) ||| ((s.cr0 ||| v) &&& 1#32))
      with pc := s.nextpc } := by
  have hreads := afterReads_of_readLoc hr
  refine complete_advance ?_ ((nextpc_writeCr0 _ _).trans hreads.nextpc)
  rw [run_bind_ok (privileged_of_zero hc), run_bind_ok (readRm_of_locOf hl hr), run_bind_upd, hreads.1.cr0]

end

/-! ### LLDT and LTR -/

/-- The checks that LLDT and LTR share, after the null selector: the table, the type and the presence (R612, R613). -/
def checkedSystem (valid : List (BitVec 4)) (sel : W16) (k : Desc → M Unit) : M Unit := do
  raiseIf (sel.getLsbD 2) (.gp (ecSel sel))
  let d ← descReadOr sel (.gp (ecSel sel))
  raiseIf (d.e2.getLsbD 12 || !valid.contains (sysTypeOf d.e2)) (.gp (ecSel sel))
  raiseIf (!d.e2.getLsbD 15) (.np (ecSel sel))
  k d

/-- LDTR from a descriptor (R612). -/
def putLdtr (sel : W16) (d : Desc) : M Unit := do
  setSeg .ldtr sel (descBase d.e1 d.e2) (descLimit d.e1 d.e2) d.e2
  advance

/-- TR from a descriptor that is marked busy (R613). -/
def putTr (sel : W16) (d : Desc) : M Unit := do
  sysWrite (d.addr + 4#32) 4 (d.e2 ||| 0x200#32)
  setSeg .tr sel (descBase d.e1 d.e2) (descLimit d.e1 d.e2) (d.e2 ||| 0x200#32)
  advance

section
variable {s t u : State} {sel : W16} {d : Desc} {valid : List (BitVec 4)} {k : Desc → M Unit}

theorem checkedSystem_of_local (h : sel.getLsbD 2 = true) :
    checkedSystem valid sel k u = .error (.raise (.gp (ecSel sel))) u := by
  rw [checkedSystem, h]
  rfl

theorem checkedSystem_of_none (h : sel.getLsbD 2 = false) (hd : descRead sel u = .ok none t) :
    checkedSystem valid sel k u = .error (.raise (.gp (ecSel sel))) t := by
  rw [checkedSystem, h, run_bind_raiseIf_false, run_bind_error (descReadOr_of_none hd)]

theorem checkedSystem_of_some (h : sel.getLsbD 2 = false) (hd : descRead sel u = .ok (some d) t) :
    checkedSystem valid sel k u = (do
      raiseIf (d.e2.getLsbD 12 || !valid.contains (sysTypeOf d.e2)) (.gp (ecSel sel))
      raiseIf (!d.e2.getLsbD 15) (.np (ecSel sel))
      k d) t := by
  rw [checkedSystem, h, run_bind_raiseIf_false, run_bind_ok (descReadOr_of_some hd)]

variable {rm : Rm} {l : Loc} {v : W32} {s1 : State}

theorem exec_lldt (hpe : s.pe = true) (hc : s.cpl = 0#2) (hl : s.locOf rm = some l) (hr : readLoc .w16 l s = .ok v s1) :
    ∃ m, exec (.lldtRm16 rm) s = complete m s
      ∧ m s = (bif selNull (v.setWidth 16) then do
          setSeg .ldtr (v.setWidth 16) 0#32 0#32 0#32
          advance
        else checkedSystem [2#4] (v.setWidth 16) (putLdtr (v.setWidth 16))) s1 := by
  have hty : ∀ ty : BitVec 4, (ty != 2#4) = !([2#4].contains ty) := by decide
  refine ⟨loadLdtr rm, (complete_protected hpe).trans (complete_at_zero hc), ?_⟩
  rw [loadLdtr, run_bind_ok (readRm_of_locOf hl hr)]
  simp only [hty]
  rfl

theorem exec_ltr (hpe : s.pe = true) (hc : s.cpl = 0#2) (hl : s.locOf rm = some l) (hr : readLoc .w16 l s = .ok v s1) :
    ∃ m, exec (.ltrRm16 rm) s = complete m s
      ∧ m s = (do
          raiseIf (selNull (v.setWidth 16)) (.gp 0#32)
          checkedSystem [1#4, 9#4] (v.setWidth 16) (putTr (v.setWidth 16))) s1 := by
  have hty : ∀ ty : BitVec 4, (ty != 1#4 && ty != 9#4) = !([1#4, 9#4].contains ty) := by decide
  refine ⟨loadTr rm, (complete_protected hpe).trans (complete_at_zero hc), ?_⟩
  rw [loadTr, run_bind_ok (readRm_of_locOf hl hr)]
  simp only [hty]
  rfl

/-- With a selector that is not null both run their shared checks (R612, R613). -/
theorem exec_checkedSystem (hpe : s.pe = true) (hc : s.cpl = 0#2) (hl : s.locOf rm = some l)
    (hr : readLoc .w16 l s = .ok v s1) (hnull : selNull (v.setWidth 16) = false) {i : Instr}
    (hi : (i, valid) ∈ [(.lldtRm16 rm, [2#4]), (.ltrRm16 rm, [1#4, 9#4])]) :
    ∃ m k, exec i s = complete m s ∧ m s = checkedSystem valid (v.setWidth 16) k s1 := by
  simp only [List.mem_cons, Prod.mk.injEq, List.not_mem_nil, or_false] at hi
  rcases hi with ⟨rfl, rfl⟩ | ⟨rfl, rfl⟩
  · obtain ⟨m, hexec, hm⟩ := exec_lldt hpe hc hl hr
    exact ⟨m, _, hexec, hm.trans (by rw [hnull]; rfl)⟩
  · obtain ⟨m, hexec, hm⟩ := exec_ltr hpe hc hl hr
    exact ⟨m, _, hexec, hm.trans (by rw [hnull]; rfl)⟩

end

/-- Settles O58. -/
theorem systemRegistersComplete : Obligations.SystemRegistersComplete := by
  intro s s1 s2 s3 rm l seg off lim b v r n d hl sel ec high put cr0
  refine ⟨?_, ?_, ?_⟩
  · rintro rfl
    refine ⟨fun t i hi h1 h2 => ⟨?_, stored_of_writeLoc h1, stored_of_writeLoc h2⟩, fun hc h1 h2 => ?_,
      fun hc => complete_invlpg hc hl, fun i x hi hpe hw => ⟨?_, stored_of_writeLoc hw⟩⟩
    · simp only [List.mem_cons, Prod.mk.injEq, List.not_mem_nil, or_false] at hi
      rcases hi with ⟨rfl, rfl⟩ | ⟨rfl, rfl⟩
      · exact complete_storeTable hl h1 h2
      · exact complete_storeTable hl h1 h2
    · have hreads := (afterReads_of_readLoc h1).trans (afterReads_of_readLoc h2)
      have hp : s2.nextpc = s.nextpc := hreads.nextpc
      refine ⟨hreads, (complete_loadTable hc hl h1 h2 State.setGdtr).trans ?_,
        (complete_loadTable hc hl h1 h2 State.setIdtr).trans ?_⟩
      · exact complete_advance rfl hp
      · exact complete_advance rfl hp
    · rw [exec_storeWord hi hpe, complete_storeWord_mem hl hw]
  · rintro rfl
    refine ⟨fun i x hi hpe => ?_, fun hc => ⟨fun k x hk => ?_, ?_, ?_, ?_, ?_, complete_movToDr hc hl n⟩⟩
    · rw [exec_storeWord hi hpe, complete_storeWord_reg hl]
    · simp only [List.mem_cons, Prod.mk.injEq, List.not_mem_nil, or_false] at hk
      rcases hk with ⟨rfl, rfl⟩ | ⟨rfl, rfl⟩ | ⟨rfl, rfl⟩ | ⟨rfl, rfl⟩
      iterate 4 exact complete_readControl hc hl (by decide)
    · refine (complete_writeControl hc hl (by decide)).trans ?_
      show Host.Outcome.next { s.writeCr0 (s.regs.get r) with pc := (s.writeCr0 (s.regs.get r)).nextpc } = _
      rw [nextpc_writeCr0, writeCr0_eq]
    · exact complete_writeControl hc hl (by decide)
    · exact complete_writeControl hc hl (by decide)
    · exact complete_writeControl hc hl (by decide)
  · intro hr hc
    have hreads := afterReads_of_readLoc hr
    refine ⟨hreads, ?_, fun hpe hnull => ?_, fun hpe hnull => ?_, fun hpe hnull i valid hi => ?_,
      fun hpe hnull hti hd hs hp => ?_⟩
    · rw [complete_loadMsw hc hl hr, writeCr0_eq, hreads.1.cr0]
    · obtain ⟨m, hexec, hm⟩ := exec_lldt hpe hc hl hr
      rw [← hreads.1.segs]
      refine hexec.trans (complete_advance (t := s1.setSegReg .ldtr ⟨sel, 0#32, 0#32, 0#32⟩) (hm.trans ?_)
        hreads.nextpc)
      rw [show selNull sel = true from beq_iff_eq.mpr hnull]
      rfl
    · obtain ⟨m, hexec, hm⟩ := exec_ltr hpe hc hl hr
      refine hexec.trans (complete_raise (hm.trans ?_))
      rw [show selNull sel = true from beq_iff_eq.mpr hnull]
      rfl
    · obtain ⟨m, k, hexec, hm⟩ := exec_checkedSystem hpe hc hl hr (beq_false_of_ne hnull) hi
      refine ⟨fun h => hexec.trans (complete_raise (hm.trans (checkedSystem_of_local h))),
        fun h hd => hexec.trans (complete_raise (hm.trans (checkedSystem_of_none h hd))), fun h hd => ?_⟩
      intro bad
      have hrun := hm.trans (checkedSystem_of_some h hd)
      have hbad : (d.e2.getLsbD 12 || !valid.contains (sysTypeOf d.e2)) = bad := rfl
      rw [hbad] at hrun
      refine ⟨fun hb => hexec.trans (complete_raise (hrun.trans ?_)),
        fun hb hp => hexec.trans (complete_raise (hrun.trans ?_))⟩
      · rw [hb]
        rfl
      · rw [hb, hp]
        rfl
    · intro ty
      have hs2 := hreads.1.trans (sameButWalk_of_ok (quiet_descRead sel) hd)
      refine ⟨fun hty => ?_, fun hty hw => ?_⟩
      · obtain ⟨m, hexec, hm⟩ := exec_lldt hpe hc hl hr
        rw [← hs2.segs]
        refine hexec.trans (complete_advance (t := s2.setSegReg .ldtr
          ⟨sel, descBase d.e1 d.e2, descLimit d.e1 d.e2, d.e2⟩) (hm.trans ?_) hs2.nextpc)
        have hvalid : [2#4].contains (sysTypeOf d.e2) = true := by
          rw [show sysTypeOf d.e2 = 2#4 from hty]
          decide
        rw [show selNull sel = false from beq_false_of_ne hnull, cond_false, checkedSystem_of_some hti hd, hs, hvalid, hp]
        rfl
      · obtain ⟨m, hexec, hm⟩ := exec_ltr hpe hc hl hr
        have hs3 := hs2.trans (sameButWalk_of_ok (quiet_sysWrite _ _ _) hw)
        rw [← hs3.segs]
        refine hexec.trans (complete_advance (t := s3.setSegReg .tr
          ⟨sel, descBase d.e1 d.e2, descLimit d.e1 d.e2, d.e2 ||| 0x200#32⟩) (hm.trans ?_) hs3.nextpc)
        have hvalid : [1#4, 9#4].contains (sysTypeOf d.e2) = true := by
          rcases hty with h | h
          · rw [show sysTypeOf d.e2 = 1#4 from h]; decide
          · rw [show sysTypeOf d.e2 = 9#4 from h]; decide
        rw [show selNull sel = false from beq_false_of_ne hnull, run_bind_raiseIf_false, checkedSystem_of_some hti hd, hs,
          hvalid, hp]
        exact run_bind_ok hw

end Sys2Proof.Machine
end

section
/-! The queries of a descriptor: VERR, VERW, LAR, LSL and ARPL (R600, R614 to R616, R625, R626). -/

namespace Sys2Proof.Machine

variable {α β : Type}

/-- The state of a query that ends with ZF, the other flags as they were in s (R600). -/
def State.withZf (s : State) (b : Bool) (u : State) : State :=
  { u with cc := s.cc.setImage ((s.cc.image &&& 0x895#32) ||| atBit b 6), pc := s.nextpc }

section
variable {s s1 s2 t : State} {rm : Rm} {l : Loc} {r : Reg} {v : W32} {d : Desc} {i : Instr}

theorem complete_setZf {m : M Unit} {b : Bool} (hm : m s = (do setZf b; advance) t) (hcc : t.cc = s.cc)
    (hp : t.nextpc = s.nextpc) : complete m s = .next (s.withZf b t) := by
  refine complete_flags (f := fun c => c.setImage ((c.image &&& ~~~0x40#32) ||| atBit b 6)) hm ?_ hp
  have hmask : (0x8D5#32 &&& ~~~0x40#32 : W32) = 0x895#32 := by decide
  rw [hcc, image_and, hmask]

/-- In real-address mode the instruction raises #UD before anything else (R600). -/
theorem exec_protectedOnly (hpe : s.pe = false)
    (hi : i ∈ [.arplRm16R16 rm r, .sldtRm16 rm, .strRm16 rm, .lldtRm16 rm, .ltrRm16 rm]
      ++ [.verrRm16 rm, .verwRm16 rm, .larRvRm16 r rm, .lslRvRm16 r rm]) :
    exec i s = .next (takeException .ud s) := by
  simp only [List.cons_append, List.nil_append, List.mem_cons, List.not_mem_nil, or_false] at hi
  rcases hi with rfl | rfl | rfl | rfl | rfl | rfl | rfl | rfl | rfl
  iterate 9 exact complete_raise (run_bind_error (protectedOnly_of_real hpe))

theorem descIfAny_of_null (h : selNull (v.setWidth 16) = true) : descIfAny (v.setWidth 16) s = .ok none s := by
  rw [descIfAny, h]
  rfl

theorem descIfAny_of_ne (h : selNull (v.setWidth 16) = false) :
    descIfAny (v.setWidth 16) s = descRead (v.setWidth 16) s := by
  rw [descIfAny, h]
  rfl

/-! ### The rules by what the selector names -/

theorem run_verify {test : BitVec 2 → W16 → W32 → Bool} {o : Option Desc} (hl : s.locOf rm = some l)
    (hr : readLoc .w16 l s = .ok v s1) (hd : descIfAny (v.setWidth 16) s1 = .ok o s2) :
    verify test rm s = (do
      setZf (o.elim false fun d => test s.cpl (v.setWidth 16) d.e2)
      advance) s2 := by
  rw [verify, run_bind_ok (readRm_of_locOf hl hr), run_bind_get, run_bind_ok hd, (afterReads_of_readLoc hr).1.cpl]
  cases o <;> rfl

theorem run_loadDescInfo_none {w : Width} {types : BitVec 4 → Bool} {info : Desc → W32} (hl : s.locOf rm = some l)
    (hr : readLoc .w16 l s = .ok v s1) (hd : descIfAny (v.setWidth 16) s1 = .ok none s2) :
    loadDescInfo w r rm types info s = (do setZf false; advance) s2 := by
  rw [loadDescInfo, run_bind_ok (readRm_of_locOf hl hr), run_bind_get, run_bind_ok hd]

theorem run_loadDescInfo_some {w : Width} {types : BitVec 4 → Bool} {info : Desc → W32} (hl : s.locOf rm = some l)
    (hr : readLoc .w16 l s = .ok v s1) (hd : descIfAny (v.setWidth 16) s1 = .ok (some d) s2) :
    loadDescInfo w r rm types info s = (bif descVisible types s.cpl (v.setWidth 16) d.e2 then do
        writeReg w r (info d)
        setZf true
        advance
      else do
        setZf false
        advance) s2 := by
  rw [loadDescInfo, run_bind_ok (readRm_of_locOf hl hr), run_bind_get, run_bind_ok hd, (afterReads_of_readLoc hr).1.cpl]

theorem complete_verify {test : BitVec 2 → W16 → W32 → Bool} {o : Option Desc} (hpe : s.pe = true)
    (hl : s.locOf rm = some l) (hr : readLoc .w16 l s = .ok v s1) (hd : descIfAny (v.setWidth 16) s1 = .ok o s2)
    (hreads : s.afterReads s2) : complete (do protectedOnly; verify test rm) s
      = .next (s.withZf (o.elim false fun d => test s.cpl (v.setWidth 16) d.e2) s2) := by
  rw [complete_protected hpe]
  exact complete_setZf (run_verify hl hr hd) hreads.cc hreads.nextpc

theorem complete_loadDescInfo_none {w : Width} {types : BitVec 4 → Bool} {info : Desc → W32} (hpe : s.pe = true)
    (hl : s.locOf rm = some l) (hr : readLoc .w16 l s = .ok v s1)
    (hd : descIfAny (v.setWidth 16) s1 = .ok none s2) (hreads : s.afterReads s2) :
    complete (do protectedOnly; loadDescInfo w r rm types info) s = .next (s.withZf false s2) := by
  rw [complete_protected hpe]
  exact complete_setZf (run_loadDescInfo_none hl hr hd) hreads.cc hreads.nextpc

/-- A selector that names nothing clears ZF (R614, R625). -/
theorem exec_query_none (hpe : s.pe = true) (hl : s.locOf rm = some l) (hr : readLoc .w16 l s = .ok v s1)
    (hd : descIfAny (v.setWidth 16) s1 = .ok none s2) (hreads : s.afterReads s2)
    (hi : i ∈ [.verrRm16 rm, .verwRm16 rm, .larRvRm16 r rm, .lslRvRm16 r rm]) :
    exec i s = .next (s.withZf false s2) := by
  simp only [List.mem_cons, List.not_mem_nil, or_false] at hi
  rcases hi with rfl | rfl | rfl | rfl
  · exact complete_verify (test := readable) (o := none) hpe hl hr hd hreads
  · exact complete_verify (test := writable) (o := none) hpe hl hr hd hreads
  · exact complete_loadDescInfo_none hpe hl hr hd hreads
  · exact complete_loadDescInfo_none hpe hl hr hd hreads

theorem complete_loadDescInfo_some {w : Width} {types : BitVec 4 → Bool} {info : Desc → W32} (hpe : s.pe = true)
    (hl : s.locOf rm = some l) (hr : readLoc .w16 l s = .ok v s1)
    (hd : descIfAny (v.setWidth 16) s1 = .ok (some d) s2) (hreads : s.afterReads s2) :
    complete (do protectedOnly; loadDescInfo w r rm types info) s
      = .next (s.withZf (descVisible types s.cpl (v.setWidth 16) d.e2) { s2 with
          regs := bif descVisible types s.cpl (v.setWidth 16) d.e2 then s.regs.write w r (info d) else s.regs }) := by
  have hrun := run_loadDescInfo_some (w := w) (r := r) (types := types) (info := info) hl hr hd
  rw [complete_protected hpe, ← hreads.regs]
  cases hv : descVisible types s.cpl (v.setWidth 16) d.e2 with
  | true =>
    rw [hv, cond_true, run_bind_writeReg] at hrun
    exact complete_setZf hrun hreads.cc hreads.nextpc
  | false =>
    rw [hv, cond_false] at hrun
    exact complete_setZf hrun hreads.cc hreads.nextpc

/-! ### ARPL -/

theorem complete_adjustRpl_raised {h : Held} (hpe : s.pe = true) (hl : s.locOf rm = some l)
    (hr : readLocW .w16 l s = .ok h s1)
    (hlt : (h.val.extractLsb' 0 2 : BitVec 2).ult ((s.regs.read .w16 r).extractLsb' 0 2) = true)
    (hw : writeBack .w16 l h ((h.val &&& 0xFFFC#32) ||| (s.regs.read .w16 r &&& 3#32)) s1 = .ok () s2) :
    exec (.arplRm16R16 rm r) s = .next (s.withZf true s2) := by
  have hreads := afterReads_of_readLocW hr
  have hdata := hreads.data.trans (sameButData_of_writeBack hw)
  refine (complete_protected hpe).trans (complete_setZf ?_ hdata.cc hdata.nextpc)
  rw [adjustRpl, run_bind_ok (locate_of_locOf hl), run_bind_ok hr, run_bind_ok (yields_readReg s .w16 r s1 hreads),
    run_cond, hlt, cond_true, run_bind_ok hw]

theorem complete_adjustRpl_kept {h : Held} (hpe : s.pe = true) (hl : s.locOf rm = some l)
    (hr : readLocW .w16 l s = .ok h s1)
    (hlt : (h.val.extractLsb' 0 2 : BitVec 2).ult ((s.regs.read .w16 r).extractLsb' 0 2) = false) :
    exec (.arplRm16R16 rm r) s = .next (s.withZf false s1) := by
  have hreads := afterReads_of_readLocW hr
  refine (complete_protected hpe).trans (complete_setZf ?_ hreads.cc hreads.nextpc)
  rw [adjustRpl, run_bind_ok (locate_of_locOf hl), run_bind_ok hr, run_bind_ok (yields_readReg s .w16 r s1 hreads),
    run_cond, hlt, cond_false]

end

/-! ### The tests, written out -/

theorem larTypes_eq : ∀ ty : BitVec 4, larTypes ty = [1, 2, 3, 4, 5, 9, 11, 12].contains ty.toNat := by decide

theorem lslTypes_eq : ∀ ty : BitVec 4, lslTypes ty = [1, 2, 3, 9, 11].contains ty.toNat := by decide

theorem descVisible_eq (types : BitVec 4 → Bool) (cpl : BitVec 2) (sel : W16) (e2 : W32) : descVisible types cpl sel e2
    = ((e2.getLsbD 12 && e2.getLsbD 11 && e2.getLsbD 10)
      || (visibleAt cpl sel e2 && (e2.getLsbD 12 || types (sysTypeOf e2)))) := by
  rw [descVisible]
  cases e2.getLsbD 12 with
  | false => rfl
  | true => rw [cond_true, Bool.true_and, Bool.true_or, Bool.and_true]

theorem visibleAt_eq (cpl : BitVec 2) (v e2 : W32) : visibleAt cpl (v.setWidth 16) e2
    = (!(e2.extractLsb' 13 2 : BitVec 2).ult cpl && !(e2.extractLsb' 13 2 : BitVec 2).ult (v.extractLsb' 0 2)) := by
  rw [visibleAt, selRpl_setWidth]
  rfl

/-- Settles O59. -/
theorem descriptorQueriesComplete : Obligations.DescriptorQueriesComplete := by
  intro s s1 s2 rm l r v w sel rpl withZf all
  refine ⟨fun hpe i hi => exec_protectedOnly hpe hi, fun hpe hl hr => ?_, fun hpe hl h hr hv => ?_⟩
  · have hreads := afterReads_of_readLoc hr
    refine ⟨hreads, fun hnull i hi => ?_, fun hnull hd i hi => ?_, fun d hnull hd => ?_⟩
    · exact exec_query_none hpe hl hr (descIfAny_of_null (beq_iff_eq.mpr hnull)) hreads hi
    · exact exec_query_none hpe hl hr ((descIfAny_of_ne (beq_false_of_ne hnull)).trans hd)
        (hreads.trans ((reading_descRead _).of_ok hd)) hi
    · intro dpl seen segment code mid low ty verr verw lar lsl rights
      have hd' := (descIfAny_of_ne (beq_false_of_ne hnull)).trans hd
      have hs2 := hreads.trans ((reading_descRead _).of_ok hd)
      have hseen : visibleAt s.cpl sel d.e2 = seen := visibleAt_eq s.cpl v d.e2
      have hlar : descVisible larTypes s.cpl sel d.e2 = lar := by
        rw [descVisible_eq, hseen, larTypes_eq]
        rfl
      have hlsl : descVisible lslTypes s.cpl sel d.e2 = lsl := by
        rw [descVisible_eq, hseen, lslTypes_eq]
        rfl
      refine ⟨hs2, ?_, ?_, ?_, ?_⟩
      · refine (complete_verify (test := readable) hpe hl hr hd' hs2).trans ?_
        rw [Option.elim_some, readable, hseen]
        rfl
      · refine (complete_verify (test := writable) hpe hl hr hd' hs2).trans ?_
        rw [Option.elim_some, writable, hseen]
        rfl
      · refine (complete_loadDescInfo_some hpe hl hr hd' hs2).trans ?_
        rw [hlar]
        rfl
      · refine (complete_loadDescInfo_some hpe hl hr hd' hs2).trans ?_
        rw [hlsl]
        rfl
  · subst hv
    exact ⟨afterReads_of_readLocW hr,
      fun hlt hw => ⟨complete_adjustRpl_raised hpe hl hr hlt hw, storedBack_of_writeBack hr hw⟩,
      fun hlt => complete_adjustRpl_kept hpe hl hr hlt⟩

end Sys2Proof.Machine
end
